-- ==== Sys2Proof/Word.lean ====
section
/-! DEFINITION. The plain words of the LK820: bytes of frames and of the image, group masks, the 16-bit epoch,
and the numbers of channels, inputs and groups (spec/00_scope.md 3.2, spec/08 introduction). -/

namespace Sys2Proof

/-- A byte of a frame payload or of the configuration image. -/
abbrev Byte := BitVec 8

/-- A set of inhibit groups: bit g stands for group g (scope 3.2 (3)). -/
abbrev GroupMask := BitVec 8

/-- The epoch, a 16-bit count that wraps from 65,535 to 0 (R59). -/
abbrev Epoch := BitVec 16

/-- An output channel number 0..7; channel n drives OUTn (scope 3.2 (2)). -/
abbrev ChannelIx := Fin 8

/-- An input line number 0..7 (R133). -/
abbrev InputIx := Fin 8

/-- An inhibit group number 0..7 (scope 3.2 (3)). -/
abbrev GroupIx := Fin 8

/-- The eight numbers 0..7 in ascending order: channels, inputs and groups are walked in it. -/
def allEight : List (Fin 8) := [0, 1, 2, 3, 4, 5, 6, 7]

end Sys2Proof
end

