-- ==== Sys2Proof/Syntax.lean ====
section
/-! DEFINITION. The commands of the LK820: one constructor for each row of spec/opcode_table.json, with the
operands the row's event brings from outside the part. -/

namespace Sys2Proof

/-- The three kinds of reset (R186). -/
inductive ResetKind where
  | powerOn
  | supplyDrop
  | resetPin
  deriving DecidableEq, Repr

/-- How a frame starts at this station (R170): the station itself has its opportunity to start a frame, or it
sees the first leading edge of another station's frame. -/
inductive SofCause where
  | ownStart
  | otherStation
  deriving DecidableEq, Repr

/-- The fields every frame carries beside its kind and payload (R149): class, source ID and profile tag. The
length and the check of an accepted frame follow from the rest (R149, R152). -/
structure FrameHead where
  cls : BitVec 2
  source : BitVec 6
  tag : Byte
  deriving DecidableEq, Repr

/-- One command of the station: a row of the opcode table with its operands. -/
inductive Instr where
  /-- RESET_ONSET (R186): a reset of this kind begins. -/
  | resetOnset (kind : ResetKind)
  /-- RESET_END (R186, R188): the reset of this kind ends; the last to end starts the oscillator. -/
  | resetEnd (kind : ResetKind)
  /-- OSCILLATOR_START_WAIT_END (R188): the 32,768th oscillator period. -/
  | oscillatorStartWaitEnd
  /-- RETRY_READ_START (R191): the second read begins. -/
  | retryReadStart
  /-- READ_END (R190, R192): the read ends with these bytes on DI. -/
  | readEnd (bytes : List Byte)
  /-- LINE_IDLE (R169): the line has been recessive for 11 bit times. -/
  | lineIdle
  /-- COURTESY_GAP_END (R171): the line has been recessive for 15 bit times. -/
  | courtesyGapEnd
  /-- START_OF_FRAME (R170). -/
  | startOfFrame (cause : SofCause)
  /-- ARBITRATION_LOST (R172): at this bit of the arbitration field '0' was read. -/
  | arbitrationLost (bit : Fin 12)
  /-- ATTEMPT_ABORTED (R173): at this bit of the frame the readback differed from the bit sent. -/
  | attemptAborted (bit : Nat)
  /-- FRAME_TRUNCATED (R174): no leading edge came within 1.5 bit times. -/
  | frameTruncated
  /-- FRAME_VETOED (R176): the veto slot is read dominant; `read` are the bits this station read before it. -/
  | frameVetoed (read : List Bool)
  /-- BEACON_ACCEPTED (R60): a BEACON with these 14 payload bytes (R155). -/
  | beaconAccepted (head : FrameHead) (payload : Vector Byte 14)
  /-- CLAIM_ACCEPTED (R12): a CLAIM with these 2 payload bytes (R156). -/
  | claimAccepted (head : FrameHead) (payload : Vector Byte 2)
  /-- RELEASE_ACCEPTED (R16): a RELEASE with this payload byte (R156). -/
  | releaseAccepted (head : FrameHead) (payload : Vector Byte 1)
  /-- RENEW_ACCEPTED (R17): a RENEW with these payload bytes, 1 to 8 entries of 2 bytes (R157). -/
  | renewAccepted (head : FrameHead) (payload : List Byte)
  /-- INHIBIT_ACCEPTED (R95): an INHIBIT with these 2 payload bytes (R158). -/
  | inhibitAccepted (head : FrameHead) (payload : Vector Byte 2)
  /-- TIMESET_ACCEPTED (R110): a TIMESET with these 7 payload bytes (R158). -/
  | timesetAccepted (head : FrameHead) (payload : Vector Byte 7)
  /-- DEMAND_ACCEPTED (R143): a DEMAND with these 5 payload bytes (R159). -/
  | demandAccepted (head : FrameHead) (payload : Vector Byte 5)
  /-- QUERY_ACCEPTED (R202): a QUERY with these 2 payload bytes (R159). -/
  | queryAccepted (head : FrameHead) (payload : Vector Byte 2)
  /-- REPORT_ACCEPTED (R150): a REPORT with these 19 payload bytes (R160). -/
  | reportAccepted (head : FrameHead) (payload : Vector Byte 19)
  /-- UNDEFINED_KIND_ACCEPTED (R150): a frame of kind 9 + `kind`, that is 9..15. -/
  | undefinedKindAccepted (head : FrameHead) (kind : Fin 7) (payload : List Byte)
  /-- BEACON_TIMER_EXPIRY (R56). -/
  | beaconTimerExpiry
  /-- MUTE_TIMER_EXPIRY (R75). -/
  | muteTimerExpiry
  /-- RUN_ALLOWANCE_EXPIRY (R90) of this channel. -/
  | runAllowanceExpiry (channel : ChannelIx)
  /-- REST_END (R92) of this channel. -/
  | restEnd (channel : ChannelIx)
  /-- INPUT_LEVEL_CHANGE (R135): the line of this input goes to this level (true: high). -/
  | inputLevelChange (input : InputIx) (high : Bool)
  /-- DEBOUNCE_EXPIRY (R135) of this input. -/
  | debounceExpiry (input : InputIx)
  /-- FRACTION_STEP (R102): the phase counter passes 511. -/
  | fractionStep
  /-- STATUS_BLINK (R206): the blink code reaches its next change of level. -/
  | statusBlink
  /-- VETOED_FRAME_ACCEPTED_BY_LINE (R176): the station cast a veto, and reads the veto slot recessive. -/
  | vetoedFrameAcceptedByLine (read : List Bool)
  /-- LINE_DOMINANT_BEFORE_IDLE (R169): a dominant level before the line is idle for the station. -/
  | lineDominantBeforeIdle
  deriving DecidableEq, Repr

end Sys2Proof
end

