-- ==== Sys2Proof/Decode.lean ====
section
/-! DEFINITION. The command a table word spells. The table of this block gives its rows no bits, so no word spells
one. -/

namespace Sys2Proof

/-- The command that a word spells by the table's bits: no row of the table gives any, so none does. -/
def decodeTableWord (_nbits _w : Nat) : Option Instr := none

end Sys2Proof
end

