-- ==== Sys2Proof/Config.lean ====
section
/-! DEFINITION. The numbers the manual fixes for every LK820. The part leaves no value undefined, so there is no
free value here; what each station is configured with (its image) is state, `Machine.Settings`. -/

namespace Sys2Proof.Config

/-- Holding records a table may hold (R2). -/
abbrev tableCapacity : Nat := 48
/-- Commands the command queue may hold (R140). -/
abbrev commandCapacity : Nat := 4
/-- Failed attempts after which a CLAIM, a command head or a REPORT is given up (R184). -/
abbrev attemptLimit : Nat := 3
/-- Veto streak at which MUTE is entered (R180). -/
abbrev vetoStreakLimit : Nat := 8
/-- Send-failure streak at which MUTE is entered (R180). -/
abbrev sendStreakLimit : Nat := 16
/-- Value at which every counter of the report unit saturates (R201). -/
abbrev counterMax : Nat := 255
/-- Foreign-profile count at which PROFILE-CLASH is latched (R199). -/
abbrev profileClashLimit : Nat := 16
/-- Join-retry count at which JOIN-STALLED is set (R70). -/
abbrev joinStalledLimit : Nat := 3
/-- Mismatch count of one witness at which divergence is confirmed (R62). -/
abbrev witnessLimit : Nat := 4
/-- Largest enqueue number (R34). -/
abbrev enqueueMax : Nat := 65535
/-- Largest units value a CLAIM or a RENEW entry may carry (R156, R157). -/
abbrev unitsMax : Nat := 250

/-- Ticks in a second: a tick is 1/64 s (scope 3.4). -/
abbrev ticksPerSecond : Nat := 64
/-- Oscillator periods in a tick and in a calendar fraction (R104). -/
abbrev dividerPeriods : Nat := 512
/-- Oscillator periods of the oscillator start wait (R188). -/
abbrev startWaitPeriods : Nat := 32768
/-- Oscillator periods in one clock period of the configuration port: CLK runs at 4,096 Hz (R190). -/
abbrev clockPeriods : Nat := 8
/-- Oscillator periods of one read: 4,152 clock periods (R190). -/
abbrev readPeriods : Nat := 33216
/-- Oscillator periods SEL stays high before a second read: one tick (R191). -/
abbrev retryWaitPeriods : Nat := 512
/-- Bytes of the configuration image (R161). -/
abbrev imageLength : Nat := 516

/-- Bit times of recessive level after which the line is idle (R169). -/
abbrev idleBits : Nat := 11
/-- Bit times of recessive level that complete the courtesy gap (R171). -/
abbrev courtesyBits : Nat := 15

/-- Minutes of the calendar's cycle of 100 years (R102). -/
abbrev cycleMinutes : Nat := 52596000
/-- Fractions of the calendar's cycle (R102). -/
abbrev cycleFractions : Nat := 201968640000
/-- Longest forward distance that is caught up minute by minute (R126, R128). -/
abbrev catchUpMinutes : Nat := 3
/-- First forward distance that is read as a step backward (R126). -/
abbrev halfCycleMinutes : Nat := 26298000

/-- Ticks a pulse of the blink code is asserted, and then released (R206). -/
abbrev blinkHalf : Nat := 8
/-- Ticks the STATUS line stays released after the last pulse (R206). -/
abbrev blinkGap : Nat := 128

end Sys2Proof.Config
end

