-- ==== Sys2Proof/Machine/State.lean ====
section
/-! DEFINITION. The state of the LK820 as plain data, block by block as the block overview names them
(spec/00_scope.md 1.3), the reasons a command can stop, and the state right after reset. -/

namespace Sys2Proof.Machine

/-! ## Vocabulary -/

/-- The four classes, URGENT first (scope 3.1). -/
inductive Class where
  | urgent
  | high
  | normal
  | low
  deriving DecidableEq, Repr

/-- A demand as the station holds it (R31): the class after the ceiling, and the run allowance in ticks; absent
means indefinite. The channel is given by the place that holds the demand. -/
structure Demand where
  cls : Class
  allowance : Option Nat
  deriving DecidableEq, Repr

/-! ## Settings of the configuration image (R79, R115, R133, R161) -/

/-- The seven settings of a channel (R79, R162). -/
structure ChannelSettings where
  weight : Nat
  activeLow : Bool
  group : Option GroupIx
  mayDisplace : Bool
  ceiling : Class
  /-- seconds; 0 means no limit -/
  maxRun : Nat
  /-- seconds; 0 means no rest -/
  rest : Nat
  deriving DecidableEq, Repr

/-- What a DEMAND asks of a channel (R143, R159). -/
inductive DemandAction where
  | start
  | stop
  | toggle
  deriving DecidableEq, Repr

/-- Which changes of taken level an EDGE input acts on (R136). -/
inductive EdgeSelect where
  | rising
  | falling
  | both
  deriving DecidableEq, Repr

/-- The action of an EDGE input with the operands that action uses (R133, R137, R138). Durations are seconds,
0 meaning indefinite. -/
inductive EdgeAction where
  | act (action : DemandAction) (channel : ChannelIx) (cls : Class) (duration : Nat)
  | send (action : DemandAction) (target place : Byte) (cls : Class) (duration : Nat)
  | inhibitSet (groups : GroupMask)
  | inhibitClear (groups : GroupMask)
  deriving DecidableEq, Repr

/-- The settings of an input line that its mode uses (R133, R163). -/
inductive InputSettings where
  | unused
  | edge (select : EdgeSelect) (debounce : Nat) (action : EdgeAction)
  | levelInhibit (activeHigh : Bool) (debounce : Nat) (groups : GroupMask)
  deriving DecidableEq, Repr

/-- The day mode of a CALENDAR entry with its day value (R115, R119). -/
inductive DaySelect where
  | any
  | weekdays (set : Byte)
  | date (day : Nat)
  deriving DecidableEq, Repr

/-- The minutes a schedule entry selects (R118, R120); none stands for ANY. -/
inductive MinuteSelect where
  | calendar (minute hour : Option Nat) (day : DaySelect)
  | cyclic (period offset : Nat)
  deriving DecidableEq, Repr

/-- The action of a schedule entry with the operands it uses (R115, R122, R123, R124). -/
inductive ScheduleAction where
  | start (channel : ChannelIx) (cls : Class) (duration : Nat)
  | stop (channel : ChannelIx)
  | inhibitOn (groups : GroupMask)
  | inhibitOff (groups : GroupMask)
  deriving DecidableEq, Repr

/-- A CALENDAR or CYCLIC schedule entry (R115); bit m − 1 of the month set stands for month m. -/
structure ScheduleEntry where
  select : MinuteSelect
  months : BitVec 16
  action : ScheduleAction
  deriving DecidableEq, Repr

/-- What the station takes from a sound image (R196), with the profile tag computed from it (R153). -/
structure Settings where
  stationId : Nat
  rateIndex : Nat
  /-- B, the site budget in units -/
  budget : Nat
  /-- L, the lease length in epochs -/
  lease : Nat
  /-- T, the beacon period in seconds -/
  period : Nat
  tag : Byte
  channels : Vector ChannelSettings 8
  inputs : Vector InputSettings 8
  /-- the entries in index order; none is a NONE entry (R115) -/
  schedule : List (Option ScheduleEntry)
  deriving DecidableEq, Repr

/-! ## Start-up and the configuration loader (chapter 10) -/

/-- Where the part stands between a reset and LOADING (R186, R188). -/
inductive Phase where
  | inReset
  | startWait
  | running
  deriving DecidableEq, Repr

/-- The kinds of reset that are being held (R186). -/
structure HeldResets where
  powerOn : Bool
  supplyDrop : Bool
  resetPin : Bool
  deriving DecidableEq, Repr

/-- The result of the four checks of one read (R192). -/
inductive ImageCheck where
  | sound
  | markFailure
  | lengthFailure
  | checkFailure
  | rangeFailure
  deriving DecidableEq, Repr

/-- What the configuration port is doing (R190, R191), with the oscillator periods it has been doing it, and the bits a
read has sampled from DI so far, first bit first (R190 (4)). -/
inductive LoadActivity where
  | idle
  | reading (periods : Nat) (bits : List Bool)
  | retryWait (periods : Nat)
  deriving DecidableEq, Repr

/-- The configuration loader (chapter 10): its load attempt count 0..2, the port's activity, and the outcome of
the checks on the image last read, none before a read has ended (DESIGN CHOICE, notes/assumptions/32.md). -/
structure Loader where
  attempts : Nat
  activity : LoadActivity
  lastCheck : Option ImageCheck
  deriving DecidableEq, Repr

/-! ## Holding table (chapter 1) -/

/-- The state of a holding record (R3). -/
inductive HoldingState where
  | held
  | pending
  | shedding
  deriving DecidableEq, Repr

/-- A holding record (R1). -/
structure Holding where
  holder : Nat
  channel : ChannelIx
  units : Nat
  cls : Class
  state : HoldingState
  lease : Nat
  deriving DecidableEq, Repr

/-! ## Claim unit (chapter 2) -/

/-- An entry of the claim queue (R33). -/
structure Entry where
  channel : ChannelIx
  cls : Class
  allowance : Option Nat
  hold : Bool
  number : Nat
  deriving DecidableEq, Repr

/-- The outstanding claim (R45). -/
structure OutstandingClaim where
  channel : ChannelIx
  cls : Class
  allowance : Option Nat
  number : Nat
  attempts : Nat
  inFlight : Bool
  stopNote : Bool
  deriving DecidableEq, Repr

/-- The claim unit: queue in queue order, outstanding claim, enqueue count (R33, R34, R45). -/
structure ClaimUnit where
  queue : List Entry
  outstanding : Option OutstandingClaim
  enqueueCount : Nat
  deriving DecidableEq, Repr

/-! ## Membership controller (chapter 3) -/

/-- The five membership states (R54). -/
inductive MemberState where
  | loading
  | listening
  | synced
  | mute
  | halted
  deriving DecidableEq, Repr

/-- The beacon timer (R56): stopped, counting ticks, or standing expired. -/
inductive BeaconTimer where
  | stopped
  | counting (ticks : Nat)
  | expired
  deriving DecidableEq, Repr

/-- A filled witness record (R62). -/
structure Witness where
  sender : Nat
  count : Nat
  deriving DecidableEq, Repr

/-- The membership controller (chapter 3). The mute timer holds the ticks that remain; 0 is stopped. -/
structure Membership where
  state : MemberState
  epoch : Epoch
  beaconTimer : BeaconTimer
  witness : Option Witness
  beaconsHeard : Nat
  authHeard : Bool
  joinRetries : Nat
  muteTimer : Nat
  deriving DecidableEq, Repr

/-! ## Channel controller (chapter 4) -/

/-- The channel states (R81); PENDING and ON carry the held demand of R80 (2). While a channel is ON the held
allowance is what remains on the run timer (R80 (3), R89). -/
inductive ChannelState where
  | off
  | claiming
  | pending (held : Demand)
  | switchedOn (held : Demand)
  | stopping
  deriving DecidableEq, Repr

/-- One channel: its state, and the ticks left on its rest timer, 0 when it is stopped (R80, R92). -/
structure Channel where
  state : ChannelState
  rest : Nat
  deriving DecidableEq, Repr

/-- The three inhibit masks (R94). -/
structure InhibitMasks where
  line : GroupMask
  schedule : GroupMask
  level : GroupMask
  deriving DecidableEq, Repr

/-! ## Calendar (chapter 5) -/

/-- The calendar value (R101). -/
structure CalendarValue where
  year : Nat
  month : Nat
  day : Nat
  hour : Nat
  minute : Nat
  second : Nat
  fraction : Nat
  deriving DecidableEq, Repr

/-- The calendar: value, phase counter, time-valid flag, and the SOF record's position and flag (R101, R107). -/
structure Calendar where
  value : CalendarValue
  phase : Nat
  valid : Bool
  sofPosition : Nat
  sofValid : Bool
  deriving DecidableEq, Repr

/-! ## Input unit (chapter 7) -/

/-- A command of the command queue with the content fixed when it was raised (R138). -/
inductive Command where
  | demand (target place : Byte) (action : DemandAction) (cls : Class) (duration : Nat)
  | inhibit (setMask clearMask : GroupMask)
  deriving DecidableEq, Repr

/-- One input: its taken level (true: HIGH; none before the first sample and on an UNUSED input) and the ticks on
its debounce timer, 0 when it is stopped (R134). -/
structure InputState where
  taken : Option Bool
  debounce : Nat
  deriving DecidableEq, Repr

/-- The command queue, its head first, and the head's attempt count (R140, R141). -/
structure CommandQueue where
  queue : List Command
  headAttempts : Nat
  deriving DecidableEq, Repr

/-! ## Line interface (chapter 9) -/

/-- A frame as its sender means it (R149): the length and the check follow from these fields. -/
structure Frame where
  cls : BitVec 2
  kind : BitVec 4
  source : BitVec 6
  payload : List Byte
  tag : Byte
  deriving DecidableEq, Repr

/-- A frame as a receiver reads it up to its veto slot (R149), right or wrong. -/
structure RawFrame where
  cls : BitVec 2
  kind : BitVec 4
  source : BitVec 6
  length : BitVec 5
  payload : List Byte
  tag : Byte
  check : BitVec 16
  deriving DecidableEq, Repr

/-- The offers that can stand in the transmit offer set (R181). -/
inductive Offer where
  | beacon
  | release (channel : ChannelIx)
  | claim
  | renew
  | command
  | report
  deriving DecidableEq, Repr

/-- The transmit offer set (R181). -/
structure OfferSet where
  beacon : Bool
  releases : Vector Bool 8
  claim : Bool
  renew : Bool
  command : Bool
  report : Bool
  deriving DecidableEq, Repr

/-- The station's part in the line (R169, R170, R185): none, counting idle, seeing the line idle, receiving a
frame, or sending its own (which offer, and the content sampled at SOF). -/
inductive LineActivity where
  | apart
  | counting
  | idle
  | receiving
  | transmitting (offer : Offer) (frame : Frame)
  deriving DecidableEq, Repr

/-- The line interface (chapter 9). The idle count is in bit times, at the values its events give it. -/
structure LineInterface where
  activity : LineActivity
  idleCount : Nat
  /-- the receive frame buffer: the bits read of the frame, first bit first, its veto slot's last (R168) -/
  buffer : List Bool
  offers : OfferSet
  vetoStreak : Nat
  sendStreak : Nat
  courtesyGap : Bool
  deriving DecidableEq, Repr

/-! ## Report unit (chapter 11) -/

/-- The eleven faults (R198). -/
structure FaultSet where
  diverged : Bool
  mutedVeto : Bool
  mutedSend : Bool
  profileClash : Bool
  outQueueFull : Bool
  joinStalled : Bool
  timeInvalid : Bool
  configAbsent : Bool
  configCheck : Bool
  configRange : Bool
  duplicateId : Bool
  deriving DecidableEq, Repr

/-- The seven counters (R201). -/
structure Counters where
  foreignProfile : Nat
  undefinedKind : Nat
  vetoesCast : Nat
  ownVetoed : Nat
  claimsVoided : Nat
  commandsDropped : Nat
  missedMinutes : Nat
  deriving DecidableEq, Repr

/-- The report unit (chapter 11): faults, counters, the REPORT offer's attempt count, and the ticks into the
present cycle of the blink code (R206). -/
structure ReportUnit where
  faults : FaultSet
  counters : Counters
  attempts : Nat
  blink : Nat
  deriving DecidableEq, Repr

/-! ## The station -/

/-- Everything the manual gives the station, and the queue of the commands that wait. -/
structure State where
  /-- the waiting commands, first in, first out (the MODEL's own field) -/
  pending : List Instr
  phase : Phase
  heldResets : HeldResets
  /-- oscillator periods counted in the start wait (R188) -/
  startPeriods : Nat
  /-- the tick divider, 0..511 oscillator periods (R104) -/
  tickDivider : Nat
  /-- whether the tick divider stands at a tick it has counted, whose reads are made (the MODEL's own field,
  notes/assumptions/6.md) -/
  ticked : Bool
  loader : Loader
  /-- the level on DI, which the outside drives: whether it is high (R190) -/
  dataIn : Bool
  /-- whether an image has been taken since the reset (R196) -/
  imageTaken : Bool
  settings : Settings
  table : List Holding
  claims : ClaimUnit
  member : Membership
  channels : Vector Channel 8
  masks : InhibitMasks
  calendar : Calendar
  /-- the last-evaluated minute, or none (R126) -/
  lastMinute : Option Nat
  inputs : Vector InputState 8
  /-- the levels on IN0..IN7, true for high (the outside world's side of the input lines) -/
  pins : Vector Bool 8
  commands : CommandQueue
  line : LineInterface
  report : ReportUnit
  deriving DecidableEq, Repr

/-- The reasons a command stops the machine with a fault. There is none: no rule of the manual leaves an event
without an effect, and HALTED is a state of the part. Safe: nothing is stopped early. -/
inductive Fault where
  deriving DecidableEq, Repr

/-- The reasons a command is refused. -/
inductive Refusal where
  /-- Raised by `exec` alone, for a command without a meaning; no command is without one. Safe. -/
  | notModelled (mnemonic : String)
  deriving DecidableEq, Repr

/-! ## Reset values -/

/-- An empty offer set (R181). -/
def OfferSet.empty : OfferSet :=
  { beacon := false, releases := Vector.replicate 8 false, claim := false, renew := false, command := false,
    report := false }

/-- No fault present (R198). -/
def FaultSet.none : FaultSet :=
  { diverged := false, mutedVeto := false, mutedSend := false, profileClash := false, outQueueFull := false,
    joinStalled := false, timeInvalid := false, configAbsent := false, configCheck := false,
    configRange := false, duplicateId := false }

/-- All counters 0 (R201). -/
def Counters.zero : Counters :=
  { foreignProfile := 0, undefinedKind := 0, vetoesCast := 0, ownVetoed := 0, claimsVoided := 0,
    commandsDropped := 0, missedMinutes := 0 }

/-- DESIGN CHOICE (notes/assumptions/2.md): settings before an image is taken. Unsafe only where a statement reads
them; no block uses a setting before LISTENING. -/
def ChannelSettings.unset : ChannelSettings :=
  { weight := 0, activeLow := false, group := .none, mayDisplace := false, ceiling := .urgent, maxRun := 0,
    rest := 0 }

/-- DESIGN CHOICE (notes/assumptions/2.md): settings before an image is taken. -/
def Settings.unset : Settings :=
  { stationId := 0, rateIndex := 0, budget := 0, lease := 0, period := 0, tag := 0,
    channels := Vector.replicate 8 ChannelSettings.unset, inputs := Vector.replicate 8 .unused,
    schedule := List.replicate 32 .none }

/-- The calendar's reset value, 2000-01-01 00:00:00, fraction 0 (R101). -/
def CalendarValue.origin : CalendarValue :=
  { year := 2000, month := 1, day := 1, hour := 0, minute := 0, second := 0, fraction := 0 }

/-- The calendar after reset (R101, R106). DESIGN CHOICE (notes/assumptions/4.md): the SOF record's value. -/
def Calendar.reset : Calendar :=
  { value := CalendarValue.origin, phase := 0, valid := false, sofPosition := 0, sofValid := false }

/-- The claim unit after reset (R35). -/
def ClaimUnit.reset : ClaimUnit := { queue := [], outstanding := .none, enqueueCount := 0 }

/-- The membership controller after reset (R55). -/
def Membership.reset : Membership :=
  { state := .loading, epoch := 0, beaconTimer := .stopped, witness := .none, beaconsHeard := 0,
    authHeard := false, joinRetries := 0, muteTimer := 0 }

/-- The line interface after reset (R185). -/
def LineInterface.reset : LineInterface :=
  { activity := .apart, idleCount := 0, buffer := [], offers := OfferSet.empty, vetoStreak := 0, sendStreak := 0,
    courtesyGap := false }

/-- The report unit after reset (R198, R201). DESIGN CHOICE: the REPORT offer's attempt count while no offer stands
(notes/assumptions/27.md), and the blink code's tick count before a halt (notes/assumptions/28.md), are 0. -/
def ReportUnit.reset : ReportUnit :=
  { faults := FaultSet.none, counters := Counters.zero, attempts := 0, blink := 0 }

/-- The machine right after reset: the reset has ended and the oscillator start wait begins (R188); every block
holds the value of the table at the end of 10.1. DESIGN CHOICE (notes/assumptions/1.md, 3.md, 27.md,
32.md, 31.md): the moment, the level of the input lines, the attempt count of an empty command queue, the outcome of the
checks before any read, and the level on DI. -/
def State.reset : State :=
  { pending := []
    phase := .startWait
    heldResets := { powerOn := false, supplyDrop := false, resetPin := false }
    startPeriods := 0
    tickDivider := 0
    ticked := false
    loader := { attempts := 0, activity := .idle, lastCheck := .none }
    dataIn := true
    imageTaken := false
    settings := Settings.unset
    table := []
    claims := ClaimUnit.reset
    member := Membership.reset
    channels := Vector.replicate 8 { state := .off, rest := 0 }
    masks := { line := 0, schedule := 0, level := 0 }
    calendar := Calendar.reset
    lastMinute := .none
    inputs := Vector.replicate 8 { taken := .none, debounce := 0 }
    pins := Vector.replicate 8 false
    commands := { queue := [], headAttempts := 0 }
    line := LineInterface.reset
    report := ReportUnit.reset }

end Sys2Proof.Machine
end

