-- ==== Sys2Proof/Machine/Operands.lean ====
section
/-! DEFINITION. The operand forms: how classes, frames and frame payloads stand for bits and bytes (chapter 8),
and the bit coding of the line (R166). -/

namespace Sys2Proof.Machine

/-! ## Classes (scope 3.1) -/

/-- The class's number: a lower number is a higher class. -/
def Class.number : Class → Nat
  | .urgent => 0
  | .high => 1
  | .normal => 2
  | .low => 3

/-- The class with this 2-bit number. -/
def Class.ofBits (b : BitVec 2) : Class :=
  if b = 0 then .urgent else if b = 1 then .high else if b = 2 then .normal else .low

/-- The class as the 2-bit field of a frame (R149). -/
def Class.bits : Class → BitVec 2
  | .urgent => 0
  | .high => 1
  | .normal => 2
  | .low => 3

/-- The class of a class byte; none outside 0..3 (R163, R164). -/
def Class.ofByte? (b : Byte) : Option Class :=
  if b = 0 then some .urgent else if b = 1 then some .high else if b = 2 then some .normal
  else if b = 3 then some .low else none

/-- The higher of two classes (scope 3.1). -/
def Class.higher (a b : Class) : Class := if a.number ≤ b.number then a else b

/-- A class lowered to a ceiling: a class at or below the ceiling keeps its value (R32). -/
def Class.lowered (ceiling c : Class) : Class := if c.number < ceiling.number then ceiling else c

/-! ## Bits of a sequence, most significant first (chapter 8, introduction) -/

/-- The bits of a field, most significant bit first. -/
def bitsMsb {w : Nat} (x : BitVec w) : List Bool := (List.range w).map x.getMsbD

/-- The number a bit sequence spells, most significant bit first. -/
def natOfBits (bs : List Bool) : Nat := bs.foldl (fun n b => 2 * n + b.toNat) 0

/-- The field of w bits at a position of a bit sequence. -/
def fieldAt (w : Nat) (pos : Nat) (bs : List Bool) : BitVec w := BitVec.ofNat w (natOfBits ((bs.drop pos).take w))

/-- One bit through the check register (R152). -/
def crcStep (r : BitVec 16) (b : Bool) : BitVec 16 :=
  if r.msb = b then r <<< 1 else (r <<< 1) ^^^ 0x1021#16

/-- The check of a bit sequence: the register starts with all bits set (R152). -/
def crc (bs : List Bool) : BitVec 16 := bs.foldl crcStep 0xFFFF#16

/-- The check over whole bytes, each with bit 7 first (R152, R165). -/
def crcBytes (bytes : List Byte) : BitVec 16 := crc (bytes.flatMap bitsMsb)

/-- The profile tag of the four profile bytes (R153). -/
def profileTag (bytes : List Byte) : Byte := (crcBytes bytes).setWidth 8

/-! ## The frame (R149 to R154) -/

/-- Kind codes (R150). -/
def kindBeacon : BitVec 4 := 0
/-- Kind code of a RELEASE (R150). -/
def kindRelease : BitVec 4 := 1
/-- Kind code of a CLAIM (R150). -/
def kindClaim : BitVec 4 := 2
/-- Kind code of a RENEW (R150). -/
def kindRenew : BitVec 4 := 3
/-- Kind code of an INHIBIT (R150). -/
def kindInhibit : BitVec 4 := 4
/-- Kind code of a TIMESET (R150). -/
def kindTimeset : BitVec 4 := 5
/-- Kind code of a DEMAND (R150). -/
def kindDemand : BitVec 4 := 6
/-- Kind code of a QUERY (R150). -/
def kindQuery : BitVec 4 := 7
/-- Kind code of a REPORT (R150). -/
def kindReport : BitVec 4 := 8

/-- The arbitration value class × 1,024 + kind × 64 + source ID (R149). -/
def arbitrationValue (cls kind source : Nat) : Nat := cls * 1024 + kind * 64 + source

/-- The payload lengths allowed for a kind (table of R154). -/
def allowedLength (kind : BitVec 4) (n : Nat) : Bool :=
  if kind = kindBeacon then n == 14
  else if kind = kindRelease then n == 1
  else if kind = kindClaim then n == 2
  else if kind = kindRenew then n % 2 == 0 && decide (2 ≤ n) && decide (n ≤ 16)
  else if kind = kindInhibit then n == 2
  else if kind = kindTimeset then n == 7
  else if kind = kindDemand then n == 5
  else if kind = kindQuery then n == 2
  else if kind = kindReport then n == 19
  else decide (n ≤ 20)

/-- Whether an entry's first byte (every even byte) of a RENEW payload has bit 1 or bit 0 set (R154 (4), R157). -/
def renewReservedSet : List Byte → Bool
  | [] => false
  | [b] => b.getLsbD 0 || b.getLsbD 1
  | b :: _ :: rest => b.getLsbD 0 || b.getLsbD 1 || renewReservedSet rest

/-- The 12 bits of the arbitration field (R149). -/
def Frame.arbitrationBits (f : Frame) : List Bool := bitsMsb f.cls ++ bitsMsb f.kind ++ bitsMsb f.source

/-- The bits the check of a frame covers: class to profile tag, in the order they are sent (R152). -/
def RawFrame.coveredBits (f : RawFrame) : List Bool :=
  bitsMsb f.cls ++ bitsMsb f.kind ++ bitsMsb f.source ++ bitsMsb f.length ++ f.payload.flatMap bitsMsb ++
    bitsMsb f.tag

/-- The bits of a frame before its veto slot, in the order they are sent (R149). -/
def RawFrame.bits (f : RawFrame) : List Bool := f.coveredBits ++ bitsMsb f.check

/-- The frame a transmitter sends: its length field and check follow from the rest (R149, R152). -/
def Frame.raw (f : Frame) : RawFrame :=
  let body : RawFrame :=
    { cls := f.cls, kind := f.kind, source := f.source, length := BitVec.ofNat 5 f.payload.length,
      payload := f.payload, tag := f.tag, check := 0 }
  { body with check := crc body.coveredBits }

/-- The bits of a frame before its veto slot, as its transmitter sends them (R149). -/
def Frame.bits (f : Frame) : List Bool := f.raw.bits

/-- The frame that a receiver's bits spell, placed by the length field as received, when they reach to the veto
slot: 41 + 8n bits (R149, R168). -/
def RawFrame.ofBits (bs : List Bool) : Option RawFrame :=
  let n := (fieldAt 5 12 bs).toNat
  if bs.length = 41 + 8 * n then
    some
      { cls := fieldAt 2 0 bs, kind := fieldAt 4 2 bs, source := fieldAt 6 6 bs, length := fieldAt 5 12 bs,
        payload := (List.range n).map fun i => fieldAt 8 (17 + 8 * i) bs, tag := fieldAt 8 (17 + 8 * n) bs,
        check := fieldAt 16 (25 + 8 * n) bs }
  else none

/-- Whether a receiver finds the frame defective: the four conditions of R154, judged together. -/
def RawFrame.defective (f : RawFrame) : Bool :=
  decide (20 < f.length.toNat) || !allowedLength f.kind f.length.toNat || f.check != crc f.coveredBits ||
    (f.kind == kindRenew && renewReservedSet f.payload)

/-- Whether the bits this station read of a frame make it a defective frame; bits that do not reach the veto slot
are not judged (R175). -/
def readsDefective (read : List Bool) : Bool :=
  match RawFrame.ofBits read with
  | some f => f.defective
  | none => false

/-- The frame of a kind with this head and payload. -/
def frameOf (h : FrameHead) (kind : BitVec 4) (payload : List Byte) : Frame :=
  { cls := h.cls, kind := kind, source := h.source, payload := payload, tag := h.tag }

/-! ## Payload fields (R155 to R159) -/

/-- A 16-bit value of two bytes, high byte first (chapter 8, introduction). -/
def word16 (high low : Byte) : BitVec 16 := high ++ low

/-- The two bytes of a 16-bit value, high byte first. -/
def bytes16 (w : BitVec 16) : List Byte := [w.extractLsb' 8 8, w.extractLsb' 0 8]

/-- A byte with this number. -/
def byteOf (n : Nat) : Byte := BitVec.ofNat 8 n

/-- The digest's table fields (R5): reserved count, reserved units, shedding count, pending-present. -/
structure TableDigest where
  count : Nat
  units : Nat
  shedding : Nat
  pending : Bool
  deriving DecidableEq, Repr

/-- The fields of a BEACON payload (R155). -/
structure BeaconFields where
  epoch : Epoch
  timeValid : Bool
  authoritative : Bool
  digest : TableDigest
  mask : GroupMask
  time : CalendarValue
  deriving DecidableEq, Repr

/-- The calendar value of seven payload bytes: year 2000 + the year byte (R155, R158). -/
def calendarOfBytes (year month day hour minute second fraction : Byte) : CalendarValue :=
  { year := 2000 + year.toNat, month := month.toNat, day := day.toNat, hour := hour.toNat,
    minute := minute.toNat, second := second.toNat, fraction := fraction.toNat }

/-- The fields a receiver reads of a BEACON's 14 bytes (R155); bits 7..3 of the flags byte are not read. -/
def beaconFields (p : Vector Byte 14) : BeaconFields :=
  { epoch := word16 p[0] p[1]
    timeValid := p[2].getLsbD 0
    authoritative := p[2].getLsbD 1
    digest := { count := p[10].toNat, units := p[11].toNat, shedding := p[12].toNat, pending := p[2].getLsbD 2 }
    mask := p[13]
    time := calendarOfBytes p[3] p[4] p[5] p[6] p[7] p[8] p[9] }

/-- The seven calendar bytes of a calendar value: year less 2000 (R111, R155). -/
def calendarBytes (v : CalendarValue) : List Byte :=
  [byteOf (v.year - 2000), byteOf v.month, byteOf v.day, byteOf v.hour, byteOf v.minute, byteOf v.second,
    byteOf v.fraction]

/-- The payload of a BEACON (R155): seven zero bytes stand for the calendar while time is invalid. -/
def beaconPayload (b : BeaconFields) : List Byte :=
  bytes16 b.epoch ++
    [byteOf (b.timeValid.toNat + 2 * b.authoritative.toNat + 4 * b.digest.pending.toNat)] ++
    (if b.timeValid then calendarBytes b.time else List.replicate 7 0) ++
    [byteOf b.digest.count, byteOf b.digest.units, byteOf b.digest.shedding, b.mask]

/-- The channel of a 3-bit field in bits 2..0 of a byte (R156). -/
def channelLow (b : Byte) : ChannelIx := (b.extractLsb' 0 3).toFin

/-- The channel of a 3-bit field in bits 7..5 of a byte (R157). -/
def channelHigh (b : Byte) : ChannelIx := (b.extractLsb' 5 3).toFin

/-- The payload of a CLAIM (R156). -/
def claimPayload (channel : ChannelIx) (units : Nat) (displace : Bool) : List Byte :=
  [byteOf (128 * displace.toNat + channel.val), byteOf units]

/-- The payload of a RELEASE (R156). -/
def releasePayload (channel : ChannelIx) : List Byte := [byteOf channel.val]

/-- Whether a units byte of a CLAIM or a RENEW entry lies in 1..250 (R156, R157). -/
def unitsInRange (units : Nat) : Bool := decide (1 ≤ units) && decide (units ≤ Config.unitsMax)

/-- One entry of a RENEW (R157). -/
structure RenewEntry where
  channel : ChannelIx
  cls : Class
  pending : Bool
  units : Nat
  deriving DecidableEq, Repr

/-- The entry that two bytes of a RENEW carry (R157). -/
def renewEntryOf (first second : Byte) : RenewEntry :=
  { channel := channelHigh first, cls := Class.ofBits (first.extractLsb' 3 2), pending := first.getLsbD 2,
    units := second.toNat }

/-- The entries of a RENEW payload, in frame order (R157). -/
def renewEntries : List Byte → List RenewEntry
  | first :: second :: rest => renewEntryOf first second :: renewEntries rest
  | _ => []

/-- The two bytes of a RENEW entry (R157). -/
def renewEntryBytes (e : RenewEntry) : List Byte :=
  [byteOf (32 * e.channel.val + 8 * e.cls.number + 4 * e.pending.toNat), byteOf e.units]

/-- The action code of a DEMAND (R159). -/
def DemandAction.code : DemandAction → Byte
  | .start => 1
  | .stop => 2
  | .toggle => 3

/-- The action of an action code; none outside 1..3 (R146 (2), R159). -/
def DemandAction.ofByte? (b : Byte) : Option DemandAction :=
  if b = 1 then some .start else if b = 2 then some .stop else if b = 3 then some .toggle else none

/-- The channel or group a byte names; none above 7 (R146 (3), R162 to R164). -/
def placeOf? (b : Byte) : Option (Fin 8) := if h : b.toNat < 8 then some ⟨b.toNat, h⟩ else none

/-- The payload of a DEMAND command; the duration of a STOP is sent as 0 (R138, R159). -/
def demandPayload (target place : Byte) (action : DemandAction) (duration : Nat) : List Byte :=
  [target, place, action.code] ++
    bytes16 (BitVec.ofNat 16 (match action with | .stop => 0 | _ => duration))

/-- A duration in seconds as a run allowance in ticks: 0 gives an absent allowance (R31). -/
def allowanceOf (seconds : Nat) : Option Nat :=
  if seconds = 0 then none else some (seconds * Config.ticksPerSecond)

/-! ## Bit coding (R166 to R168) -/

/-- The times of one bit, in nanoseconds from its leading edge (table of R166). -/
structure LineTiming where
  bitTime : Nat
  onePulse : Nat
  zeroPulse : Nat
  samplePoint : Nat
  truncation : Nat
  deriving DecidableEq, Repr

/-- The line's timing at a rate index: the bit time halves from 200 µs with each step, a '1' is dominant for 1/4
of it, a '0' for 3/4, the line is sampled at 1/2, and a frame is truncated at 1.5 bit times (R166, R174). -/
def lineTiming (rateIndex : Nat) : LineTiming :=
  let bit := 200000 / 2 ^ rateIndex
  { bitTime := bit, onePulse := bit / 4, zeroPulse := bit * 3 / 4, samplePoint := bit / 2,
    truncation := bit * 3 / 2 }

/-- Whether a station that sends this bit holds the line dominant at a time after the bit's leading edge (R167). -/
def drivesDominant (t : LineTiming) (bit : Bool) (time : Nat) : Bool :=
  decide (time < if bit then t.onePulse else t.zeroPulse)

/-- The bit a receiver reads at the sample point while these stations' bits are sent together from one leading edge:
dominant is a '0', recessive a '1' (R168); the line is dominant while any station drives it (R167). -/
def sampledBit (t : LineTiming) (sent : List Bool) : Bool :=
  !(sent.any fun bit => drivesDominant t bit t.samplePoint)

/-- The bit the line carries when these stations' bits are sent together: any '0' holds the line dominant past the
sample point (R167, R168). -/
def lineBit (sent : List Bool) : Bool := sent.all id

end Sys2Proof.Machine
end

