-- ==== Sys2Proof/Machine/CalendarValues.lean ====
section
/-! DEFINITION. Calendar values, day and minute numbers, fraction positions (R101 to R103), and the minutes a
schedule entry matches (R117 to R120). -/

namespace Sys2Proof.Machine

/-- Whether a year is a leap year: divisible by 4 (R102). -/
def leapYear (year : Nat) : Bool := year % 4 == 0

/-- The days of a month (table of R102). -/
def daysInMonth (year month : Nat) : Nat :=
  if month = 2 then (if leapYear year then 29 else 28)
  else if month = 4 ∨ month = 6 ∨ month = 9 ∨ month = 11 then 30
  else 31

/-- Whether seven fields form a calendar value within the ranges of R101. -/
def CalendarValue.inRange (v : CalendarValue) : Bool :=
  decide (2000 ≤ v.year) && decide (v.year ≤ 2099) && decide (1 ≤ v.month) && decide (v.month ≤ 12) &&
    decide (1 ≤ v.day) && decide (v.day ≤ daysInMonth v.year v.month) && decide (v.hour ≤ 23) &&
    decide (v.minute ≤ 59) && decide (v.second ≤ 59) && decide (v.fraction ≤ 63)

/-! ## Counting (R102) -/

/-- The first instant of the month after this one. -/
def nextMonth (v : CalendarValue) : CalendarValue :=
  let first := { v with day := 1, hour := 0, minute := 0, second := 0, fraction := 0 }
  if v.month + 1 < 13 then { first with month := v.month + 1 }
  else if v.year + 1 ≤ 2099 then { first with month := 1, year := v.year + 1 }
  else CalendarValue.origin

/-- One fraction step, with every carry it causes (R102). -/
def stepFraction (v : CalendarValue) : CalendarValue :=
  if v.fraction + 1 < 64 then { v with fraction := v.fraction + 1 }
  else if v.second + 1 < 60 then { v with second := v.second + 1, fraction := 0 }
  else if v.minute + 1 < 60 then { v with minute := v.minute + 1, second := 0, fraction := 0 }
  else if v.hour + 1 < 24 then { v with hour := v.hour + 1, minute := 0, second := 0, fraction := 0 }
  else if v.day + 1 ≤ daysInMonth v.year v.month then
    { v with day := v.day + 1, hour := 0, minute := 0, second := 0, fraction := 0 }
  else nextMonth v

/-- Whether a fraction step from this value carries into the minute field (R112). -/
def carriesIntoMinute (v : CalendarValue) : Bool := decide (64 ≤ v.fraction + 1) && decide (60 ≤ v.second + 1)

/-! ## Derived numbers (R103) -/

/-- The days of a year before one of its months. -/
def daysBeforeMonth (year : Nat) : Nat → Nat
  | 0 => 0
  | 1 => 0
  | m + 1 => daysBeforeMonth year m + daysInMonth year m

/-- The days from 2000-01-01 to the first of January of a year: 365 a year and one for each leap year before. -/
def daysBeforeYear (year : Nat) : Nat := (year - 2000) * 365 + (year - 2000 + 3) / 4

/-- The day number (R103 (1)). -/
def dayNumber (v : CalendarValue) : Nat := daysBeforeYear v.year + daysBeforeMonth v.year v.month + (v.day - 1)

/-- The weekday of a day number, Sunday 0 (R103 (1)). -/
def weekdayOf (day : Nat) : Nat := (6 + day) % 7

/-- The minute number (R103 (2)). -/
def minuteNumber (v : CalendarValue) : Nat := dayNumber v * 1440 + v.hour * 60 + v.minute

/-- The fraction position (R103). -/
def fractionPosition (v : CalendarValue) : Nat := minuteNumber v * 3840 + v.second * 64 + v.fraction

/-- The year of a day number, and the days into that year: 1,461 days hold a leap year and three others. -/
def yearOfDay (day : Nat) : Nat × Nat :=
  let inCycle := day % 1461
  let cycleYear := 2000 + day / 1461 * 4
  if inCycle < 366 then (cycleYear, inCycle)
  else (cycleYear + 1 + (inCycle - 366) / 365, (inCycle - 366) % 365)

/-- The month and day of month of a count of days into a year, looking from this month on, `left` months at most. -/
def monthOfDay (year : Nat) : Nat → Nat → Nat → Nat × Nat
  | 0, month, days => (month, days + 1)
  | left + 1, month, days =>
    if days < daysInMonth year month then (month, days + 1)
    else monthOfDay year left (month + 1) (days - daysInMonth year month)

/-- The date of a day number: year, month and day of month (R117 (2)). -/
def dateOfDay (day : Nat) : Nat × Nat × Nat :=
  let (year, days) := yearOfDay day
  (year, monthOfDay year 11 1 days)

/-- The calendar value at a fraction position (R109 (4)). -/
def valueAt (position : Nat) : CalendarValue :=
  let minutes := position / 3840
  let (year, month, day) := dateOfDay (minutes / 1440)
  { year := year, month := month, day := day, hour := minutes % 1440 / 60, minute := minutes % 60,
    second := position % 3840 / 64, fraction := position % 64 }

/-! ## Schedule matching (R117 to R120) -/

/-- Whether the month set holds a month 1..12 (R164). -/
def inMonths (months : BitVec 16) (month : Nat) : Bool := months.getLsbD (month - 1)

/-- Whether a field equals a selection, ANY matching always (R118). -/
def matchesOrAny (selected : Option Nat) (value : Nat) : Bool :=
  match selected with
  | some x => x == value
  | none => true

/-- Whether a day matches a day mode (R119). -/
def DaySelect.selects (mode : DaySelect) (weekday day : Nat) : Bool :=
  match mode with
  | .any => true
  | .weekdays set => set.getLsbD weekday
  | .date d => d == day

/-- Whether a minute selection matches a minute number, the month set apart (R117, R118, R120). -/
def MinuteSelect.selects (select : MinuteSelect) (minute : Nat) : Bool :=
  let dayNo := minute / 1440
  let ofDay := minute % 1440
  match select with
  | .calendar m h day =>
    matchesOrAny m (ofDay % 60) && matchesOrAny h (ofDay / 60) &&
      day.selects (weekdayOf dayNo) (dateOfDay dayNo).2.2
  | .cyclic period offset => ofDay % period == offset

/-- Whether an entry matches a minute number (R117 to R120). -/
def ScheduleEntry.selects (e : ScheduleEntry) (minute : Nat) : Bool :=
  inMonths e.months (dateOfDay (minute / 1440)).2.1 && e.select.selects minute

/-- The forward distance from the last-evaluated minute to a minute, around the cycle (R126). -/
def forwardDistance (last minute : Nat) : Nat := (minute + (Config.cycleMinutes - last)) % Config.cycleMinutes

end Sys2Proof.Machine
end

