-- ==== Sys2Proof/Machine/Table.lean ====
section
/-! DEFINITION. The holding table as a list of records in its order, and what frames do to it (chapter 1). -/

namespace Sys2Proof.Machine

/-! ## Order and look-up (R2) -/

/-- Whether a record has this key. -/
def Holding.keyed (holder : Nat) (channel : ChannelIx) (r : Holding) : Bool :=
  r.holder == holder && r.channel == channel

/-- The table's order: ascending holder, and within one holder ascending channel (R2). -/
def Holding.before (a b : Holding) : Bool :=
  decide (a.holder < b.holder) || (a.holder == b.holder && decide (a.channel < b.channel))

/-- The record with this key, if there is one. -/
def findHolding (holder : Nat) (channel : ChannelIx) (t : List Holding) : Option Holding :=
  t.find? (Holding.keyed holder channel)

/-- The table without the record of this key. -/
def removeHolding (holder : Nat) (channel : ChannelIx) (t : List Holding) : List Holding :=
  t.filter fun r => !r.keyed holder channel

/-- The table with a record put at its place in the order, ahead of the first record it stands before (R2). -/
def insertHolding (r : Holding) : List Holding → List Holding
  | [] => [r]
  | x :: xs => if r.before x then r :: x :: xs else x :: insertHolding r xs

/-! ## Derived quantities (R4) -/

/-- Whether a record is reserved: HELD or PENDING. -/
def Holding.reserved (r : Holding) : Bool := r.state != .shedding

/-- Whether a record's units are on: HELD or SHEDDING. -/
def Holding.onUnits (r : Holding) : Bool := r.state != .pending

/-- Whether a record is a candidate victim: HELD and of class HIGH, NORMAL or LOW (R14). -/
def Holding.displaceable (r : Holding) : Bool := r.state == .held && r.cls != .urgent

/-- The sum of the units of the records that satisfy a test. -/
def unitsWhere (p : Holding → Bool) (t : List Holding) : Nat := ((t.filter p).map Holding.units).sum

/-- reserved count -/
def reservedCount (t : List Holding) : Nat := (t.filter Holding.reserved).length
/-- reserved units -/
def reservedUnits (t : List Holding) : Nat := unitsWhere Holding.reserved t
/-- on-units -/
def onUnitsSum (t : List Holding) : Nat := unitsWhere Holding.onUnits t
/-- shedding count -/
def sheddingCount (t : List Holding) : Nat := (t.filter fun r => r.state == .shedding).length
/-- pending-present -/
def pendingPresent (t : List Holding) : Bool := t.any fun r => r.state == .pending
/-- displaceable units -/
def displaceableUnits (t : List Holding) : Nat := unitsWhere Holding.displaceable t
/-- free units: B less the reserved units -/
def freeUnits (budget : Nat) (t : List Holding) : Nat := budget - reservedUnits t

/-- The table's four digest fields (R5). -/
def tableDigest (t : List Holding) : TableDigest :=
  { count := reservedCount t, units := reservedUnits t, shedding := sheddingCount t, pending := pendingPresent t }

/-! ## Evaluation of a CLAIM (R12 to R15) -/

/-- The result of an evaluation (R10). -/
inductive ClaimResult where
  | granted
  | displacing
  | noBudget
  | full
  | duplicate
  deriving DecidableEq, Repr

/-- An evaluation: its result, the table after it, and the keys (holder, channel) of the victims it marked. -/
structure Evaluation where
  result : ClaimResult
  table : List Holding
  victims : List (Nat × ChannelIx)
  deriving DecidableEq, Repr

/-- The candidate victims of one class, in descending table order: higher holder first, then higher channel. -/
def candidatesOf (cls : Class) (t : List Holding) : List Holding :=
  t.reverse.filter fun r => r.state == .held && r.cls == cls

/-- The victim order (R14): all LOW, then all NORMAL, then all HIGH records. -/
def victimOrder (t : List Holding) : List Holding :=
  candidatesOf .low t ++ candidatesOf .normal t ++ candidatesOf .high t

/-- Walks candidates, adding their units to a running total, and stops at the first at which it reaches the units
of the claim; none when the walk ends short (R15). -/
def walkVictims (units : Nat) : Nat → List Holding → Option (List Holding)
  | _, [] => none
  | total, r :: rs =>
    if units ≤ total + r.units then some [r]
    else (walkVictims units (total + r.units) rs).map fun vs => r :: vs

/-- The key of a record. -/
def Holding.key (r : Holding) : Nat × ChannelIx := (r.holder, r.channel)

/-- The table with these records' state SHEDDING; units, class and lease are kept (R15). -/
def markShedding (victims : List (Nat × ChannelIx)) (t : List Holding) : List Holding :=
  t.map fun r => if victims.contains r.key then { r with state := .shedding } else r

/-- The evaluation of a CLAIM of holder s for channel c with u units, class p and displace flag d, by the first
case of R12 that applies. -/
def evaluateClaim (budget lease : Nat) (t : List Holding) (s : Nat) (c : ChannelIx) (u : Nat) (p : Class)
    (d : Bool) : Evaluation :=
  if (findHolding s c t).isSome then { result := .duplicate, table := t, victims := [] }
  else if Config.tableCapacity ≤ t.length then { result := .full, table := t, victims := [] }
  else if u ≤ freeUnits budget t then
    { result := .granted
      table := insertHolding { holder := s, channel := c, units := u, cls := p, state := .held, lease := lease } t
      victims := [] }
  else if d && p == .urgent && !pendingPresent t then
    match walkVictims u (freeUnits budget t) (victimOrder t) with
    | some vs =>
      { result := .displacing
        table := insertHolding
          { holder := s, channel := c, units := u, cls := .urgent, state := .pending, lease := lease }
          (markShedding (vs.map Holding.key) t)
        victims := vs.map Holding.key }
    | none => { result := .noBudget, table := t, victims := [] }
  else { result := .noBudget, table := t, victims := [] }

/-! ## RENEW (R17 to R19) -/

/-- One entry of a RENEW in SYNCED mode: a record that matches in units and class has its lease set to L (R18). -/
def renewMatching (lease holder : Nat) (t : List Holding) (e : RenewEntry) : List Holding :=
  t.map fun r =>
    if r.keyed holder e.channel && r.units == e.units && r.cls == e.cls then { r with lease := lease } else r

/-- One entry of a RENEW in LISTENING mode: it creates or overwrites the record of its key, unless one of the
checks of R19 skips it. The units the record itself had reserved are left out of the sum. -/
def renewLearning (budget lease holder : Nat) (t : List Holding) (e : RenewEntry) : List Holding :=
  let others := removeHolding holder e.channel t
  if (!(findHolding holder e.channel t).isSome && decide (Config.tableCapacity ≤ t.length)) ||
      decide (budget < reservedUnits others + e.units) || (e.pending && pendingPresent others) then t
  else
    insertHolding
      { holder := holder, channel := e.channel, units := e.units, cls := e.cls,
        state := if e.pending then .pending else .held, lease := lease } others

/-- The entries of a RENEW that are not passed over for their units byte (R157). -/
def usableEntries (payload : List Byte) : List RenewEntry :=
  (renewEntries payload).filter fun e => unitsInRange e.units

/-! ## Leases and promotion (R21, R24, R25) -/

/-- Every lease lowered by one (R21 (2)). -/
def ageTable (t : List Holding) : List Holding := t.map fun r => { r with lease := r.lease - 1 }

/-- The records whose lease is not 0 (R21 (3)). -/
def liveRecords (t : List Holding) : List Holding := t.filter fun r => r.lease != 0

/-- The records whose lease has reached 0 (R21 (3)). -/
def expiredRecords (t : List Holding) : List Holding := t.filter fun r => r.lease == 0

/-- The PENDING record, if there is one. -/
def pendingRecord (t : List Holding) : Option Holding := t.find? fun r => r.state == .pending

/-- The promotion check (R24): on-units plus the PENDING record's units are not more than B. -/
def promotionPasses (budget : Nat) (t : List Holding) : Option Holding :=
  match pendingRecord t with
  | some r => if onUnitsSum t + r.units ≤ budget then some r else none
  | none => none

/-- The table with its PENDING record HELD (R25). -/
def promoteTable (t : List Holding) : List Holding :=
  t.map fun r => if r.state == .pending then { r with state := .held } else r

/-! ## Own records (R6, R71, R72) -/

/-- The station's own HELD and PENDING records, in channel order. -/
def ownReserved (stationId : Nat) (t : List Holding) : List Holding :=
  t.filter fun r => r.holder == stationId && r.reserved

/-- The RENEW entry of an own record (R72). -/
def Holding.renewEntry (r : Holding) : RenewEntry :=
  { channel := r.channel, cls := r.cls, pending := r.state == .pending, units := r.units }

end Sys2Proof.Machine
end

