-- ==== Sys2Proof/Machine/Flags.lean ====
section
/-! DEFINITION. What is worked out from the state whenever it is read: standing and eligibility of channels, the
fault set's word, and the output, STATUS and configuration-port lines. None of it is stored. -/

namespace Sys2Proof.Machine

/-! ## Settings and parts of the state -/

/-- The own station ID. -/
def State.ownId (s : State) : Nat := s.settings.stationId

/-- The settings of a channel. -/
def State.channelSettings (s : State) (n : ChannelIx) : ChannelSettings := s.settings.channels[n]

/-- The settings of an input. -/
def State.inputSettings (s : State) (n : InputIx) : InputSettings := s.settings.inputs[n]

/-- The weight of a channel. -/
def State.weight (s : State) (n : ChannelIx) : Nat := (s.channelSettings n).weight

/-- Whether a channel is exempt: of weight 0 (R88). -/
def State.exempt (s : State) (n : ChannelIx) : Bool := s.weight n == 0

/-- A channel. -/
def State.channel (s : State) (n : ChannelIx) : Channel := s.channels[n]

/-- The state of a channel. -/
def State.channelState (s : State) (n : ChannelIx) : ChannelState := (s.channel n).state

/-- Whether a channel is OFF. -/
def ChannelState.isOff : ChannelState → Bool
  | .off => true
  | _ => false

/-- Whether a channel is CLAIMING, PENDING or ON (R37, R39). -/
def ChannelState.isEngaged : ChannelState → Bool
  | .claiming => true
  | .pending _ => true
  | .switchedOn _ => true
  | _ => false

/-- Whether a channel is ON. -/
def ChannelState.isOn : ChannelState → Bool
  | .switchedOn _ => true
  | _ => false

/-- Whether the station receives and sends on the line: LISTENING or SYNCED (R54, R185). -/
def MemberState.online : MemberState → Bool
  | .listening => true
  | .synced => true
  | _ => false

/-- Whether local work goes on: LISTENING, SYNCED or MUTE (R75, R148). -/
def MemberState.working : MemberState → Bool
  | .listening => true
  | .synced => true
  | .mute => true
  | _ => false

/-! ## Inhibits (R94) -/

/-- The effective inhibit set: the union of the three masks (R94). -/
def InhibitMasks.effective (m : InhibitMasks) : GroupMask := m.line ||| m.schedule ||| m.level

/-- Whether a group setting is inhibited by a set of groups; a channel in no group never is (R94). -/
def groupInhibited (mask : GroupMask) (group : Option GroupIx) : Bool :=
  match group with
  | some g => mask.getLsbD g.val
  | none => false

/-- Whether a channel is inhibited (R94). -/
def State.inhibited (s : State) (n : ChannelIx) : Bool :=
  groupInhibited s.masks.effective (s.channelSettings n).group

/-- Whether an input holds its groups inhibited (R96 (2), R139). -/
def holdsGroups (settings : InputSettings) (taken : Option Bool) : GroupMask :=
  match settings, taken with
  | .levelInhibit activeHigh _ groups, some level => if level = activeHigh then groups else 0
  | _, _ => 0

/-- The level-inhibit mask that these taken levels give (R96 (2)). -/
def levelMask (settings : Vector InputSettings 8) (inputs : Vector InputState 8) : GroupMask :=
  allEight.foldl (fun m n => m ||| holdsGroups settings[n] inputs[n].taken) 0

/-! ## Candidates and claims (R41 to R46) -/

/-- The queue entry of a channel, if there is one. -/
def State.entryOf (s : State) (n : ChannelIx) : Option Entry := s.claims.queue.find? fun e => e.channel == n

/-- Whether a channel could be taken up: OFF, not inhibited, not resting (R41 (1) to (3), R42). -/
def State.ready (s : State) (n : ChannelIx) : Bool :=
  (s.channelState n).isOff && !s.inhibited n && (s.channel n).rest == 0

/-- Whether an entry meets the four conditions of a candidate (R41). -/
def State.qualifies (s : State) (e : Entry) : Bool := !s.exempt e.channel && s.ready e.channel && !e.hold

/-- The candidate (R41). -/
def State.candidate (s : State) : Option Entry := s.claims.queue.find? s.qualifies

/-- Whether a channel's weight fits the own table (R43). -/
def State.fits (s : State) (n : ChannelIx) : Bool :=
  decide (s.weight n ≤ freeUnits s.settings.budget s.table) && decide (s.table.length < Config.tableCapacity)

/-- Whether a channel is displacement-eligible with a class (R43). -/
def State.mayDisplaceWith (s : State) (n : ChannelIx) (c : Class) : Bool :=
  (s.channelSettings n).mayDisplace && c == .urgent && !pendingPresent s.table &&
    decide (s.weight n ≤ displaceableUnits s.table + freeUnits s.settings.budget s.table)

/-- Whether a claim passes the re-check at its SOF attempt (R46). -/
def State.claimPasses (s : State) (c : OutstandingClaim) : Bool :=
  s.member.state == .synced && !s.inhibited c.channel &&
    (s.fits c.channel || s.mayDisplaceWith c.channel c.cls)

/-! ## Faults (R160, R198) -/

/-- Whether a latched fault is present (R199). -/
def FaultSet.anyLatched (f : FaultSet) : Bool :=
  f.diverged || f.mutedVeto || f.mutedSend || f.profileClash || f.outQueueFull

/-- The fault set as the 16-bit word of a REPORT (R160). -/
def FaultSet.word (f : FaultSet) : BitVec 16 :=
  BitVec.ofNat 16
    (f.diverged.toNat + 2 * f.mutedVeto.toNat + 4 * f.mutedSend.toNat + 8 * f.profileClash.toNat +
      16 * f.outQueueFull.toNat + 32 * f.joinStalled.toNat + 64 * f.timeInvalid.toNat +
      128 * f.configAbsent.toNat + 256 * f.configCheck.toNat + 512 * f.configRange.toNat +
      1024 * f.duplicateId.toNat)

/-- The code of the halting fault, 0 with none present (R198). -/
def FaultSet.haltCode (f : FaultSet) : Nat :=
  if f.configAbsent then 1 else if f.configCheck then 2 else if f.configRange then 3
  else if f.duplicateId then 4 else 0

/-! ## Lines -/

/-- A line's level as the part drives it. -/
inductive DrivenLevel where
  | undriven
  | low
  | high
  deriving DecidableEq, Repr

/-- What the part drives on OUTn (R93): nothing before an image is taken, the active level while the channel is ON
outside HALTED, and otherwise the inactive level. -/
def State.outputLevel (s : State) (n : ChannelIx) : DrivenLevel :=
  if s.phase = .running ∧ s.imageTaken = true then
    let active := (s.channelState n).isOn && s.member.state != .halted
    if active != (s.channelSettings n).activeLow then .high else .low
  else .undriven

/-- Whether the output of a channel is active (R81, R93). -/
def State.outputActive (s : State) (n : ChannelIx) : Bool :=
  s.phase == .running && s.imageTaken && (s.channelState n).isOn && s.member.state != .halted

/-- Ticks of one cycle of the blink code (R206). -/
def blinkCycle (code : Nat) : Nat := 2 * Config.blinkHalf * code + Config.blinkGap

/-- Whether the blink code asserts STATUS at a tick of its cycle (R206). -/
def blinkAsserted (code tick : Nat) : Bool :=
  decide (tick < 2 * Config.blinkHalf * code) && decide (tick % (2 * Config.blinkHalf) < Config.blinkHalf)

/-- Whether STATUS is asserted, driven low (R205, R206). -/
def State.statusAsserted (s : State) : Bool :=
  if s.phase = .running then
    match s.member.state with
    | .loading => false
    | .listening => s.report.faults.anyLatched || s.report.faults.joinStalled
    | .synced => s.report.faults.anyLatched || s.report.faults.joinStalled
    | .mute => true
    | .halted => blinkAsserted s.report.faults.haltCode s.report.blink
  else false

/-- Whether the line interface drives the line: it sends a frame of its own (R185). Within the frame each bit is a
pulse of R167. -/
def State.drivesLine (s : State) : Bool :=
  match s.line.activity with
  | .transmitting _ _ => true
  | _ => false

/-- The configuration port's pins (R190): SEL low while a read runs, CLK low in the first half of each clock period,
DO the command 0x03 and the address 0x0000 in the first 24 clock periods and then released, and DI at the level the
outside gives it. -/
structure PortPins where
  selLow : Bool
  clkHigh : Bool
  dataOut : Option Bool
  dataIn : Bool
  deriving DecidableEq, Repr

/-- The command and address a read sends, first bit first (R190 (2)). -/
def readCommand : List Bool := bitsMsb (0x03#8) ++ bitsMsb (0x0000#16)

/-- The levels on the configuration port. DEDUCED (notes/assumptions/11.md): the halves of a CLK period. -/
def State.port (s : State) : PortPins :=
  match s.loader.activity with
  | .reading periods _ =>
    if periods < Config.readPeriods then
      { selLow := true
        clkHigh := decide (Config.clockPeriods / 2 ≤ periods % Config.clockPeriods)
        dataOut := readCommand[periods / Config.clockPeriods]?
        dataIn := s.dataIn }
    else { selLow := false, clkHigh := false, dataOut := none, dataIn := s.dataIn }
  | _ => { selLow := false, clkHigh := false, dataOut := none, dataIn := s.dataIn }

/-- Whether CLK rises as this many periods of a read have passed, in a clock period of a data bit (R190). -/
def samplesAt (periods : Nat) : Bool :=
  periods % Config.clockPeriods == Config.clockPeriods / 2 &&
    decide (readCommand.length ≤ periods / Config.clockPeriods)

/-- The bits of a read once this many periods have passed: DI is sampled on each rising edge of CLK after the last
address bit (R190 (4)). -/
def sampled (periods : Nat) (level : Bool) (bits : List Bool) : List Bool :=
  if samplesAt periods then bits ++ [level] else bits

/-! ## Codes of a REPORT (R160) -/

/-- The membership state's code (R160). -/
def MemberState.code : MemberState → Nat
  | .loading => 0
  | .listening => 1
  | .synced => 2
  | .mute => 3
  | .halted => 4

/-- The channel state's code (R160). -/
def ChannelState.code : ChannelState → Nat
  | .off => 0
  | .claiming => 1
  | .pending _ => 2
  | .switchedOn _ => 3
  | .stopping => 4

/-- A channel's 4-bit field: its state, and bit 3 while the claim queue holds an entry for it (R160). -/
def State.channelCode (s : State) (n : ChannelIx) : Nat :=
  (s.channelState n).code + 8 * (s.entryOf n).isSome.toNat

end Sys2Proof.Machine
end

