-- ==== Sys2Proof/Machine/Ops.lean ====
section
/-! DEFINITION. The shared operations: writing one part of the state, the report unit's counts and faults, the claim
unit (chapter 2), and the channel controller (chapter 4). Each meaning is built from these. -/

namespace Sys2Proof.Machine

/-! ## Writing one part of the state -/

/-- Writes a channel. -/
def State.setChannel (s : State) (n : ChannelIx) (c : Channel) : State := { s with channels := s.channels.set n c }

/-- Writes a channel's state; its rest timer is kept. -/
def State.setChannelState (s : State) (n : ChannelIx) (c : ChannelState) : State :=
  s.setChannel n { s.channel n with state := c }

/-- Writes an input's state. -/
def State.setInput (s : State) (n : InputIx) (i : InputState) : State := { s with inputs := s.inputs.set n i }

/-- Writes the level on an input line. -/
def State.setPin (s : State) (n : InputIx) (high : Bool) : State := { s with pins := s.pins.set n high }

/-- Writes the claim unit. -/
def State.setClaims (s : State) (u : ClaimUnit) : State := { s with claims := u }

/-- Writes the holding table. -/
def State.setTable (s : State) (t : List Holding) : State := { s with table := t }

/-- Writes the membership controller. -/
def State.setMember (s : State) (m : Membership) : State := { s with member := m }

/-- Writes the line interface. -/
def State.setLine (s : State) (l : LineInterface) : State := { s with line := l }

/-- Writes the offer set. -/
def State.setOffers (s : State) (o : OfferSet) : State := s.setLine { s.line with offers := o }

/-- Writes the report unit. -/
def State.setReport (s : State) (r : ReportUnit) : State := { s with report := r }

/-- Writes the fault set. -/
def State.setFaults (s : State) (f : FaultSet) : State := s.setReport { s.report with faults := f }

/-- Writes the counters. -/
def State.setCounters (s : State) (c : Counters) : State := s.setReport { s.report with counters := c }

/-- Writes the command queue. -/
def State.setCommands (s : State) (q : CommandQueue) : State := { s with commands := q }

/-- Writes the calendar. -/
def State.setCalendar (s : State) (c : Calendar) : State := { s with calendar := c }

/-- Writes the inhibit masks, and nothing else. -/
def State.setMasks (s : State) (m : InhibitMasks) : State := { s with masks := m }

/-! ## Counters (R201) -/

/-- A counter raised by an amount; it stays at 255 once it reaches it (R201). -/
def raised (count amount : Nat) : Nat := min Config.counterMax (count + amount)

/-- Raises the commands-dropped counter (R201). -/
def State.countDropped (s : State) (amount : Nat) : State :=
  s.setCounters { s.report.counters with commandsDropped := raised s.report.counters.commandsDropped amount }

/-! ## Demands (R31 to R34, R37) -/

/-- The longer of two allowances; an absent one is the longest (R36). -/
def longer (a b : Option Nat) : Option Nat :=
  match a, b with
  | some x, some y => some (max x y)
  | _, _ => none

/-- An allowance capped at a max run given in seconds, 0 meaning no limit (R37, R89). -/
def capped (maxRun : Nat) (a : Option Nat) : Option Nat :=
  if maxRun = 0 then a
  else
    match a with
    | none => some (maxRun * Config.ticksPerSecond)
    | some t => some (min t (maxRun * Config.ticksPerSecond))

/-- The queue order: by class, URGENT first, and within a class by enqueue number (R34). -/
def Entry.before (a b : Entry) : Bool :=
  decide (a.cls.number < b.cls.number) || (a.cls == b.cls && decide (a.number < b.number))

/-- The queue with an entry put at its place in queue order. -/
def insertEntry (e : Entry) : List Entry → List Entry
  | [] => [e]
  | x :: xs => if e.before x then e :: x :: xs else x :: insertEntry e xs

/-- The queue without the entry of a channel. -/
def removeEntry (n : ChannelIx) (q : List Entry) : List Entry := q.filter fun e => e.channel != n

/-- The numbers in use: of the entries, and of the outstanding claim if there is one. -/
def ClaimUnit.numbers (u : ClaimUnit) : List Nat :=
  u.queue.map Entry.number ++ u.outstanding.toList.map OutstandingClaim.number

/-- A number's place in the order of the numbers in use. -/
def rankOf (numbers : List Nat) (k : Nat) : Nat := (numbers.filter fun x => decide (x < k)).length

/-- The entries and the outstanding claim renumbered 0, 1, 2 and upwards in the order of their old numbers, the count
going on from the first number not given out (R34). -/
def ClaimUnit.renumbered (u : ClaimUnit) : ClaimUnit :=
  { queue := u.queue.map fun e => { e with number := rankOf u.numbers e.number }
    outstanding := u.outstanding.map fun c => { c with number := rankOf u.numbers c.number }
    enqueueCount := u.numbers.length }

/-- Appends a demand with HOLD clear and the next enqueue number (R34, R36). -/
def ClaimUnit.append (u : ClaimUnit) (n : ChannelIx) (d : Demand) : ClaimUnit :=
  let u' : ClaimUnit :=
    { u with
      queue := insertEntry
        { channel := n, cls := d.cls, allowance := d.allowance, hold := false, number := u.enqueueCount } u.queue
      enqueueCount := u.enqueueCount + 1 }
  if Config.enqueueMax < u'.enqueueCount then u'.renumbered else u'

/-- Merges a demand into an entry: the higher class, the longer allowance; HOLD mark and number stay (R36). -/
def ClaimUnit.mergeInto (u : ClaimUnit) (e : Entry) (d : Demand) : ClaimUnit :=
  { u with
    queue := insertEntry { e with cls := e.cls.higher d.cls, allowance := longer e.allowance d.allowance }
      (removeEntry e.channel u.queue) }

/-- A demand for a channel that is OFF or STOPPING joins the queue: merged where the channel has an entry, appended
where it has none (R36). -/
def ClaimUnit.enqueue (u : ClaimUnit) (n : ChannelIx) (d : Demand) : ClaimUnit :=
  match u.queue.find? fun e => e.channel == n with
  | some e => u.mergeInto e d
  | none => u.append n d

/-- The queue with every HOLD mark clear (R50). -/
def clearHolds (q : List Entry) : List Entry := q.map fun e => { e with hold := false }

/-- The hold-clear signal (R11, R50). -/
def State.holdClear (s : State) : State := s.setClaims { s.claims with queue := clearHolds s.claims.queue }

/-! ## Channels (R86, R89, R92) -/

/-- The rest begins, unless the rest setting is 0 (R92). -/
def State.beginRest (s : State) (n : ChannelIx) : State :=
  if (s.channelSettings n).rest = 0 then s
  else s.setChannel n { s.channel n with rest := (s.channelSettings n).rest * Config.ticksPerSecond }

/-- Entry to STOPPING: the channel's RELEASE is offered (R86). -/
def State.enterStopping (s : State) (n : ChannelIx) : State :=
  (s.setChannelState n .stopping).setOffers
    { s.line.offers with releases := s.line.offers.releases.set n true }

/-- Exit from STOPPING to OFF: the channel's RELEASE offer no longer stands (R86). -/
def State.endStopping (s : State) (n : ChannelIx) : State :=
  (s.setChannelState n .off).setOffers
    { s.line.offers with releases := s.line.offers.releases.set n false }

/-- Entry to ON with a demand: the allowance is set, capped at the max run (R89). -/
def State.switchOn (s : State) (n : ChannelIx) (d : Demand) : State :=
  s.setChannelState n (.switchedOn { d with allowance := capped (s.channelSettings n).maxRun d.allowance })

/-- An ON channel leaves ON while its record, if it has one, stands: a budgeted channel to STOPPING, an exempt one to
OFF, and the rest begins (R85, R88). -/
def State.switchOff (s : State) (n : ChannelIx) : State :=
  (if s.exempt n then s.setChannelState n .off else s.enterStopping n).beginRest n

/-- The channel controller hands a demand back (R40); one whose remainder is zero is dropped (R91). -/
def State.requeue (s : State) (n : ChannelIx) (d : Demand) : State :=
  if d.allowance = some 0 then s else s.setClaims (s.claims.enqueue n d)

/-! ## The judgement of the claim unit (R41 to R45) -/

/-- Serves one entry if its channel is exempt and ready: the entry leaves the queue and the channel goes ON (R42). -/
def State.serveEntry (s : State) (e : Entry) : State :=
  if s.exempt e.channel && s.ready e.channel && s.member.state.working then
    (s.setClaims { s.claims with queue := removeEntry e.channel s.claims.queue }).switchOn e.channel
      { cls := e.cls, allowance := e.allowance }
  else s

/-- Serves the exempt entries that are ready, in queue order (R42). -/
def State.serveExempt (s : State) : State := s.claims.queue.foldl State.serveEntry s

/-- The candidate becomes the outstanding claim: its channel goes CLAIMING and a CLAIM is offered (R45). -/
def State.takeUp (s : State) (e : Entry) : State :=
  ((s.setClaims
      { s.claims with
        queue := removeEntry e.channel s.claims.queue
        outstanding := some
          { channel := e.channel, cls := e.cls, allowance := e.allowance, number := e.number, attempts := 0,
            inFlight := false, stopNote := false } }).setChannelState e.channel .claiming).setOffers
    { s.line.offers with claim := true }

/-- Offers a claim for the candidate when R43 holds. -/
def State.offerClaim (s : State) : State :=
  if s.member.state = .synced ∧ s.claims.outstanding = none then
    match s.candidate with
    | some e => if s.fits e.channel || s.mayDisplaceWith e.channel e.cls then s.takeUp e else s
    | none => s
  else s

/-- The claim unit judges afresh (R44): exempt entries are served, and a claim is offered when R43 holds. -/
def State.judge (s : State) : State := s.serveExempt.offerClaim

/-! ## The outstanding claim ends (R46, R47, R51 to R53) -/

/-- The entry a demand returns as, with the enqueue number it had when it was offered (R34). -/
def OutstandingClaim.entry (c : OutstandingClaim) (hold : Bool) : Entry :=
  { channel := c.channel, cls := c.cls, allowance := c.allowance, hold := hold, number := c.number }

/-- The outstanding claim ceases to exist: its offer is gone and its channel goes from CLAIMING to OFF (R45). -/
def State.dropClaim (s : State) (c : OutstandingClaim) : State :=
  ((s.setClaims { s.claims with outstanding := none }).setChannelState c.channel .off).setOffers
    { s.line.offers with claim := false }

/-- The outstanding claim ceases to exist and its demand returns to the queue, with this HOLD mark (R50). -/
def State.returnClaim (s : State) (c : OutstandingClaim) (hold : Bool) : State :=
  let t := s.dropClaim c
  t.setClaims { t.claims with queue := insertEntry (c.entry hold) t.claims.queue }

/-! ## START, STOP and TOGGLE (R36 to R39) -/

/-- A START extends an allowance (R37, R90). -/
def State.extended (s : State) (n : ChannelIx) (present started : Option Nat) : Option Nat :=
  capped (s.channelSettings n).maxRun (longer present started)

/-- A START (R32, R36, R37). -/
def State.start (s : State) (n : ChannelIx) (cls : Class) (allowance : Option Nat) : State :=
  let c := Class.lowered (s.channelSettings n).ceiling cls
  match s.channelState n with
  | .off => (s.setClaims (s.claims.enqueue n { cls := c, allowance := allowance })).judge
  | .stopping => (s.setClaims (s.claims.enqueue n { cls := c, allowance := allowance })).judge
  | .claiming =>
    match s.claims.outstanding with
    | some o =>
      if o.channel = n then
        s.setClaims
          { s.claims with
            outstanding := some
              { o with
                cls := o.cls.higher c
                allowance := s.extended n o.allowance allowance
                stopNote := false } }
      else s
    | none => s
  | .pending d => s.setChannelState n (.pending { d with allowance := s.extended n d.allowance allowance })
  | .switchedOn d => s.setChannelState n (.switchedOn { d with allowance := s.extended n d.allowance allowance })

/-- A STOP's part in the channel's state (R38, R98). -/
def State.stopChannel (s : State) (n : ChannelIx) : State :=
  match s.channelState n with
  | .off => s
  | .stopping => s
  | .pending _ => s.enterStopping n
  | .switchedOn _ => s.switchOff n
  | .claiming =>
    match s.claims.outstanding with
    | some o =>
      if o.channel = n then
        if o.inFlight then s.setClaims { s.claims with outstanding := some { o with stopNote := true } }
        else s.dropClaim o
      else s
    | none => s

/-- A STOP (R38): the channel's queue entry is removed, and the channel is stopped. -/
def State.stop (s : State) (n : ChannelIx) : State :=
  ((s.setClaims { s.claims with queue := removeEntry n s.claims.queue }).stopChannel n).judge

/-- A TOGGLE (R39). -/
def State.toggle (s : State) (n : ChannelIx) (cls : Class) (allowance : Option Nat) : State :=
  if (s.channelState n).isEngaged || (s.entryOf n).isSome then s.stop n else s.start n cls allowance

/-- An action of an input or of a DEMAND on one own channel (R137, R144); the duration is in seconds. -/
def State.act (s : State) (a : DemandAction) (n : ChannelIx) (cls : Class) (duration : Nat) : State :=
  match a with
  | .start => s.start n cls (allowanceOf duration)
  | .stop => s.stop n
  | .toggle => s.toggle n cls (allowanceOf duration)

/-! ## Inhibits (R94, R97) -/

/-- A channel becomes inhibited (R97). -/
def State.becomeInhibited (s : State) (n : ChannelIx) : State :=
  match s.channelState n with
  | .off => s
  | .stopping => s
  | .pending d => (s.enterStopping n).requeue n d
  | .switchedOn d => (s.switchOff n).requeue n d
  | .claiming =>
    match s.claims.outstanding with
    | some o => if o.channel = n ∧ o.inFlight = false then s.returnClaim o false else s
    | none => s

/-- The inhibit masks change: each channel that becomes inhibited is dealt with, and the claim unit judges afresh
(R94). DESIGN CHOICE (notes/assumptions/24.md): several such channels are taken in ascending channel number, which
fixes the enqueue numbers of the demands they requeue; the manual gives no order. -/
def State.changeMasks (s : State) (m : InhibitMasks) : State :=
  (allEight.foldl
    (fun t n => if (s.setMasks m).inhibited n && !s.inhibited n then t.becomeInhibited n else t)
    (s.setMasks m)).judge

/-! ## Own-record events (R9, R83 to R87) -/

/-- "Own record became SHEDDING" (R85, R86, R87): exempt channels receive no own-record events (R88). -/
def State.ownShed (s : State) (n : ChannelIx) : State :=
  if s.exempt n then s
  else
    match s.channelState n with
    | .switchedOn d => (s.switchOff n).requeue n d
    | .off => s.enterStopping n
    | _ => s

/-- "Own record removed, by expiry" (R84 to R87). -/
def State.ownExpired (s : State) (n : ChannelIx) : State :=
  if s.exempt n then s
  else
    match s.channelState n with
    | .switchedOn d => ((s.setChannelState n .off).beginRest n).requeue n d
    | .pending d => (s.setChannelState n .off).requeue n d
    | .stopping => s.endStopping n
    | _ => s

/-- "Own record removed, by release", beside what the acceptance of the own RELEASE does (R84, R86, R87). -/
def State.ownReleased (s : State) (n : ChannelIx) : State :=
  if s.exempt n then s
  else
    match s.channelState n with
    | .pending d => (s.setChannelState n .off).requeue n d
    | _ => s

/-- "Own record promoted" (R84, R86, R87, R99): an inhibited PENDING channel has already left PENDING. -/
def State.ownPromoted (s : State) (n : ChannelIx) : State :=
  if s.exempt n then s
  else
    match s.channelState n with
    | .pending d => s.switchOn n d
    | _ => s

/-! ## The table's signals -/

/-- The RENEW offer is withdrawn when the own table holds no own HELD or PENDING record (R71). -/
def State.dropIdleRenew (s : State) : State :=
  if ownReserved s.ownId s.table = [] then s.setOffers { s.line.offers with renew := false } else s

/-- The table is cleared (R29): no own-record event, and one hold-clear signal. -/
def State.clearTable (s : State) : State := (s.setTable []).dropIdleRenew.holdClear

/-- The promotion check (R24, R25): the table, and the record it promoted. -/
def promotionCheck (budget : Nat) (t : List Holding) : List Holding × Option Holding :=
  match promotionPasses budget t with
  | some r => (promoteTable t, some r)
  | none => (t, none)

/-- Gives "own record promoted" when the promoted record is the station's own. -/
def State.givePromotion (s : State) (promoted : Option Holding) : State :=
  match promoted with
  | some r => if r.holder = s.ownId then s.ownPromoted r.channel else s
  | none => s

end Sys2Proof.Machine
end

