-- ==== Sys2Proof/Machine/MemberOps.lean ====
section
/-! DEFINITION. What the membership controller orders of the whole station (chapter 3): entry to LISTENING, a
confirmed divergence, a join's end, MUTE, and the halts. -/

namespace Sys2Proof.Machine

/-- The membership entry actions of R66: counts zeroed, the beacon timer restarted. -/
def Membership.listening (m : Membership) : Membership :=
  { m with state := .listening, beaconsHeard := 0, authHeard := false, beaconTimer := .counting 0 }

/-- The line interface starts to take part in the line: it counts idle afresh, its courtesy-gap flag clear
(R169, R171). -/
def LineInterface.joined (l : LineInterface) : LineInterface :=
  { l with activity := .counting, idleCount := 0, courtesyGap := false }

/-- The line interface takes no part in the line and its offer set is empty (R185). -/
def LineInterface.left (l : LineInterface) : LineInterface :=
  { l with activity := .apart, idleCount := 0, offers := OfferSet.empty }

/-- The period of the beacon timer in ticks: 64 × T + ID (R56). -/
def Settings.beaconPeriod (c : Settings) : Nat := Config.ticksPerSecond * c.period + c.stationId

/-- The mute period in ticks: L × T + 2 seconds (R75). -/
def Settings.mutePeriod (c : Settings) : Nat := Config.ticksPerSecond * (c.lease * c.period + 2)

/-! ## Confirmed divergence (R63) -/

/-- One channel at a confirmed divergence (table of R63); exempt channels are not affected. -/
def State.divergeChannel (s : State) (n : ChannelIx) : State :=
  if s.exempt n then s
  else
    match s.channelState n with
    | .switchedOn d => (s.switchOff n).requeue n d
    | .pending d => (s.enterStopping n).requeue n d
    | .stopping => s
    | .off => if (findHolding s.ownId n s.table).isSome then s.enterStopping n else s
    | .claiming =>
      match s.claims.outstanding with
      | some o => if o.channel = n then s.returnClaim o false else s
      | none => s

/-- A confirmed divergence (R63), in the order of its five actions. The clearing withdraws any RENEW offer. DESIGN
CHOICE (notes/assumptions/24.md): the channels are taken in ascending number, which fixes the enqueue numbers of the
demands they requeue; the manual gives no order. -/
def State.confirmDivergence (s : State) : State :=
  let latched := s.setFaults { s.report.faults with diverged := true }
  let cleared := (allEight.foldl State.divergeChannel latched).clearTable
  cleared.setMember { cleared.member.listening with witness := none }

/-! ## Joining (R69, R70) -/

/-- A join completes (R69). -/
def State.completeJoin (s : State) : State :=
  (s.setMember { s.member with state := .synced, witness := none, joinRetries := 0 }).setFaults
    { s.report.faults with joinStalled := false }

/-- A join restarts (R70): the table is cleared and the counts are reset; JOIN-STALLED is set at the third. -/
def State.restartJoin (s : State) : State :=
  let cleared := s.clearTable
  let retries := cleared.member.joinRetries + 1
  (cleared.setMember { cleared.member with beaconsHeard := 0, authHeard := false, joinRetries := retries }).setFaults
    { cleared.report.faults with
      joinStalled := cleared.report.faults.joinStalled || decide (Config.joinStalledLimit ≤ retries) }

/-! ## MUTE (R74, R180) -/

/-- One channel at MUTE entry (table of R74); exempt channels keep their state. The offer set is emptied apart. -/
def State.muteChannel (s : State) (n : ChannelIx) : State :=
  if s.exempt n then s
  else
    match s.channelState n with
    | .switchedOn d => ((s.setChannelState n .off).beginRest n).requeue n d
    | .pending d => (s.setChannelState n .off).requeue n d
    | .stopping => s.setChannelState n .off
    | .off => s
    | .claiming =>
      match s.claims.outstanding with
      | some o => if o.channel = n then s.returnClaim o false else s
      | none => s

/-- MUTE entry with a fault set that holds the latched MUTED fault (R73, R74, R180). DESIGN CHOICE
(notes/assumptions/24.md): the channels are taken in ascending number, which fixes the enqueue numbers of the demands
they requeue. DESIGN CHOICE (notes/assumptions/27.md): with the REPORT offer gone its attempt count stands at 0. -/
def State.enterMute (s : State) (faults : FaultSet) : State :=
  let dropped := ((s.setFaults faults).countDropped s.commands.queue.length).setCommands
    { queue := [], headAttempts := 0 }
  let muted := allEight.foldl State.muteChannel dropped
  let off := muted.setLine { muted.line.left with vetoStreak := 0, sendStreak := 0, courtesyGap := false }
  let cleared := off.clearTable
  ((cleared.setMember
      { cleared.member with
        state := .mute, beaconTimer := .stopped, witness := none,
        muteTimer := cleared.settings.mutePeriod }).setReport { cleared.report with attempts := 0 }).judge

/-- The end of the mute period: entry to LISTENING (R66, R75, R169). -/
def State.leaveMute (s : State) : State :=
  ((s.setMember { s.member.listening with muteTimer := 0 }).setLine s.line.joined).judge

/-! ## Halts (R77, R195) -/

/-- Entry to HALTED with a fault set that holds the halting fault; the blink code begins (R78, R206). -/
def State.enterHalted (s : State) (faults : FaultSet) : State :=
  ((s.setMember { s.member with state := .halted, beaconTimer := .stopped }).setLine s.line.left).setReport
    { s.report with faults := faults, blink := 0 }

/-- The duplicate-ID halt (R53, R77): the outstanding claim's demand returns with HOLD clear. DESIGN CHOICE
(notes/assumptions/25.md): the outputs that go inactive load no rest timer; R92 starts a rest when an output goes
inactive, and R100 (3) stops the rest timers at this very event. -/
def State.haltDuplicate (s : State) : State :=
  let t := match s.claims.outstanding with
    | some o => s.returnClaim o false
    | none => s
  t.enterHalted { t.report.faults with duplicateId := true }

end Sys2Proof.Machine
end

