-- ==== Sys2Proof/Machine/LineOps.lean ====
section
/-! DEFINITION. The line interface (chapter 9): the choice among the offers, the content sampled at a SOF, how an own
attempt ends, the veto, and the three judgements at an acceptance. -/

namespace Sys2Proof.Machine

/-! ## The offer set (R181, R182) -/

/-- The kind and class of a command's frame (R138, R150). -/
def Command.classAndKind : Command → Class × BitVec 4
  | .demand _ _ _ cls _ => (cls, kindDemand)
  | .inhibit _ _ => (.urgent, kindInhibit)

/-- The payload of a command's frame (R138, R158, R159). -/
def Command.payload : Command → List Byte
  | .demand target place action _ duration => demandPayload target place action duration
  | .inhibit setMask clearMask => [setMask, clearMask]

/-- The class and kind of an offered frame (R150, R182). -/
def State.offerClassAndKind (s : State) : Offer → Class × BitVec 4
  | .beacon => (.urgent, kindBeacon)
  | .release _ => (.urgent, kindRelease)
  | .claim => ((s.claims.outstanding.map OutstandingClaim.cls).getD .low, kindClaim)
  | .renew => (.high, kindRenew)
  | .command => (s.commands.queue.head?.map Command.classAndKind).getD (.low, kindDemand)
  | .report => (.low, kindReport)

/-- The arbitration value of an offered frame (R182). -/
def State.offerValue (s : State) (o : Offer) : Nat :=
  arbitrationValue (s.offerClassAndKind o).1.number (s.offerClassAndKind o).2.toNat s.ownId

/-- The offers that compete at a start; of the RELEASE offers the one for the lowest channel (R182). -/
def State.standingOffers (s : State) : List Offer :=
  (if s.line.offers.beacon then [.beacon] else []) ++
    ((allEight.find? fun n => s.line.offers.releases[n]).map Offer.release).toList ++
    (if s.line.offers.claim && s.claims.outstanding.isSome then [.claim] else []) ++
    (if s.line.offers.renew then [.renew] else []) ++
    (if s.line.offers.command && !s.commands.queue.isEmpty then [.command] else []) ++
    (if s.line.offers.report then [.report] else [])

/-- The better of a choice so far and another offer: the lower arbitration value. -/
def State.betterOffer (s : State) (best : Option Offer) (o : Offer) : Option Offer :=
  match best with
  | some b => if s.offerValue o < s.offerValue b then some o else some b
  | none => some o

/-- The offered frame with the lowest arbitration value (R182 (1)). -/
def State.chosenOffer (s : State) : Option Offer := s.standingOffers.foldl s.betterOffer none

/-! ## Content sampled at a SOF -/

/-- A frame of the station's own (R149, R151, R153). -/
def State.ownFrame (s : State) (ck : Class × BitVec 4) (payload : List Byte) : Frame :=
  { cls := ck.1.bits, kind := ck.2, source := BitVec.ofNat 6 s.ownId, payload := payload, tag := s.settings.tag }

/-- The fields of an own BEACON (R58, R111): the calendar's part comes from the SOF record. -/
def State.beaconNow (s : State) : BeaconFields :=
  { epoch := s.member.epoch + 1, timeValid := s.calendar.sofValid, authoritative := s.member.state == .synced,
    digest := tableDigest s.table, mask := s.masks.line, time := valueAt s.calendar.sofPosition }

/-- The channel bytes of a REPORT: two channels a byte, the even one in bits 7..4 (R160). -/
def State.channelBytes (s : State) : List Byte :=
  [byteOf (16 * s.channelCode 0 + s.channelCode 1), byteOf (16 * s.channelCode 2 + s.channelCode 3),
    byteOf (16 * s.channelCode 4 + s.channelCode 5), byteOf (16 * s.channelCode 6 + s.channelCode 7)]

/-- The counters in the order of a REPORT (R160). -/
def Counters.bytes (c : Counters) : List Byte :=
  [byteOf c.foreignProfile, byteOf c.undefinedKind, byteOf c.vetoesCast, byteOf c.ownVetoed,
    byteOf c.claimsVoided, byteOf c.commandsDropped, byteOf c.missedMinutes]

/-- The payload of a REPORT (R160, R204). -/
def State.reportPayload (s : State) : List Byte :=
  [byteOf s.member.state.code] ++ bytes16 s.report.faults.word ++ s.channelBytes ++
    [byteOf s.claims.queue.length, byteOf (reservedCount s.table), byteOf (reservedUnits s.table)] ++
    s.report.counters.bytes ++ bytes16 s.member.epoch

/-- The payload of an offered frame as its source samples it (R46, R58, R72, R86, R141, R204). -/
def State.offerPayload (s : State) : Offer → List Byte
  | .beacon => beaconPayload s.beaconNow
  | .release n => releasePayload n
  | .claim =>
    match s.claims.outstanding with
    | some o =>
      claimPayload o.channel (s.weight o.channel)
        (!s.fits o.channel && s.mayDisplaceWith o.channel o.cls)
    | none => []
  | .renew => (ownReserved s.ownId s.table).flatMap fun r => renewEntryBytes r.renewEntry
  | .command => (s.commands.queue.head?.map Command.payload).getD []
  | .report => s.reportPayload

/-- The frame of an offer with its content as it stands now. -/
def State.sampledFrame (s : State) (o : Offer) : Frame := s.ownFrame (s.offerClassAndKind o) (s.offerPayload o)

/-! ## Start of frame (R107, R170, R182) -/

/-- The calendar makes its SOF record (R107). -/
def State.recordSof (s : State) : State :=
  s.setCalendar
    { s.calendar with sofPosition := fractionPosition s.calendar.value, sofValid := s.calendar.valid }

/-- Sets the outstanding claim's in-flight flag. -/
def State.setInFlight (s : State) (flag : Bool) : State :=
  s.setClaims { s.claims with outstanding := s.claims.outstanding.map fun o => { o with inFlight := flag } }

/-- An attempt starts: the SOF record is made, the content is sampled, and the frame goes out. -/
def State.beginAttempt (s : State) (o : Offer) : State :=
  let recorded := s.recordSof
  let marked := if o = .claim then recorded.setInFlight true else recorded
  marked.setLine
    { marked.line with activity := .transmitting o (marked.sampledFrame o), idleCount := 0, buffer := [] }

/-- The source of a chosen offer withdraws it at its SOF choice, or does not (none): a claim that fails its re-check
returns with HOLD set (R46), a RENEW without an own record to list is withdrawn (R72). -/
def State.withdrawnAtSof (s : State) (o : Offer) : Option State :=
  match o with
  | .claim =>
    match s.claims.outstanding with
    | some c => if s.claimPasses c then none else some (s.returnClaim c true).judge
    | none => none
  | .renew =>
    if ownReserved s.ownId s.table = [] then some (s.setOffers { s.line.offers with renew := false }) else none
  | _ => none

/-- The choice of R182, made again while the source of the chosen frame withdraws it. A claim offered afresh passes
its re-check, so three rounds (a CLAIM, a RENEW, what is left) always suffice. -/
def State.startChosen (s : State) : Nat → State
  | 0 => s
  | rounds + 1 =>
    match s.chosenOffer with
    | none => s
    | some o =>
      match s.withdrawnAtSof o with
      | some t => t.startChosen rounds
      | none => s.beginAttempt o

/-- Another station's SOF: the station becomes a receiver, and its courtesy-gap flag is cleared (R170, R171). -/
def State.beginReception (s : State) : State :=
  let recorded := s.recordSof
  recorded.setLine
    { recorded.line with activity := .receiving, idleCount := 0, buffer := [], courtesyGap := false }

/-! ## The end of an own attempt (R183, R184) -/

/-- The claim's attempt ends without acceptance, the claim standing as `ended`: a stop note drops it, a claim whose
attempts are used up is abandoned with HOLD set, and a standing inhibit withdraws it (R47, R52 (4)). -/
def State.settleEndedAttempt (s : State) (ended : OutstandingClaim) (usedUp : Bool) : State :=
  if ended.stopNote then (s.dropClaim ended).judge
  else if usedUp then (s.returnClaim ended true).judge
  else if s.inhibited ended.channel then (s.returnClaim ended false).judge
  else s.setClaims { s.claims with outstanding := some ended }

/-- The head of the command queue leaves it; the next command, if any, is offered with no attempt counted (R141). DESIGN
CHOICE (notes/assumptions/27.md): an emptied queue leaves the attempt count at 0. -/
def State.popCommand (s : State) : State :=
  let rest := s.commands.queue.tail
  (s.setCommands { queue := rest, headAttempts := 0 }).setOffers { s.line.offers with command := !rest.isEmpty }

/-- The source of an offer learns that its attempt failed, vetoed or aborted (R184). DESIGN CHOICE
(notes/assumptions/27.md): a REPORT given up leaves its attempt count at 0. -/
def State.sourceFailed (s : State) (o : Offer) : State :=
  match o with
  | .claim =>
    match s.claims.outstanding with
    | some c =>
      s.settleEndedAttempt { c with attempts := c.attempts + 1, inFlight := false }
        (decide (Config.attemptLimit ≤ c.attempts + 1))
    | none => s
  | .command =>
    if Config.attemptLimit ≤ s.commands.headAttempts + 1 then s.popCommand.countDropped 1
    else s.setCommands { s.commands with headAttempts := s.commands.headAttempts + 1 }
  | .report =>
    if Config.attemptLimit ≤ s.report.attempts + 1 then
      (s.setReport { s.report with attempts := 0 }).setOffers { s.line.offers with report := false }
    else s.setReport { s.report with attempts := s.report.attempts + 1 }
  | _ => s

/-- The source of an offer learns that its attempt lost arbitration (R183). -/
def State.sourceLost (s : State) (o : Offer) : State :=
  match o with
  | .claim =>
    match s.claims.outstanding with
    | some c => s.settleEndedAttempt { c with inFlight := false } false
    | none => s
  | _ => s

/-- MUTE is entered when the send-failure streak has reached 16 (R73, R180). -/
def State.muteOnSendStreak (s : State) : State :=
  if Config.sendStreakLimit ≤ s.line.sendStreak then s.enterMute { s.report.faults with mutedSend := true } else s

/-- MUTE is entered when the veto streak has reached 8 (R73, R180). -/
def State.muteOnVetoStreak (s : State) : State :=
  if Config.vetoStreakLimit ≤ s.line.vetoStreak then s.enterMute { s.report.faults with mutedVeto := true } else s

/-- What the receive frame buffer holds of a frame that reached its veto slot: the frame's bits and, last in its layout,
the veto slot's as this station read it, a '1' where the slot was recessive (R149, R168, R176). -/
def withVetoSlot (bits : List Bool) (recessive : Bool) : List Bool := bits ++ [recessive]

/-- An own attempt ends vetoed or aborted, the line interface going on with this activity and buffer: the streak
rises, the courtesy-gap flag is set, the source is told, and then the streak is judged (R142, R180, R183). -/
def State.failAttempt (s : State) (o : Offer) (activity : LineActivity) (buffer : List Bool) : State :=
  ((s.setLine
      { s.line with
        activity := activity, idleCount := 0, buffer := buffer, sendStreak := s.line.sendStreak + 1,
        courtesyGap := true }).sourceFailed o).muteOnSendStreak

/-- The station casts a veto on the frame that this buffer ends with, whatever the line makes of it (R175, R178). -/
def State.castVeto (s : State) (buffer : List Bool) : State :=
  let ended := s.setLine
    { s.line with activity := .counting, idleCount := 0, buffer := buffer, vetoStreak := s.line.vetoStreak + 1 }
  (ended.setCounters
    { ended.report.counters with vetoesCast := raised ended.report.counters.vetoesCast 1 }).muteOnVetoStreak

/-! ## Acceptance (R176 to R179) -/

/-- An own attempt ends accepted: its offer ends, the streak returns to 0 and the courtesy-gap flag is set (R141, R179,
R183). An accepted own RELEASE takes its STOPPING channel OFF (R86 (1)). DESIGN CHOICE (notes/assumptions/27.md): a
REPORT offer that ends leaves its attempt count at 0. -/
def State.endOwnAttempt (s : State) (o : Offer) : State :=
  let ended := s.setLine { s.line with sendStreak := 0, courtesyGap := true }
  match o with
  | .beacon => ended.setOffers { ended.line.offers with beacon := false }
  | .release n =>
    if ended.channelState n = .stopping then ended.endStopping n
    else ended.setOffers { ended.line.offers with releases := ended.line.offers.releases.set n false }
  | .claim => (ended.setInFlight false).setOffers { ended.line.offers with claim := false }
  | .renew => ended.setOffers { ended.line.offers with renew := false }
  | .command => ended.popCommand
  | .report =>
    (ended.setReport { ended.report with attempts := 0 }).setOffers { ended.line.offers with report := false }

/-- How this station took part in a frame that reached its veto slot: not at all, as its transmitter, or as a
receiver. A frame is the station's own only when it carries, bit for bit, what the attempt in flight sends (R77,
R173). -/
inductive Reception where
  | absent
  | own (offer : Offer)
  | heard
  deriving DecidableEq, Repr

/-- This station's part in a frame (R77, R176). -/
def State.reception (s : State) (f : Frame) : Reception :=
  if s.member.state.online then
    match s.line.activity with
    | .receiving => .heard
    | .transmitting o g => if g = f then .own o else .absent
    | _ => .absent
  else .absent

/-- The line effects of an acceptance at this station, which read the veto slot recessive: the frame is in the buffer,
the veto streak returns to 0 and the idle count starts (R168, R169, R176, R178). -/
def State.lineAccepted (s : State) (f : Frame) : State :=
  s.setLine
    { s.line with activity := .counting, idleCount := 0, buffer := withVetoSlot f.bits true, vetoStreak := 0 }

/-- Whether a frame passes the three judgements of R177. -/
def State.passesJudgements (s : State) (f : Frame) : Bool :=
  f.source != 0 && f.source != 63 && f.tag == s.settings.tag && decide (f.kind.toNat < 9)

/-- The counts of the three judgements, taken in their order (R177, R199). DESIGN CHOICE (notes/assumptions/26.md): a
frame that fails one judgement is not taken to the next, so one of kind 9 to 15 with a foreign tag raises the
foreign-profile counter and not the undefined-kind counter. -/
def State.countJudgements (s : State) (f : Frame) : State :=
  if f.source = 0 ∨ f.source = 63 then s
  else if f.tag ≠ s.settings.tag then
    let count := raised s.report.counters.foreignProfile 1
    (s.setCounters { s.report.counters with foreignProfile := count }).setFaults
      { s.report.faults with
        profileClash := s.report.faults.profileClash || decide (Config.profileClashLimit ≤ count) }
  else if 9 ≤ f.kind.toNat then
    s.setCounters { s.report.counters with undefinedKind := raised s.report.counters.undefinedKind 1 }
  else s

/-- An accepted frame at this station: its line effects and the judgements, the duplicate-ID check (R77), and for a
frame that passes them the effects of its kind, which learn whether the frame is the station's own. A receiver that
finds the frame defective has cast a veto that the line did not see (R176), and does not apply it; DESIGN CHOICE
(notes/assumptions/30.md): nor is the duplicate-ID check made on it. -/
def State.acceptFrame (s : State) (f : Frame) (effects : Bool → State → State) : State :=
  match s.reception f with
  | .absent => s
  | .own o =>
    let ended := ((s.lineAccepted f).countJudgements f).endOwnAttempt o
    if s.passesJudgements f then effects true ended else ended.judge
  | .heard =>
    if f.raw.defective then s.castVeto (withVetoSlot f.bits true)
    else
      let ended := (s.lineAccepted f).countJudgements f
      if f.source.toNat = s.ownId then ended.haltDuplicate
      else if s.passesJudgements f then effects false ended
      else ended

end Sys2Proof.Machine
end

