-- ==== Sys2Proof/Machine/ScheduleOps.lean ====
section
/-! DEFINITION. The schedule unit (chapter 6) and the adjustment of the calendar (5.4, 5.5). -/

namespace Sys2Proof.Machine

/-! ## Evaluation (R121 to R124) -/

/-- Executes the action of a matching entry (R122, R123, R124). -/
def State.runAction (s : State) (a : ScheduleAction) : State :=
  match a with
  | .start n cls duration => s.start n cls (allowanceOf duration)
  | .stop n => s.stop n
  | .inhibitOn groups => s.changeMasks { s.masks with schedule := s.masks.schedule ||| groups }
  | .inhibitOff groups => s.changeMasks { s.masks with schedule := s.masks.schedule &&& ~~~groups }

/-- One entry against one minute (R121). -/
def State.runEntry (minute : Nat) (s : State) (e : Option ScheduleEntry) : State :=
  match e with
  | some e => if e.selects minute then s.runAction e.action else s
  | none => s

/-- An evaluation pass: the entries in index order, each on the state the ones before it left (R121). -/
def State.evaluateMinute (s : State) (minute : Nat) : State := s.settings.schedule.foldl (State.runEntry minute) s

/-- The passes of the minutes after `last`, `count` of them, in ascending order around the cycle (R128). -/
def State.evaluateAfter (s : State) (last count : Nat) : State :=
  (List.range count).foldl (fun t k => t.evaluateMinute ((last + 1 + k) % Config.cycleMinutes)) s

/-- Raises the missed-minute counter (R129). -/
def State.countMissed (s : State) (amount : Nat) : State :=
  s.setCounters { s.report.counters with missedMinutes := raised s.report.counters.missedMinutes amount }

/-- A minute event (R126 to R130): a short step catches up, a long one evaluates the minute alone and counts those
it skipped, and a minute at or before the last evaluates nothing. -/
def State.minuteEvent (s : State) (minute : Nat) : State :=
  match s.lastMinute with
  | none => s
  | some last =>
    let d := forwardDistance last minute
    if 1 ≤ d ∧ d ≤ Config.catchUpMinutes then { s.evaluateAfter last d with lastMinute := some minute }
    else if Config.catchUpMinutes < d ∧ d < Config.halfCycleMinutes then
      { (s.evaluateMinute minute).countMissed (d - 1) with lastMinute := some minute }
    else s

/-! ## Adjustment (R109, R110, R113) -/

/-- The position after an adjustment: the present position with the delta C − S added, around the cycle (R109). -/
def adjustedPosition (present carried sof : Nat) : Nat :=
  (((present : Int) + ((carried : Int) - (sof : Int))) % (Config.cycleFractions : Int)).toNat

/-- The calendar adjusted to a carried value; a TIMESET also restarts the phase (R109, R110). -/
def Calendar.adjusted (c : Calendar) (carried : CalendarValue) (restartPhase : Bool) : Calendar :=
  { c with
    value := valueAt (adjustedPosition (fractionPosition c.value) (fractionPosition carried) c.sofPosition)
    phase := if restartPhase then 0 else c.phase
    valid := true }

/-- The station takes a carried time (R108 to R110, R113, R127): the first adjustment gives the time-valid notice, a
later one a minute event when it changes the minute number. A value out of range changes nothing. -/
def State.adjustTime (s : State) (carried : CalendarValue) (restartPhase : Bool) : State :=
  if carried.inRange then
    let adjusted := s.setCalendar (s.calendar.adjusted carried restartPhase)
    let minute := minuteNumber adjusted.calendar.value
    if s.calendar.valid then
      if minute = minuteNumber s.calendar.value then adjusted else adjusted.minuteEvent minute
    else { adjusted.setFaults { s.report.faults with timeInvalid := false } with lastMinute := some minute }
  else s

end Sys2Proof.Machine
end

