-- ==== Sys2Proof/Machine/Frames.lean ====
section
/-! DEFINITION. The meanings of the accepted frames: what each kind does at its acceptance to the blocks that own its
effects (table of R177). -/

namespace Sys2Proof.Machine

/-! ## BEACON (R21, R56 to R71) -/

/-- The witness record after a comparison; none where divergence is confirmed (R62). -/
def witnessAfter (w : Option Witness) (sender : Nat) (isMatch : Bool) : Option (Option Witness) :=
  if isMatch then some none
  else
    match w with
    | none => some (some { sender := sender, count := 1 })
    | some w =>
      if w.sender = sender ∧ w.count + 1 < Config.witnessLimit then
        some (some { sender := sender, count := w.count + 1 })
      else none

/-- Whether the carried digest matches the own digest in SYNCED (R61 (1)): against own epoch + 1, the table as it
stands before ageing, and the own line inhibit mask. -/
def State.digestMatches (s : State) (b : BeaconFields) : Bool :=
  s.member.epoch + 1 == b.epoch && tableDigest s.table == b.digest && s.masks.line == b.mask

/-- The witness record after a beacon applied in SYNCED; none where divergence is confirmed. An own or a
non-authoritative beacon leaves it as it is (R60, R62). -/
def State.witnessUpdate (s : State) (b : BeaconFields) (sender : Nat) (own : Bool) : Option (Option Witness) :=
  if own || !b.authoritative then some s.member.witness
  else witnessAfter s.member.witness sender (s.digestMatches b)

/-- Gives "own record removed, by expiry" for the own records among those removed (R21 (3)). DESIGN CHOICE
(notes/assumptions/24.md): in table order, which fixes the enqueue numbers of the demands they requeue; R9 gives no
order. -/
def State.giveExpiries (s : State) (gone : List Holding) : State :=
  gone.foldl (fun t r => if r.holder = t.ownId then t.ownExpired r.channel else t) s

/-- A RENEW offer is placed when an own HELD or PENDING record has a lease of L/2 or less (R71). -/
def State.placeRenew (s : State) : State :=
  if (ownReserved s.ownId s.table).any fun r => decide (r.lease ≤ s.settings.lease / 2) then
    s.setOffers { s.line.offers with renew := true }
  else s

/-- The beacon timer restarts and any BEACON offer is withdrawn (R56, R57). -/
def State.restartBeacon (s : State) : State :=
  (s.setMember { s.member with beaconTimer := .counting 0 }).setOffers { s.line.offers with beacon := false }

/-- The table's part of a beacon (R21), with its events. Where divergence is confirmed at the same beacon the
promotion does not reach the channel, whose output is not driven in either order (R63). -/
def State.beaconTable (s : State) (divergence : Bool) : State :=
  let aged := ageTable s.table
  let gone := expiredRecords aged
  let checked :=
    if s.member.state = .synced then promotionCheck s.settings.budget (liveRecords aged)
    else (liveRecords aged, none)
  let expired := (s.setTable checked.1).giveExpiries gone
  let signalled := if gone = [] then expired else expired.holdClear
  if divergence then signalled else signalled.givePromotion checked.2

/-- The membership controller's part of a beacon applied in SYNCED (R59, R60, R62). -/
def State.beaconSynced (s : State) (b : BeaconFields) (own : Bool) (witness : Option (Option Witness)) : State :=
  let epoch := if own then b.epoch else s.member.epoch + 1
  match witness with
  | some w => s.setMember { s.member with epoch := epoch, witness := w }
  | none => (s.setMember { s.member with epoch := epoch }).confirmDivergence

/-- Whether a join completes at a beacon (R68), from the count and flag after it and the table's fields before
ageing. -/
def joinCompletes (lease heard : Nat) (authHeard authoritative : Bool) (own carried : TableDigest) : Bool :=
  decide (lease ≤ heard) &&
    ((authoritative && own == carried && carried.shedding == 0 && !carried.pending) ||
      (!authHeard && heard == lease))

/-- The membership controller's part of a beacon applied in LISTENING (R59, R67 to R70), given the table's fields as
the snapshot took them. -/
def State.beaconListening (s : State) (b : BeaconFields) (own : Bool) (snapshot : TableDigest) : State :=
  let authoritative := b.authoritative && !own
  let heard := s.member.beaconsHeard + 1
  let authHeard := s.member.authHeard || authoritative
  let counted := s.setMember { s.member with epoch := b.epoch, beaconsHeard := heard, authHeard := authHeard }
  let adopted := if authoritative then counted.changeMasks { counted.masks with line := b.mask } else counted
  if joinCompletes s.settings.lease heard authHeard authoritative snapshot b.digest then adopted.completeJoin
  else if 2 * s.settings.lease ≤ heard then adopted.restartJoin
  else adopted

/-- What an applied BEACON does (R60): the table's part, then the timer, the renewal check and the membership
controller's part, then the judgement of the claim unit; the calendar takes the time of another station's beacon
(R108). DESIGN CHOICE (notes/assumptions/12.md): the calendar's part comes last. -/
def State.applyBeacon (b : BeaconFields) (sender : Nat) (own : Bool) (s : State) : State :=
  let synced := s.member.state == .synced
  let witness := if synced then s.witnessUpdate b sender own else some s.member.witness
  let renewed := ((s.beaconTable witness.isNone).restartBeacon.dropIdleRenew).placeRenew
  let settled :=
    (if synced then renewed.beaconSynced b own witness
    else renewed.beaconListening b own (tableDigest s.table)).judge
  if b.timeValid && !own then settled.adjustTime b.time false else settled

/-- BEACON_ACCEPTED (R60). -/
def execBeaconAccepted (head : FrameHead) (payload : Vector Byte 14) (s : State) :
    Host.Outcome State Fault Refusal :=
  .next
    (s.acceptFrame (frameOf head kindBeacon payload.toList)
      (State.applyBeacon (beaconFields payload) head.source.toNat))

/-! ## CLAIM (R12, R48, R52) -/

/-- Raises the claims-voided counter (R48). -/
def State.countVoided (s : State) : State :=
  s.setCounters { s.report.counters with claimsVoided := raised s.report.counters.claimsVoided 1 }

/-- The outstanding claim ends admitted (R48, R52, R83): with a stop note, or while inhibited, its channel goes
straight to STOPPING; otherwise it goes ON or PENDING with the demand. -/
def State.settleAdmitted (s : State) (o : OutstandingClaim) (promoted : Bool) : State :=
  let ended := s.setClaims { s.claims with outstanding := none }
  let demand : Demand := { cls := o.cls, allowance := o.allowance }
  if o.stopNote then ended.enterStopping o.channel
  else if s.inhibited o.channel then (ended.enterStopping o.channel).requeue o.channel demand
  else if promoted then ended.switchOn o.channel demand
  else ended.setChannelState o.channel (.pending demand)

/-- The outstanding claim ends refused (R48, R52 (3)): with a stop note its demand is dropped, otherwise it returns
with HOLD set. -/
def State.settleRefused (s : State) (o : OutstandingClaim) : State :=
  if o.stopNote then s.dropClaim o else s.returnClaim o true

/-- The claim unit settles its outstanding claim by the result of the own CLAIM for this channel (R48). -/
def State.settleOwnClaim (s : State) (result : ClaimResult) (c : ChannelIx) : State :=
  match s.claims.outstanding with
  | some o =>
    if o.channel = c then
      match result with
      | .granted => s.settleAdmitted o true
      | .displacing => s.settleAdmitted o false
      | .noBudget => s.countVoided.settleRefused o
      | .full => s.countVoided.settleRefused o
      | .duplicate => s.settleRefused o
    else s
  | none => s

/-- Gives "own record became SHEDDING" for the own records among the victims (R9, R15). DESIGN CHOICE
(notes/assumptions/24.md): in victim order, which fixes the enqueue numbers of the demands they requeue; R9 gives no
order. -/
def State.giveSheds (s : State) (victims : List (Nat × ChannelIx)) : State :=
  victims.foldl (fun t v => if v.1 = t.ownId then t.ownShed v.2 else t) s

/-- What an applied CLAIM does (R7, R12, R48, R156): it is evaluated in SYNCED, for a units byte in 1..250. DESIGN
CHOICE (notes/assumptions/24.md): the demands of own victims are requeued before the claimer's own. -/
def State.applyClaim (source : Nat) (cls : Class) (c : ChannelIx) (units : Nat) (displace : Bool) (own : Bool)
    (s : State) : State :=
  if s.member.state = .synced ∧ unitsInRange units = true then
    let ev := evaluateClaim s.settings.budget s.settings.lease s.table source c units cls displace
    let shed := (s.setTable ev.table).giveSheds ev.victims
    let settled := if own then shed.settleOwnClaim ev.result c else shed
    settled.dropIdleRenew.judge
  else s

/-- CLAIM_ACCEPTED (R12). -/
def execClaimAccepted (head : FrameHead) (payload : Vector Byte 2) (s : State) :
    Host.Outcome State Fault Refusal :=
  .next
    (s.acceptFrame (frameOf head kindClaim payload.toList)
      (State.applyClaim head.source.toNat (Class.ofBits head.cls) (channelLow payload[0]) payload[1].toNat
        (payload[0].getLsbD 7)))

/-! ## RELEASE (R16) -/

/-- What an applied RELEASE does (R16): a record it names leaves, and in SYNCED a promotion is checked. What the
acceptance of the own RELEASE does to its channel has been done as the own attempt ended (R86 (1)). -/
def State.applyRelease (source : Nat) (c : ChannelIx) (_own : Bool) (s : State) : State :=
  match findHolding source c s.table with
  | none => s.judge
  | some _ =>
    let removed := removeHolding source c s.table
    let checked :=
      if s.member.state = .synced then promotionCheck s.settings.budget removed else (removed, none)
    let changed := (s.setTable checked.1).holdClear
    let told := if source = s.ownId then changed.ownReleased c else changed
    (told.givePromotion checked.2).dropIdleRenew.judge

/-- RELEASE_ACCEPTED (R16). -/
def execReleaseAccepted (head : FrameHead) (payload : Vector Byte 1) (s : State) :
    Host.Outcome State Fault Refusal :=
  .next
    (s.acceptFrame (frameOf head kindRelease payload.toList)
      (State.applyRelease head.source.toNat (channelLow payload[0])))

/-! ## RENEW (R17 to R19) -/

/-- What an applied RENEW does: its usable entries in frame order, renewing in SYNCED and learning in LISTENING. -/
def State.applyRenew (source : Nat) (payload : List Byte) (_own : Bool) (s : State) : State :=
  (s.setTable
    ((usableEntries payload).foldl
      (if s.member.state = .synced then renewMatching s.settings.lease source
        else renewLearning s.settings.budget s.settings.lease source)
      s.table)).judge

/-- RENEW_ACCEPTED (R17). -/
def execRenewAccepted (head : FrameHead) (payload : List Byte) (s : State) : Host.Outcome State Fault Refusal :=
  .next (s.acceptFrame (frameOf head kindRenew payload) (State.applyRenew head.source.toNat payload))

/-! ## INHIBIT and TIMESET (R95, R110) -/

/-- What an applied INHIBIT does: a group named in both masks ends in the mask (R95, R147). -/
def State.applyInhibit (setMask clearMask : GroupMask) (_own : Bool) (s : State) : State :=
  s.changeMasks { s.masks with line := (s.masks.line &&& ~~~clearMask) ||| setMask }

/-- INHIBIT_ACCEPTED (R95). -/
def execInhibitAccepted (head : FrameHead) (payload : Vector Byte 2) (s : State) :
    Host.Outcome State Fault Refusal :=
  .next
    (s.acceptFrame (frameOf head kindInhibit payload.toList) (State.applyInhibit payload[0] payload[1]))

/-- TIMESET_ACCEPTED (R110). -/
def execTimesetAccepted (head : FrameHead) (payload : Vector Byte 7) (s : State) :
    Host.Outcome State Fault Refusal :=
  .next
    (s.acceptFrame (frameOf head kindTimeset payload.toList) fun _ t =>
      t.adjustTime
        (calendarOfBytes payload[0] payload[1] payload[2] payload[3] payload[4] payload[5] payload[6]) true)

/-! ## DEMAND (R143 to R146) -/

/-- A DEMAND on the own channels of a group, in ascending channel number (R145). -/
def State.actOnGroup (s : State) (a : DemandAction) (g : GroupIx) (cls : Class) (duration : Nat) : State :=
  allEight.foldl
    (fun t n => if (t.channelSettings n).group = some g then t.act a n cls duration else t) s

/-- What an applied DEMAND does (R143, R146): a channel or group above 7, an action outside 1..3, or another target
has no effect. -/
def State.applyDemand (cls : Class) (target place action : Byte) (duration : Nat) (_own : Bool) (s : State) : State :=
  match DemandAction.ofByte? action, placeOf? place with
  | some a, some n =>
    if target = 63#8 then s.actOnGroup a n cls duration
    else if target.toNat = s.ownId then s.act a n cls duration
    else s
  | _, _ => s

/-- DEMAND_ACCEPTED (R143). -/
def execDemandAccepted (head : FrameHead) (payload : Vector Byte 5) (s : State) :
    Host.Outcome State Fault Refusal :=
  .next
    (s.acceptFrame (frameOf head kindDemand payload.toList)
      (State.applyDemand (Class.ofBits head.cls) payload[0] payload[1] payload[2]
        (word16 payload[3] payload[4]).toNat))

/-! ## QUERY, REPORT and undefined kinds (R150, R202) -/

/-- The fault set without its latched faults (R199). -/
def FaultSet.clearLatched (f : FaultSet) : FaultSet :=
  { f with diverged := false, mutedVeto := false, mutedSend := false, profileClash := false,
           outQueueFull := false }

/-- What an applied QUERY does at the station it addresses (R202): its clears, and the REPORT offer with no attempt
counted. -/
def State.applyQuery (target flags : Byte) (_own : Bool) (s : State) : State :=
  if target.toNat = s.ownId then
    let faults := if flags.getLsbD 0 then s.report.faults.clearLatched else s.report.faults
    let counters := if flags.getLsbD 1 then Counters.zero else s.report.counters
    (s.setReport { s.report with faults := faults, counters := counters, attempts := 0 }).setOffers
      { s.line.offers with report := true }
  else s

/-- QUERY_ACCEPTED (R202). -/
def execQueryAccepted (head : FrameHead) (payload : Vector Byte 2) (s : State) :
    Host.Outcome State Fault Refusal :=
  .next (s.acceptFrame (frameOf head kindQuery payload.toList) (State.applyQuery payload[0] payload[1]))

/-- REPORT_ACCEPTED (R150, R203): its line effects alone; the own offer ends with the attempt. -/
def execReportAccepted (head : FrameHead) (payload : Vector Byte 19) (s : State) :
    Host.Outcome State Fault Refusal :=
  .next (s.acceptFrame (frameOf head kindReport payload.toList) fun _ t => t)

/-- UNDEFINED_KIND_ACCEPTED (R150, R177 (3)): no block applies it; the undefined-kind counter rises. -/
def execUndefinedKindAccepted (head : FrameHead) (kind : Fin 7) (payload : List Byte) (s : State) :
    Host.Outcome State Fault Refusal :=
  .next (s.acceptFrame (frameOf head (BitVec.ofNat 4 (9 + kind.val)) payload) fun _ t => t)

end Sys2Proof.Machine
end

