-- ==== Sys2Proof/Machine/LineEvents.lean ====
section
/-! DEFINITION. The meanings of the line's own commands: idle and gap, start of frame, and the ends of a frame that is
not accepted (chapter 9). A command whose event cannot occur in the present state changes nothing (DESIGN CHOICE,
notes/assumptions/5.md). -/

namespace Sys2Proof.Machine

/-- The station's part in the line; it has one only in LISTENING and SYNCED (R185). -/
def State.part (s : State) : LineActivity := if s.member.state.online then s.line.activity else .apart

/-- LINE_IDLE (R169): the idle count reaches 11 bit times. -/
def execLineIdle (s : State) : Host.Outcome State Fault Refusal :=
  .next
    (match s.part with
    | .counting => s.setLine { s.line with activity := .idle, idleCount := Config.idleBits }
    | _ => s)

/-- COURTESY_GAP_END (R171): the line stays recessive to 15 bit times, and the courtesy-gap flag clears. -/
def execCourtesyGapEnd (s : State) : Host.Outcome State Fault Refusal :=
  .next
    (match s.part with
    | .idle =>
      if s.line.courtesyGap then s.setLine { s.line with idleCount := Config.courtesyBits, courtesyGap := false }
      else s
    | _ => s)

/-- LINE_DOMINANT_BEFORE_IDLE (R169): not a SOF; the idle count restarts. -/
def execLineDominantBeforeIdle (s : State) : Host.Outcome State Fault Refusal :=
  .next
    (match s.part with
    | .counting => s.setLine { s.line with idleCount := 0 }
    | _ => s)

/-- The station's own opportunity to start a frame (R170 (1), R182): the line is idle for it and its courtesy gap is
complete. -/
def State.startOwn (s : State) : State := if s.line.courtesyGap then s else s.startChosen 3

/-- START_OF_FRAME (R170): an own start, or another station's first leading edge on the idle line. -/
def execStartOfFrame (cause : SofCause) (s : State) : Host.Outcome State Fault Refusal :=
  .next
    (match s.part with
    | .idle =>
      match cause with
      | .ownStart => s.startOwn
      | .otherStation => s.beginReception
    | _ => s)

/-- The own frame's bits up to a bit, and then that bit as it was read: the other level (R168, R172, R173). -/
def Frame.readUpTo (f : Frame) (bit : Nat) : List Bool := f.bits.take bit ++ [!(f.bits.getD bit true)]

/-- ARBITRATION_LOST (R172 (1), R183): the station sent '1' at this bit and read '0'. It becomes a receiver of the
frame, and keeps the bits it has read. -/
def execArbitrationLost (bit : Fin 12) (s : State) : Host.Outcome State Fault Refusal :=
  .next
    (match s.part with
    | .transmitting o f =>
      if f.arbitrationBits.getD bit.val false then
        (s.setLine { s.line with activity := .receiving, buffer := f.readUpTo bit.val }).sourceLost o
      else s
    | _ => s)

/-- Whether a readback that differs at this bit is an abort: a sent '0' within the arbitration field, any bit after it
and before the veto slot (R172 (2), R173). -/
def Frame.abortsAt (f : Frame) (bit : Nat) : Bool :=
  if bit < 12 then !(f.arbitrationBits.getD bit true) else decide (bit < f.bits.length)

/-- ATTEMPT_ABORTED (R173, R183): the attempt ends at once, and the station goes on as a receiver. -/
def execAttemptAborted (bit : Nat) (s : State) : Host.Outcome State Fault Refusal :=
  .next
    (match s.part with
    | .transmitting o f =>
      if f.abortsAt bit then s.failAttempt o .receiving (f.readUpTo bit) else s
    | _ => s)

/-- FRAME_TRUNCATED (R174): a receiver drops the frame and counts idle; nothing else changes. -/
def execFrameTruncated (s : State) : Host.Outcome State Fault Refusal :=
  .next
    (match s.part with
    | .receiving => s.setLine { s.line with activity := .counting, idleCount := 0, buffer := [] }
    | _ => s)

/-- FRAME_VETOED (R168, R175, R176, R183), the veto slot read dominant: a transmitter's attempt ends vetoed; a receiver
discards the frame, and has cast a veto when the bits it read make the frame defective. DESIGN CHOICE
(notes/assumptions/29.md): so has a station whose own attempt in this frame has aborted and which another transmitter
left a receiver. -/
def execFrameVetoed (read : List Bool) (s : State) : Host.Outcome State Fault Refusal :=
  .next
    (match s.part with
    | .transmitting o f =>
      (s.setCounters { s.report.counters with ownVetoed := raised s.report.counters.ownVetoed 1 }).failAttempt o
        .counting (withVetoSlot f.bits false)
    | .receiving =>
      if readsDefective read then s.castVeto (withVetoSlot read false)
      else if (RawFrame.ofBits read).isSome then
        s.setLine { s.line with activity := .counting, idleCount := 0, buffer := withVetoSlot read false }
      else s
    | _ => s)

/-- VETOED_FRAME_ACCEPTED_BY_LINE (R168, R176), the veto slot read recessive: the veto did not reach the line; the
station does not apply the frame, and its veto streak rises. -/
def execVetoedFrameAcceptedByLine (read : List Bool) (s : State) : Host.Outcome State Fault Refusal :=
  .next
    (match s.part with
    | .receiving => if readsDefective read then s.castVeto (withVetoSlot read true) else s
    | _ => s)

end Sys2Proof.Machine
end

