-- ==== Sys2Proof/Machine/Image.lean ====
section
/-! DEFINITION. The configuration image: its layout (R161 to R165), the four checks of a read (R192, R194), and the
settings a sound image gives (R196). A reader of a field answers none where the field is outside its value set, so
reading the settings and judging the ranges are one function. -/

namespace Sys2Proof.Machine

/-- The bytes that a read's bits spell, each byte most significant bit first, the first at address 0 (R190 (4)). -/
def imageOfBits : List Bool → List Byte
  | b7 :: b6 :: b5 :: b4 :: b3 :: b2 :: b1 :: b0 :: rest =>
    fieldAt 8 0 [b7, b6, b5, b4, b3, b2, b1, b0] :: imageOfBits rest
  | _ => []

/-- The byte at an address of the image as the read brought it in; the fitted resistor holds the data wire high
where nothing drives it, so a byte no memory gave reads 0xFF (R190). -/
def imageByte (image : List Byte) (i : Nat) : Byte := image.getD i 0xFF#8

/-- The 16-bit value at an address, high byte first. -/
def imageWord (image : List Byte) (i : Nat) : Nat := (word16 (imageByte image i) (imageByte image (i + 1))).toNat

/-- Passes a value on when its condition holds (R194). -/
def inSet {α : Type} (ok : Bool) (a : α) : Option α := if ok then some a else none

/-- Reads the records k, k + 1, ... of a part; none when one of them is outside its value sets. -/
def readRecords {α : Type} (read : Nat → Option α) (k : Nat) : Nat → Option (List α)
  | 0 => some []
  | n + 1 =>
    match read k, readRecords read (k + 1) n with
    | some a, some as => some (a :: as)
    | _, _ => none

/-- Eight records in order as a vector. -/
def eightOf {α : Type} (as : List α) : Option (Vector α 8) :=
  if h : as.length = 8 then some ⟨as.toArray, by simpa using h⟩ else none

/-- Reads channel record k against the image's own B (R162, R194). -/
def readChannel (image : List Byte) (budget k : Nat) : Option ChannelSettings :=
  let base := 10 + 7 * k
  let weight := (imageByte image base).toNat
  let group := imageByte image (base + 1)
  let flags := imageByte image (base + 2)
  if weight ≤ budget ∧ (group.toNat < 8 ∨ group = 0xFF#8) then
    some
      { weight := weight, activeLow := flags.getLsbD 0, group := placeOf? group, mayDisplace := flags.getLsbD 1,
        ceiling := Class.ofBits (flags.extractLsb' 2 2), maxRun := imageWord image (base + 3),
        rest := imageWord image (base + 5) }
  else none

/-- Reads the demand action of an input's action code 1..3, or of 4..6 for a SEND action (R163). -/
def edgeDemandAction (code : Nat) : DemandAction :=
  if code % 3 = 1 then .start else if code % 3 = 2 then .stop else .toggle

/-- Reads the action of an EDGE input: only the fields the action uses are judged (R133, R163, R194). The class
of a STOP is not used; a SEND action's target byte is a channel, or a group for target station 63, in either case
0..7; a SEND-STOP does not use the duration and sends 0 (R138). -/
def readEdgeAction (action station place cls : Byte) (duration : Nat) : Option EdgeAction :=
  let code := action.toNat
  if code = 2 then
    (placeOf? place).map fun c => .act .stop c .urgent 0
  else if code = 1 ∨ code = 3 then
    match placeOf? place, Class.ofByte? cls with
    | some c, some p => some (.act (edgeDemandAction code) c p duration)
    | _, _ => none
  else if 4 ≤ code ∧ code ≤ 6 then
    match placeOf? place, Class.ofByte? cls with
    | some _, some p =>
      inSet (decide (1 ≤ station.toNat ∧ station.toNat ≤ 63))
        (.send (edgeDemandAction code) station place p (if code = 5 then 0 else duration))
    | _, _ => none
  else if code = 7 then some (.inhibitSet place)
  else if code = 8 then some (.inhibitClear place)
  else none

/-- Reads input record k (R163, R194). -/
def readInputRecord (image : List Byte) (k : Nat) : Option InputSettings :=
  let base := 66 + 8 * k
  let first := imageByte image base
  let mode := first.extractLsb' 0 2
  let edge := first.extractLsb' 2 2
  let debounce := (imageByte image (base + 1)).toNat
  if mode = 0 then some .unused
  else if mode = 1 then
    match readEdgeAction (imageByte image (base + 2)) (imageByte image (base + 3)) (imageByte image (base + 4))
        (imageByte image (base + 5)) (imageWord image (base + 6)) with
    | some action =>
      if edge = 0 then some (.edge .rising debounce action)
      else if edge = 1 then some (.edge .falling debounce action)
      else if edge = 2 then some (.edge .both debounce action)
      else none
    | none => none
  else if mode = 2 then
    some (.levelInhibit (first.getLsbD 4) debounce (imageByte image (base + 4)))
  else none

/-- Reads a minute or hour byte: below its bound, or 255 for ANY (R164). -/
def readOrAny (bound : Nat) (b : Byte) : Option (Option Nat) :=
  if b = 255#8 then some none else inSet (decide (b.toNat < bound)) (some b.toNat)

/-- Reads the day mode and day value of a CALENDAR entry (R164). Bit 7 of a weekday set is not read. -/
def readDay (mode value : Byte) : Option DaySelect :=
  if mode = 0 then some .any
  else if mode = 1 then
    let set := value &&& 0x7F#8
    inSet (set != 0) (.weekdays set)
  else if mode = 2 then
    inSet (decide (1 ≤ value.toNat ∧ value.toNat ≤ 31)) (.date value.toNat)
  else none

/-- Reads the action of a schedule entry; only the fields the action uses are judged (R116, R164). -/
def readScheduleAction (action target cls : Byte) (duration : Nat) : Option ScheduleAction :=
  if action = 1 then
    match placeOf? target, Class.ofByte? cls with
    | some c, some p => some (.start c p duration)
    | _, _ => none
  else if action = 2 then (placeOf? target).map .stop
  else if action = 3 then some (.inhibitOn target)
  else if action = 4 then some (.inhibitOff target)
  else none

/-- Reads the minute selection of a schedule record of kind 1 or 2 (R164). -/
def readSelect (image : List Byte) (base : Nat) : Option MinuteSelect :=
  let kind := imageByte image base
  if kind = 1 then
    match readOrAny 60 (imageByte image (base + 1)), readOrAny 24 (imageByte image (base + 2)),
        readDay (imageByte image (base + 3)) (imageByte image (base + 4)) with
    | some minute, some hour, some day => some (.calendar minute hour day)
    | _, _, _ => none
  else if kind = 2 then
    let period := imageWord image (base + 1)
    let offset := imageWord image (base + 3)
    inSet (decide (1 ≤ period ∧ period ≤ 1440 ∧ offset < period)) (.cyclic period offset)
  else none

/-- Reads schedule record k; a kind byte of 0 is a NONE entry and nothing else of it is read (R164). Bits 15..12
of the month set are not read. -/
def readScheduleRecord (image : List Byte) (k : Nat) : Option (Option ScheduleEntry) :=
  let base := 130 + 12 * k
  if imageByte image base = 0 then some none
  else
    let months := word16 (imageByte image (base + 5)) (imageByte image (base + 6)) &&& 0x0FFF#16
    match readSelect image base,
        readScheduleAction (imageByte image (base + 7)) (imageByte image (base + 8)) (imageByte image (base + 9))
          (imageWord image (base + 10)) with
    | some select, some action =>
      inSet (months != 0) (some { select := select, months := months, action := action })
    | _, _ => none

/-- The profile bytes of an image (R161). -/
def profileBytes (image : List Byte) : List Byte :=
  [imageByte image 6, imageByte image 7, imageByte image 8, imageByte image 9]

/-- The range check of R194 and the settings of R196 in one: none when a field the image uses is outside its value
set. -/
def readSettings (image : List Byte) : Option Settings :=
  let stationId := (imageByte image 5).toNat
  let rate := (imageByte image 6).toNat
  let budget := (imageByte image 7).toNat
  let lease := (imageByte image 8).toNat
  let period := (imageByte image 9).toNat
  if 1 ≤ stationId ∧ stationId ≤ 62 ∧ rate ≤ 3 ∧ 1 ≤ budget ∧ budget ≤ 250 ∧ lease % 2 = 0 ∧ 4 ≤ lease ∧
      lease ≤ 60 ∧ 1 ≤ period ∧ period ≤ 30 then
    match (readRecords (readChannel image budget) 0 8).bind eightOf,
        (readRecords (readInputRecord image) 0 8).bind eightOf, readRecords (readScheduleRecord image) 0 32 with
    | some channels, some inputs, some schedule =>
      some
        { stationId := stationId, rateIndex := rate, budget := budget, lease := lease, period := period,
          tag := profileTag (profileBytes image), channels := channels, inputs := inputs, schedule := schedule }
    | _, _, _ => none
  else none

/-- The bytes the image check covers, 0 to 513 (R165). -/
def checkedBytes (image : List Byte) : List Byte := (List.range 514).map (imageByte image)

/-- The first three checks of R192, in their order; none when all pass. -/
def formFailure (image : List Byte) : Option ImageCheck :=
  if ¬ (imageByte image 0 = 0xA5#8 ∧ imageByte image 1 = 0x5A#8 ∧ imageByte image 2 = 1#8) then some .markFailure
  else if imageWord image 3 ≠ Config.imageLength then some .lengthFailure
  else if imageWord image 514 ≠ (crcBytes (checkedBytes image)).toNat then some .checkFailure
  else none

/-- The four checks of R192, stopping at the first that fails. -/
def checkImage (image : List Byte) : ImageCheck :=
  match formFailure image with
  | some failure => failure
  | none => if (readSettings image).isSome then .sound else .rangeFailure

end Sys2Proof.Machine
end

