-- ==== Sys2Proof/Machine/InputOps.lean ====
section
/-! DEFINITION. The input unit (chapter 7): reading and debouncing the lines, edges and their actions, and the command
queue. -/

namespace Sys2Proof.Machine

/-! ## The command queue (R138, R140) -/

/-- A command is raised (R138, R140): in MUTE it is dropped and counted, in LISTENING and SYNCED it joins the queue or
is dropped for lack of room. -/
def State.raiseCommand (s : State) (c : Command) : State :=
  if s.member.state = .mute then s.countDropped 1
  else if s.member.state.online then
    if s.commands.queue.length < Config.commandCapacity then
      (s.setCommands
          { queue := s.commands.queue ++ [c]
            headAttempts := if s.commands.queue = [] then 0 else s.commands.headAttempts }).setOffers
        { s.line.offers with command := true }
    else (s.countDropped 1).setFaults { s.report.faults with outQueueFull := true }
  else s

/-! ## Edges (R136 to R138) -/

/-- Whether an edge selection acts on a change to this level (R136). -/
def EdgeSelect.acts (select : EdgeSelect) (high : Bool) : Bool :=
  match select with
  | .rising => high
  | .falling => !high
  | .both => true

/-- The action of an edge (R137, R138). -/
def State.performEdge (s : State) (a : EdgeAction) : State :=
  match a with
  | .act action n cls duration => s.act action n cls duration
  | .send action target place cls duration => s.raiseCommand (.demand target place action cls duration)
  | .inhibitSet groups => s.raiseCommand (.inhibit groups 0)
  | .inhibitClear groups => s.raiseCommand (.inhibit 0 groups)

/-- The level-inhibit mask is worked out again from the taken levels (R96, R139). -/
def State.followLevels (s : State) : State :=
  s.changeMasks { s.masks with level := levelMask s.settings.inputs s.inputs }

/-! ## Debounce (R135) -/

/-- The level read becomes the taken level, the timer stopped, with what a change of it does (R135, R136, R139). -/
def State.takeLevel (s : State) (n : InputIx) (high : Bool) : State :=
  let taken := s.setInput n { taken := some high, debounce := 0 }
  match s.inputSettings n with
  | .unused => s
  | .edge select _ action => if select.acts high then taken.performEdge action else taken
  | .levelInhibit _ _ _ => taken.followLevels

/-- The debounce setting D of an input; none for an UNUSED one, whose line is not sampled (R133, R134). -/
def InputSettings.debounce? : InputSettings → Option Nat
  | .unused => none
  | .edge _ d _ => some d
  | .levelInhibit _ d _ => some d

/-- A tick's read of an input at this level: the four cases of R135. Lines are read in LISTENING, SYNCED and MUTE. -/
def State.readInput (s : State) (n : InputIx) (high : Bool) : State :=
  if s.member.state.working then
    match (s.inputSettings n).debounce?, s.inputs[n].taken with
    | some d, some level =>
      if s.inputs[n].debounce = 0 then
        if high = level then s
        else if d = 0 then s.takeLevel n high
        else s.setInput n { taken := some level, debounce := d }
      else if high = level then s.setInput n { taken := some level, debounce := 0 }
      else if s.inputs[n].debounce = 1 then s.takeLevel n high
      else s.setInput n { taken := some level, debounce := s.inputs[n].debounce - 1 }
    | _, _ => s
  else s

/-- The first sample of every EDGE and LEVEL-INHIBIT input, without debounce and without an edge (R134). -/
def sampledInputs (settings : Vector InputSettings 8) (pins : Vector Bool 8) : Vector InputState 8 :=
  Vector.ofFn fun n =>
    { taken := (settings[n].debounce?).map fun _ => pins[n], debounce := 0 }

end Sys2Proof.Machine
end

