-- ==== Sys2Proof/Machine/Startup.lean ====
section
/-! DEFINITION. The meanings of the start-up commands: resets, the oscillator start wait, and LOADING (chapter 10). -/

namespace Sys2Proof.Machine

/-! ## Resets (R186, R187) -/

/-- The held resets with one more kind. -/
def HeldResets.hold (h : HeldResets) (k : ResetKind) : HeldResets :=
  match k with
  | .powerOn => { h with powerOn := true }
  | .supplyDrop => { h with supplyDrop := true }
  | .resetPin => { h with resetPin := true }

/-- The held resets without one kind. -/
def HeldResets.release (h : HeldResets) (k : ResetKind) : HeldResets :=
  match k with
  | .powerOn => { h with powerOn := false }
  | .supplyDrop => { h with supplyDrop := false }
  | .resetPin => { h with resetPin := false }

/-- Whether a kind of reset is held. -/
def HeldResets.holds (h : HeldResets) (k : ResetKind) : Bool :=
  match k with
  | .powerOn => h.powerOn
  | .supplyDrop => h.supplyDrop
  | .resetPin => h.resetPin

/-- Whether any reset is held. -/
def HeldResets.any (h : HeldResets) : Bool := h.powerOn || h.supplyDrop || h.resetPin

/-- RESET_ONSET (R186, R187): in every state, whatever the part was doing, every block takes its reset values. The
levels on the input lines and on DI and the commands that wait belong to the outside. -/
def execResetOnset (kind : ResetKind) (s : State) : Host.Outcome State Fault Refusal :=
  .next
    { State.reset with
      pending := s.pending, phase := .inReset, heldResets := s.heldResets.hold kind, pins := s.pins
      dataIn := s.dataIn }

/-- RESET_END (R186, R188): when the last reset held ends, the oscillator starts and the start wait counts from zero;
while another is held the part stays in reset. -/
def execResetEnd (kind : ResetKind) (s : State) : Host.Outcome State Fault Refusal :=
  .next
    (if s.phase = .inReset ∧ s.heldResets.holds kind = true then
      let left := s.heldResets.release kind
      if left.any then { s with heldResets := left }
      else { s with heldResets := left, phase := .startWait, startPeriods := 0 }
    else s)

/-! ## The start wait and the reads (R188 to R191) -/

/-- The end of the start wait (R188): LOADING, both dividers from zero, the calendar's reset value, the first read,
and TIME-INVALID alone in the fault set. -/
def State.endStartWait (s : State) : State :=
  { s with
    phase := .running
    startPeriods := Config.startWaitPeriods
    tickDivider := 0
    calendar := Calendar.reset
    member := { s.member with state := .loading }
    loader := { attempts := 1, activity := .reading 0 [], lastCheck := none }
    report := { s.report with faults := { FaultSet.none with timeInvalid := true } } }

/-- OSCILLATOR_START_WAIT_END (R188). -/
def execOscillatorStartWaitEnd (s : State) : Host.Outcome State Fault Refusal :=
  .next (if s.phase = .startWait then s.endStartWait else s)

/-- The second read starts, from the command and from address 0 (R191). -/
def State.startRetry (s : State) : State :=
  { s with loader := { s.loader with attempts := 2, activity := .reading 0 [] } }

/-- Whether the loader waits to start a second read (R191). -/
def LoadActivity.isRetryWait : LoadActivity → Bool
  | .retryWait _ => true
  | _ => false

/-- Whether a read runs (R190). -/
def LoadActivity.isReading : LoadActivity → Bool
  | .reading _ _ => true
  | _ => false

/-- Whether the loader works: LOADING, after the start wait (R189). -/
def State.isLoading (s : State) : Bool := s.phase == .running && s.member.state == .loading

/-- RETRY_READ_START (R191). -/
def execRetryReadStart (s : State) : Host.Outcome State Fault Refusal :=
  .next (if s.isLoading && s.loader.activity.isRetryWait then s.startRetry else s)

/-! ## The end of a read (R192 to R197) -/

/-- The read has ended with this outcome of the checks; the port rests. -/
def State.readChecked (s : State) (outcome : ImageCheck) (activity : LoadActivity) : State :=
  { s with loader := { s.loader with activity := activity, lastCheck := some outcome } }

/-- The settings are taken whole and the station enters LISTENING (R196, R197): the inputs are sampled, the
level-inhibit mask is worked out from them, and the beacon timer and the idle count start. -/
def State.takeImage (s : State) (c : Settings) : State :=
  let inputs := sampledInputs c.inputs s.pins
  { s with
    settings := c
    imageTaken := true
    inputs := inputs
    masks := { s.masks with level := levelMask c.inputs inputs }
    member := s.member.listening
    line := s.line.joined }

/-- The fault set with the halting fault of a refused image (R193, R194). -/
def FaultSet.withConfig (f : FaultSet) (outcome : ImageCheck) : FaultSet :=
  match outcome with
  | .markFailure => { f with configAbsent := true }
  | .lengthFailure => { f with configCheck := true }
  | .checkFailure => { f with configCheck := true }
  | .rangeFailure => { f with configRange := true }
  | .sound => f

/-- What the end of a read leads to (R193): a form failure of the first read a second read, any other failure the
halt, and a sound image LISTENING. -/
def State.endRead (s : State) (image : List Byte) : State :=
  match formFailure image with
  | some failure =>
    if s.loader.attempts = 1 then s.readChecked failure (.retryWait 0)
    else (s.readChecked failure .idle).enterHalted (s.report.faults.withConfig failure)
  | none =>
    match readSettings image with
    | some c => (s.readChecked .sound .idle).takeImage c
    | none => (s.readChecked .rangeFailure .idle).enterHalted (s.report.faults.withConfig .rangeFailure)

/-- READ_END (R190, R192 to R197): the read that runs ends, DI having carried these bytes; they stand for all its bits,
those sampled so far among them (DESIGN CHOICE, notes/assumptions/20.md). -/
def execReadEnd (bytes : List Byte) (s : State) : Host.Outcome State Fault Refusal :=
  .next (if s.isLoading && s.loader.activity.isReading then s.endRead bytes else s)

end Sys2Proof.Machine
end

