-- ==== Sys2Proof/Machine/Timers.lean ====
section
/-! DEFINITION. The meanings of the timers, the inputs, the calendar's fraction step and the blink code, and what one
oscillator period does while no command waits. A timer's command is its expiry, whatever its count stood at (DESIGN
CHOICE, notes/assumptions/6.md); a timer that does not run has no expiry. -/

namespace Sys2Proof.Machine

/-! ## The membership controller's timers (R56, R75) -/

/-- The beacon timer expires: a BEACON offer is placed, and the timer stands expired (R56). -/
def State.expireBeaconTimer (s : State) : State :=
  (s.setMember { s.member with beaconTimer := .expired }).setOffers { s.line.offers with beacon := true }

/-- Whether the beacon timer counts (R56). -/
def BeaconTimer.isCounting : BeaconTimer → Bool
  | .counting _ => true
  | _ => false

/-- BEACON_TIMER_EXPIRY (R56). -/
def execBeaconTimerExpiry (s : State) : Host.Outcome State Fault Refusal :=
  .next
    (if s.member.state.online && s.member.beaconTimer.isCounting then s.expireBeaconTimer else s)

/-- MUTE_TIMER_EXPIRY (R75). -/
def execMuteTimerExpiry (s : State) : Host.Outcome State Fault Refusal :=
  .next (if s.member.state = .mute then s.leaveMute else s)

/-! ## Run allowance and rest (R90, R92) -/

/-- The run allowance of an ON channel expires: the channel leaves ON, and its demand is dropped (R85, R88, R90). -/
def State.expireRun (s : State) (n : ChannelIx) : State :=
  match s.channelState n with
  | .switchedOn d => if d.allowance.isSome then (s.switchOff n).judge else s
  | _ => s

/-- RUN_ALLOWANCE_EXPIRY (R90); an indefinite allowance has no run timer (R89). -/
def execRunAllowanceExpiry (channel : ChannelIx) (s : State) : Host.Outcome State Fault Refusal :=
  .next (if s.member.state.working then s.expireRun channel else s)

/-- The rest of a channel ends (R92). -/
def State.endRest (s : State) (n : ChannelIx) : State :=
  if (s.channel n).rest = 0 then s else (s.setChannel n { s.channel n with rest := 0 }).judge

/-- REST_END (R92). -/
def execRestEnd (channel : ChannelIx) (s : State) : Host.Outcome State Fault Refusal :=
  .next (if s.member.state.working then s.endRest channel else s)

/-! ## Inputs (R135) -/

/-- Whether a level command is a tick's read of its own. A line is read once at each tick (R135). Once the tick divider
has counted, its ticks make the reads, and a command moves the level alone for the coming tick to read; before its
first period a run goes by commands, each at a tick of its own whose periods are left out (DESIGN CHOICE,
notes/assumptions/6.md). -/
def State.readsByCommand (s : State) : Bool := s.tickDivider == 0 && !s.ticked

/-- The read of a level command: the cases (1), (2) and (4) of R135, in which the level differs from the taken level
or returns to it. The count of case (3) is the ticks' alone, and its end DEBOUNCE_EXPIRY's. -/
def State.noticeLevel (s : State) (n : InputIx) (high : Bool) : State :=
  if s.inputs[n].debounce ≠ 0 ∧ s.inputs[n].taken ≠ some high then s else s.readInput n high

/-- INPUT_LEVEL_CHANGE (R135): the line goes to this level. -/
def execInputLevelChange (input : InputIx) (high : Bool) (s : State) : Host.Outcome State Fault Refusal :=
  .next (if s.readsByCommand then (s.setPin input high).noticeLevel input high else s.setPin input high)

/-- DEBOUNCE_EXPIRY (R135 (3)): the timer reaches 0 at a read that differs from the taken level. -/
def execDebounceExpiry (input : InputIx) (s : State) : Host.Outcome State Fault Refusal :=
  .next
    (if s.member.state.working && s.inputs[input].debounce != 0 && s.inputs[input].taken == some (!s.pins[input])
    then s.takeLevel input s.pins[input]
    else s)

/-! ## The calendar (R102, R112) -/

/-- The phase counter passes 511 and the fraction steps; a step that carries into the minute raises a minute event
while time is valid (R102, R112). -/
def State.fractionStep (s : State) : State :=
  let stepped := s.setCalendar { s.calendar with value := stepFraction s.calendar.value, phase := 0 }
  if s.calendar.valid && carriesIntoMinute s.calendar.value && s.member.state.working then
    stepped.minuteEvent (minuteNumber stepped.calendar.value)
  else stepped

/-- Whether the calendar counts: from the end of the start wait on, but not in HALTED (R101, R105). -/
def State.calendarCounts (s : State) : Bool := s.phase == .running && s.member.state != .halted

/-- FRACTION_STEP (R102). -/
def execFractionStep (s : State) : Host.Outcome State Fault Refusal :=
  .next (if s.calendarCounts then s.fractionStep else s)

/-! ## The blink code (R206) -/

/-- The tick of the cycle at which STATUS next changes its level: pulses change it every 8 ticks, and the last
pulse's release lasts to the end of the cycle. -/
def nextBlinkChange (code tick : Nat) : Nat :=
  let next := (tick / Config.blinkHalf + 1) * Config.blinkHalf
  if next < 2 * Config.blinkHalf * code then next else 0

/-- STATUS_BLINK (R206): in HALTED the blink code reaches its next change of level. -/
def execStatusBlink (s : State) : Host.Outcome State Fault Refusal :=
  .next
    (if s.member.state = .halted then
      s.setReport { s.report with blink := nextBlinkChange s.report.faults.haltCode s.report.blink }
    else s)

/-! ## One tick of the station's timebase (1/64 s) -/

/-- A channel's run timer and rest timer counted down by one tick (R89, R92). -/
def Channel.counted (c : Channel) : Channel :=
  { state :=
      match c.state with
      | .switchedOn d => .switchedOn { d with allowance := d.allowance.map fun t => t - 1 }
      | st => st
    rest := c.rest - 1 }

/-- Whether a channel's run timer stands at 0. -/
def Channel.runOut (c : Channel) : Bool :=
  match c.state with
  | .switchedOn d => d.allowance == some 0
  | _ => false

/-- The beacon timer counted by one tick; it runs in LISTENING and SYNCED (R56). -/
def State.tickBeacon (s : State) : State :=
  if s.member.state.online then
    match s.member.beaconTimer with
    | .counting t =>
      if s.settings.beaconPeriod ≤ t + 1 then s.expireBeaconTimer
      else s.setMember { s.member with beaconTimer := .counting (t + 1) }
    | _ => s
  else s

/-- The mute timer counted by one tick (R75). -/
def State.tickMute (s : State) : State :=
  if s.member.state = .mute then
    if s.member.muteTimer ≤ 1 then s.leaveMute
    else s.setMember { s.member with muteTimer := s.member.muteTimer - 1 }
  else s

/-- The tick of a working station. DESIGN CHOICE (notes/assumptions/7.md): all run and rest timers count first, then
allowances that ran out expire, rests that ended are judged, the inputs are read in ascending number, and the beacon
and mute timers count. -/
def State.workTick (s : State) : State :=
  let counted := { s with channels := s.channels.map Channel.counted }
  let expired := allEight.foldl
    (fun t n => if (counted.channel n).runOut then t.expireRun n else t) counted
  let rested :=
    if allEight.any fun n => (s.channel n).rest == 1 then expired.judge else expired
  let read := allEight.foldl (fun t n => t.readInput n s.pins[n]) rested
  read.tickBeacon.tickMute

/-- A tick (R104): in HALTED the blink code alone counts it, in LOADING no timer runs on it. -/
def State.tick (s : State) : State :=
  match s.member.state with
  | .loading => s
  | .listening => s.workTick
  | .synced => s.workTick
  | .mute => s.workTick
  | .halted =>
    s.setReport
      { s.report with blink := (s.report.blink + 1) % blinkCycle s.report.faults.haltCode }

/-! ## One oscillator period -/

/-- The configuration loader's work in one period (R190, R191): a read samples DI at CLK's rising edges, and at the end
of its 4,152 clock periods the checks are made on the bytes its bits spell. -/
def State.loaderPeriod (s : State) : State :=
  if s.isLoading then
    match s.loader.activity with
    | .reading p bits =>
      if Config.readPeriods ≤ p + 1 then s.endRead (imageOfBits (sampled (p + 1) s.dataIn bits))
      else { s with loader := { s.loader with activity := .reading (p + 1) (sampled (p + 1) s.dataIn bits) } }
    | .retryWait p =>
      if Config.retryWaitPeriods ≤ p + 1 then s.startRetry
      else { s with loader := { s.loader with activity := .retryWait (p + 1) } }
    | .idle => s
  else s

/-- The calendar's phase counter in one period (R101, R102, R104). -/
def State.phasePeriod (s : State) : State :=
  if s.calendarCounts then
    if Config.dividerPeriods ≤ s.calendar.phase + 1 then s.fractionStep
    else s.setCalendar { s.calendar with phase := s.calendar.phase + 1 }
  else s

/-- The tick divider in one period (R104). -/
def State.tickPeriod (s : State) : State :=
  if Config.dividerPeriods ≤ s.tickDivider + 1 then { s with tickDivider := 0, ticked := true }.tick
  else { s with tickDivider := s.tickDivider + 1, ticked := false }

/-- One oscillator period passes (DESIGN CHOICE, notes/assumptions/7.md: it is what a step does when no command
waits). In reset the oscillator stands; in the start wait the periods are counted to 32,768 (R188). -/
def State.oscillatorPeriod (s : State) : State :=
  match s.phase with
  | .inReset => s
  | .startWait =>
    if Config.startWaitPeriods ≤ s.startPeriods + 1 then s.endStartWait
    else { s with startPeriods := s.startPeriods + 1 }
  | .running => s.loaderPeriod.phasePeriod.tickPeriod

end Sys2Proof.Machine
end

