-- ==== Sys2Proof/Machine/Dispatch.lean ====
section
/-! DEFINITION. The dispatch: each command's meaning. -/

namespace Sys2Proof.Machine

-- one arm per row of spec/opcode_table.json, in the table's order
def exec (i : Instr) (s : State) : Host.Outcome State Fault Refusal :=
  match i with
  | .resetOnset kind => Sys2Proof.Machine.execResetOnset kind s
  | .resetEnd kind => Sys2Proof.Machine.execResetEnd kind s
  | .oscillatorStartWaitEnd => Sys2Proof.Machine.execOscillatorStartWaitEnd s
  | .retryReadStart => Sys2Proof.Machine.execRetryReadStart s
  | .readEnd bytes => Sys2Proof.Machine.execReadEnd bytes s
  | .lineIdle => Sys2Proof.Machine.execLineIdle s
  | .courtesyGapEnd => Sys2Proof.Machine.execCourtesyGapEnd s
  | .startOfFrame cause => Sys2Proof.Machine.execStartOfFrame cause s
  | .arbitrationLost bit => Sys2Proof.Machine.execArbitrationLost bit s
  | .attemptAborted bit => Sys2Proof.Machine.execAttemptAborted bit s
  | .frameTruncated => Sys2Proof.Machine.execFrameTruncated s
  | .frameVetoed read => Sys2Proof.Machine.execFrameVetoed read s
  | .beaconAccepted head payload => Sys2Proof.Machine.execBeaconAccepted head payload s
  | .claimAccepted head payload => Sys2Proof.Machine.execClaimAccepted head payload s
  | .releaseAccepted head payload => Sys2Proof.Machine.execReleaseAccepted head payload s
  | .renewAccepted head payload => Sys2Proof.Machine.execRenewAccepted head payload s
  | .inhibitAccepted head payload => Sys2Proof.Machine.execInhibitAccepted head payload s
  | .timesetAccepted head payload => Sys2Proof.Machine.execTimesetAccepted head payload s
  | .demandAccepted head payload => Sys2Proof.Machine.execDemandAccepted head payload s
  | .queryAccepted head payload => Sys2Proof.Machine.execQueryAccepted head payload s
  | .reportAccepted head payload => Sys2Proof.Machine.execReportAccepted head payload s
  | .undefinedKindAccepted head kind payload => Sys2Proof.Machine.execUndefinedKindAccepted head kind payload s
  | .beaconTimerExpiry => Sys2Proof.Machine.execBeaconTimerExpiry s
  | .muteTimerExpiry => Sys2Proof.Machine.execMuteTimerExpiry s
  | .runAllowanceExpiry channel => Sys2Proof.Machine.execRunAllowanceExpiry channel s
  | .restEnd channel => Sys2Proof.Machine.execRestEnd channel s
  | .inputLevelChange input high => Sys2Proof.Machine.execInputLevelChange input high s
  | .debounceExpiry input => Sys2Proof.Machine.execDebounceExpiry input s
  | .fractionStep => Sys2Proof.Machine.execFractionStep s
  | .statusBlink => Sys2Proof.Machine.execStatusBlink s
  | .vetoedFrameAcceptedByLine read => Sys2Proof.Machine.execVetoedFrameAcceptedByLine read s
  | .lineDominantBeforeIdle => Sys2Proof.Machine.execLineDominantBeforeIdle s

end Sys2Proof.Machine
end

