-- ==== Sys2Proof/Safety.lean ====
section
/-! DEFINITION. What a safe station is, in the terms the statements use: the soundness of the holding table, the law
that a budgeted channel runs only under its holding, the soundness of the queues and offers, the bounds of the counts,
and the vocabulary of the statements about accepted frames and the image. -/

namespace Sys2Proof.Machine

/-- Start-up order: before the start wait has ended the membership state is at its reset value (R55, R188). -/
def State.startsInLoading (s : State) : Prop := s.phase ≠ .running → s.member.state = .loading

/-- In LOADING no channel can have moved (R189). -/
def State.restsInLoading (s : State) : Prop := s.member.state = .loading → ∀ n, s.channelState n = .off

/-- Every block at the value the table at the end of 10.1 gives for "after every kind of reset", nothing driven. -/
def State.atReset (s : State) : Prop :=
  s.table = [] ∧ s.claims = { queue := [], outstanding := none, enqueueCount := 0 } ∧
    s.member.epoch = 0 ∧ s.member.beaconTimer = .stopped ∧ s.member.muteTimer = 0 ∧ s.member.witness = none ∧
    s.member.beaconsHeard = 0 ∧ s.member.authHeard = false ∧ s.member.joinRetries = 0 ∧
    (∀ n, s.channel n = { state := .off, rest := 0 }) ∧ s.masks = { line := 0, schedule := 0, level := 0 } ∧
    s.calendar.value = CalendarValue.origin ∧ s.calendar.phase = 0 ∧ s.calendar.valid = false ∧
    s.lastMinute = none ∧ (∀ n : InputIx, s.inputs[n] = { taken := none, debounce := 0 }) ∧ s.commands.queue = [] ∧
    s.line.offers = OfferSet.empty ∧ s.line.buffer = [] ∧ s.line.vetoStreak = 0 ∧ s.line.sendStreak = 0 ∧
    s.line.courtesyGap = false ∧ s.report.faults = FaultSet.none ∧ s.report.counters = Counters.zero ∧
    s.loader.attempts = 0 ∧ s.imageTaken = false ∧ (∀ n, s.outputLevel n = .undriven) ∧
    s.statusAsserted = false ∧ s.drivesLine = false ∧ s.port.selLow = false

/-! ## The holding table (R1 to R4, R20, R30) -/

/-- A record's fields lie in their ranges (R1), its lease in 1..L (R20). -/
def Holding.inRange (lease : Nat) (r : Holding) : Prop :=
  1 ≤ r.holder ∧ r.holder ≤ 62 ∧ 1 ≤ r.units ∧ r.units ≤ Config.unitsMax ∧ 1 ≤ r.lease ∧ r.lease ≤ lease

/-- The table stands in its order, which leaves no two records with one key (R2). -/
def tableOrdered (t : List Holding) : Prop := t.Pairwise fun a b => a.before b = true

/-- The table is in order and holds at most 48 records (R2), at most one of them PENDING (R3), and its reserved units
never exceed B (R4). -/
def tableSound (budget lease : Nat) (t : List Holding) : Prop :=
  tableOrdered t ∧ t.length ≤ Config.tableCapacity ∧ (t.filter fun r => r.state == .pending).length ≤ 1 ∧
    reservedUnits t ≤ budget ∧ ∀ r ∈ t, r.inRange lease

/-- The table invariant: the table is sound; it is empty in LOADING and MUTE (R30); and a working station has a lease
length of at least 4, as a sound image gives it (R194). -/
def State.tableInv (s : State) : Prop :=
  tableSound s.settings.budget s.settings.lease s.table ∧
    ((s.member.state = .loading ∨ s.member.state = .mute) → s.table = []) ∧
    (s.member.state.working = true → 4 ≤ s.settings.lease) ∧ s.startsInLoading

/-! ## A budgeted channel runs only under its holding (R81, R93) -/

/-- The station's own record for a channel stands in its table in HELD state. -/
def State.holdsFor (s : State) (n : ChannelIx) : Prop :=
  ∃ r ∈ s.table, r.holder = s.ownId ∧ r.channel = n ∧ r.state = .held

/-- Outside HALTED, a channel of nonzero weight is ON only while its own record is HELD (R81). -/
def State.runsUnderHolding (s : State) : Prop :=
  ∀ n, s.exempt n = false → (s.channelState n).isOn = true → s.member.state = .halted ∨ s.holdsFor n

/-- The kind of frame that an offer sends; a command goes as an INHIBIT or a DEMAND (R138, R150, R181). -/
def Offer.sends (o : Offer) (kind : BitVec 4) : Prop :=
  match o with
  | .beacon => kind = 0
  | .release _ => kind = 1
  | .claim => kind = 2
  | .renew => kind = 3
  | .command => kind = 4 ∨ kind = 6
  | .report => kind = 8

/-- A frame in flight is the station's own, sent on the line, of its offer's kind, and a RELEASE in flight names a
STOPPING channel. -/
def State.flightSound (s : State) : Prop :=
  ∀ o f, s.line.activity = .transmitting o f →
    s.member.state.online = true ∧ f.source.toNat = s.ownId ∧ o.sends f.kind ∧
      (f.kind = kindRelease → ∃ n, f.payload = releasePayload n ∧ s.channelState n = .stopping)

/-- The running invariant: the law of R81, with what keeps it: in LOADING every channel is OFF (R189); in LISTENING
and MUTE no budgeted channel is ON (R63, R74, R93); a RELEASE is offered only for a STOPPING channel (R86); the
outstanding claim's channel is CLAIMING (R45); a frame in flight is sound; a working station's ID is in 1..62. -/
def State.runInv (s : State) : Prop :=
  s.runsUnderHolding ∧ s.restsInLoading ∧
    ((s.member.state = .listening ∨ s.member.state = .mute) →
      ∀ n, s.exempt n = false → (s.channelState n).isOn = false) ∧
    (∀ n : ChannelIx, s.line.offers.releases[n] = true → s.channelState n = .stopping) ∧
    (∀ o, s.claims.outstanding = some o → s.channelState o.channel = .claiming) ∧
    s.flightSound ∧ (s.member.state.working = true → 1 ≤ s.ownId ∧ s.ownId ≤ 62) ∧ s.startsInLoading

/-! ## Inhibits (R94, R97, R99) -/

/-- The inhibit invariant: an inhibited channel is neither PENDING nor ON (R97, R99). -/
def State.inhibitInv (s : State) : Prop :=
  (∀ n, s.inhibited n = true → s.channelState n = .off ∨ s.channelState n = .claiming ∨ s.channelState n = .stopping) ∧
    s.restsInLoading ∧ s.startsInLoading

/-! ## The claim queue (R33, R34, R45) -/

/-- A channel is CLAIMING exactly while the outstanding claim is for it (R45). -/
def State.claimsOneChannel (s : State) : Prop :=
  ∀ n, s.channelState n = .claiming ↔ ∃ o, s.claims.outstanding = some o ∧ o.channel = n

/-- The queue invariant: queue order (R34); no two entries for one channel, and an entry only for a channel that is
OFF or STOPPING (R33); enqueue numbers distinct, also from the outstanding claim's, and below the enqueue count, which
is at most 65,535 (R34); a channel is CLAIMING exactly while the outstanding claim is for it, and a claim is
outstanding only in SYNCED and for a budgeted channel (R45); in LOADING every channel is OFF (R189). -/
def State.queueInv (s : State) : Prop :=
  s.claims.queue.Pairwise (fun a b => a.before b = true) ∧ (s.claims.queue.map Entry.channel).Nodup ∧
    (∀ e ∈ s.claims.queue, (s.channelState e.channel).isEngaged = false) ∧
    s.claims.numbers.Nodup ∧ (∀ k ∈ s.claims.numbers, k < s.claims.enqueueCount) ∧
    s.claims.enqueueCount ≤ Config.enqueueMax ∧ s.claimsOneChannel ∧
    (∀ o, s.claims.outstanding = some o → s.member.state = .synced ∧ s.exempt o.channel = false) ∧
    s.restsInLoading ∧ s.startsInLoading

/-! ## Offers and commands (R74, R140 to R142, R181, R185) -/

/-- The offer invariant: off the line no frame is offered and none is received or sent (R185); on it the command offer
stands exactly while the command queue is not empty (R141); the command queue is empty in LOADING and MUTE (R142); in
MUTE every budgeted channel is OFF (R74); and an exempt channel uses OFF and ON alone (R88). -/
def State.offerInv (s : State) : Prop :=
  (s.member.state.online = false → s.line.offers = OfferSet.empty ∧ s.line.activity = .apart) ∧
    (s.member.state.online = true → s.line.offers.command = !s.commands.queue.isEmpty) ∧
    ((s.member.state = .loading ∨ s.member.state = .mute) → s.commands.queue = []) ∧
    (s.member.state = .mute → ∀ n, s.exempt n = false → s.channelState n = .off) ∧
    (∀ n, s.exempt n = true → s.channelState n = .off ∨ (s.channelState n).isOn = true) ∧
    s.claimsOneChannel ∧ s.restsInLoading ∧ s.startsInLoading

/-! ## Bounds of the counts -/

/-- Every counter lies in 0..255 (R201). -/
def Counters.bounded (c : Counters) : Prop :=
  c.foreignProfile ≤ Config.counterMax ∧ c.undefinedKind ≤ Config.counterMax ∧
    c.vetoesCast ≤ Config.counterMax ∧ c.ownVetoed ≤ Config.counterMax ∧
    c.claimsVoided ≤ Config.counterMax ∧ c.commandsDropped ≤ Config.counterMax ∧
    c.missedMinutes ≤ Config.counterMax

/-- The bounds: counters (R201); a command queue of at most 4 (R140); a witness count of 1..3 (R62); a veto streak
below 8 and a send-failure streak below 16 (R180); attempt counts below 3 (R184); fewer than 2L beacons heard while
LISTENING (R67); the two dividers below 512 (R101, R104); a load attempt count of 0..2, a read within its length with
one bit for each rising edge of CLK past the 24th, and a retry wait within its length (R190, R191); a start wait within
its length (R188); and in HALTED a blink count within the cycle of its code (R206). The model's `ticked` stands only at
a tick. -/
def State.boundsInv (s : State) : Prop :=
  s.report.counters.bounded ∧ s.commands.queue.length ≤ Config.commandCapacity ∧
    (∀ w, s.member.witness = some w → 1 ≤ w.count ∧ w.count < Config.witnessLimit) ∧
    s.line.vetoStreak < Config.vetoStreakLimit ∧ s.line.sendStreak < Config.sendStreakLimit ∧
    s.commands.headAttempts < Config.attemptLimit ∧ s.report.attempts < Config.attemptLimit ∧
    (∀ o, s.claims.outstanding = some o → o.attempts < Config.attemptLimit) ∧
    (s.member.state = .listening → s.member.beaconsHeard < 2 * s.settings.lease) ∧
    (s.member.state.working = true → 4 ≤ s.settings.lease) ∧
    s.calendar.phase < Config.dividerPeriods ∧ s.tickDivider < Config.dividerPeriods ∧
    (s.ticked = true → s.tickDivider = 0) ∧ s.loader.attempts ≤ 2 ∧
    (∀ p bits, s.loader.activity = .reading p bits → p < Config.readPeriods ∧ bits.length = (p + 4) / 8 - 24) ∧
    (∀ p, s.loader.activity = .retryWait p → p < Config.retryWaitPeriods) ∧
    s.startPeriods ≤ Config.startWaitPeriods ∧
    (s.member.state = .halted → s.report.blink < blinkCycle s.report.faults.haltCode) ∧ s.startsInLoading

/-! ## Time (R101, R106, R126) -/

/-- The time invariant: the calendar value stays within its ranges (R101) and the SOF record within the cycle (R107);
from the end of the start wait on TIME-INVALID is present exactly while the time-valid flag is clear (R106, R200); the
last-evaluated minute is a minute of the cycle, and it is none exactly while time is invalid (R126). -/
def State.timeInv (s : State) : Prop :=
  s.calendar.value.inRange = true ∧ s.calendar.sofPosition < Config.cycleFractions ∧
    (s.phase = .running → s.report.faults.timeInvalid = !s.calendar.valid) ∧
    (s.phase ≠ .running → s.calendar.valid = false) ∧ s.lastMinute.isSome = s.calendar.valid ∧
    (∀ m, s.lastMinute = some m → m < Config.cycleMinutes) ∧ s.startsInLoading

/-! ## Accepted frames -/

/-- The frame that an acceptance command brings. -/
def acceptedFrame (c : Instr) : Option Frame :=
  match c with
  | .beaconAccepted head payload => some (frameOf head kindBeacon payload.toList)
  | .claimAccepted head payload => some (frameOf head kindClaim payload.toList)
  | .releaseAccepted head payload => some (frameOf head kindRelease payload.toList)
  | .renewAccepted head payload => some (frameOf head kindRenew payload)
  | .inhibitAccepted head payload => some (frameOf head kindInhibit payload.toList)
  | .timesetAccepted head payload => some (frameOf head kindTimeset payload.toList)
  | .demandAccepted head payload => some (frameOf head kindDemand payload.toList)
  | .queryAccepted head payload => some (frameOf head kindQuery payload.toList)
  | .reportAccepted head payload => some (frameOf head kindReport payload.toList)
  | .undefinedKindAccepted head kind payload => some (frameOf head (BitVec.ofNat 4 (9 + kind.val)) payload)
  | _ => none

/-- The station receives a correct frame of another station: on the line, in a frame, and its check passed (R154). -/
def State.hears (s : State) (f : Frame) : Prop :=
  s.member.state.online = true ∧ s.line.activity = .receiving ∧ f.raw.defective = false ∧ f.source.toNat ≠ s.ownId

/-- The station takes part in a frame up to its veto slot: it receives it as another station's correct frame, or it is
its transmitter (R77, R176). -/
def State.takesPart (s : State) (f : Frame) : Prop :=
  s.hears f ∨
    (s.member.state.online = true ∧ f.source.toNat = s.ownId ∧ ∃ o, s.line.activity = .transmitting o f)

/-- The frame names a station and carries the own profile tag (R177 (1), (2)). -/
def State.ofProfile (s : State) (f : Frame) : Prop := f.source ≠ 0 ∧ f.source ≠ 63 ∧ f.tag = s.settings.tag

/-- The station once an INHIBIT, TIMESET, DEMAND or QUERY that it takes part in has been accepted, before what the
frame's kind orders. A receiver has the line's effects alone; the transmitter of a command's frame has its attempt ended
besides: both streaks 0, the courtesy-gap flag set, and the next command at the head of its queue with no attempt
counted (R141 (3), R168, R169, R178, R179, R183). -/
def State.atAcceptance (s : State) (f : Frame) : State :=
  let line : LineInterface :=
    { s.line with activity := .counting, idleCount := 0, buffer := f.bits ++ [true], vetoStreak := 0 }
  match s.line.activity with
  | .transmitting _ _ =>
    { s with
      commands := { queue := s.commands.queue.tail, headAttempts := 0 }
      line := { line with
        sendStreak := 0, courtesyGap := true
        offers := { s.line.offers with command := !s.commands.queue.tail.isEmpty } } }
  | _ => { s with line := line }

/-! ## Demands in the claim unit (R36, R40 to R45) -/

/-- The claim queue holds an entry for this channel with this demand, HOLD clear (R36, R40). -/
def State.holdsEntry (s : State) (n : ChannelIx) (d : Demand) : Prop :=
  ∃ e, s.entryOf n = some e ∧ e.cls = d.cls ∧ e.allowance = d.allowance ∧ e.hold = false

/-- A claim of this channel with this demand is outstanding, offered and not yet attempted (R45). -/
def State.claimsAfresh (s : State) (n : ChannelIx) (d : Demand) : Prop :=
  s.channelState n = .claiming ∧ s.line.offers.claim = true ∧
    ∃ o, s.claims.outstanding = some o ∧ o.channel = n ∧ o.cls = d.cls ∧ o.allowance = d.allowance ∧
      o.attempts = 0 ∧ o.inFlight = false ∧ o.stopNote = false

/-- The channel's demand has been handed back: it waits in the queue with the channel OFF, or is claimed at once. -/
def State.handedBack (s : State) (n : ChannelIx) (d : Demand) : Prop :=
  (s.channelState n = .off ∧ s.holdsEntry n d) ∨ s.claimsAfresh n d

/-- The entry's channel is OFF, not inhibited and not resting (R41 (1) to (3), R42). -/
def State.meetsR42 (s : State) (e : Entry) : Prop :=
  s.channelState e.channel = .off ∧ s.inhibited e.channel = false ∧ (s.channel e.channel).rest = 0

/-- The entry meets the four conditions of a candidate, for a channel of nonzero weight (R41). -/
def State.meetsR41 (s : State) (e : Entry) : Prop :=
  s.weight e.channel ≠ 0 ∧ s.meetsR42 e ∧ e.hold = false

/-- The channel's weight fits the table (R43). -/
def State.fitsR43 (s : State) (n : ChannelIx) : Prop :=
  s.weight n + reservedUnits s.table ≤ s.settings.budget ∧ s.table.length < 48

/-- A claim of this class for the channel is displacement-eligible (R43). -/
def State.displacesR43 (s : State) (n : ChannelIx) (cls : Class) : Prop :=
  (s.channelSettings n).mayDisplace = true ∧ cls = .urgent ∧ (∀ r ∈ s.table, r.state ≠ .pending) ∧
    s.weight n ≤ displaceableUnits s.table + freeUnits s.settings.budget s.table

/-- The entry fits, or is displacement-eligible (R43 (3)). -/
def State.meetsR43 (s : State) (e : Entry) : Prop := s.fitsR43 e.channel ∨ s.displacesR43 e.channel e.cls

/-! ## What a frame carries at its SOF (R46, R58, R72, R111, R138, R204) -/

/-- The BEACON's payload, the calendar's part from the SOF record (R58, R111, R155). -/
def State.samplesBeacon (s : State) (payload : List Byte) : Prop :=
  let epoch := (s.member.epoch.toNat + 1) % 65536
  let time := valueAt s.calendar.sofPosition
  payload =
    ([epoch / 256, epoch % 256,
        (if s.calendar.sofValid then 1 else 0) + (if s.member.state = .synced then 2 else 0) +
          (if ∃ r ∈ s.table, r.state = .pending then 4 else 0)] ++
      (if s.calendar.sofValid then
        [time.year - 2000, time.month, time.day, time.hour, time.minute, time.second, time.fraction]
      else [0, 0, 0, 0, 0, 0, 0]) ++
      [s.table.countP fun r => decide (r.state ≠ .shedding),
        ((s.table.filter fun r => decide (r.state ≠ .shedding)).map Holding.units).sum,
        s.table.countP fun r => decide (r.state = .shedding), s.masks.line.toNat]).map (BitVec.ofNat 8)

/-- The CLAIM's payload: channel, weight, and the displace flag exactly when the claim does not fit and is
displacement-eligible (R46, R156). -/
def State.samplesClaim (s : State) (c : OutstandingClaim) (payload : List Byte) : Prop :=
  let displaces := ¬ s.fitsR43 c.channel ∧ s.displacesR43 c.channel c.cls
  (displaces → payload = [128 + c.channel.val, s.weight c.channel].map (BitVec.ofNat 8)) ∧
    (¬ displaces → payload = [c.channel.val, s.weight c.channel].map (BitVec.ofNat 8))

/-- The RENEW's payload: every own HELD and PENDING record in channel order, two bytes each (R72, R157). -/
def State.samplesRenew (s : State) (payload : List Byte) : Prop :=
  let own := s.table.filter fun r => decide (r.holder = s.ownId ∧ r.state ≠ .shedding)
  own.Pairwise (fun a b => a.channel < b.channel) ∧
    payload =
      (own.flatMap fun r =>
        [32 * r.channel.val + 8 * r.cls.number + (if r.state = .pending then 4 else 0), r.units]).map (BitVec.ofNat 8)

/-- The frame of a command (R138, R158, R159). -/
def Command.sampledAs (c : Command) (f : Frame) : Prop :=
  match c with
  | .demand station place action cls duration =>
    let sent := match action with | .stop => 0 | _ => duration
    f.kind = 6 ∧ f.cls.toNat = cls.number ∧
      f.payload =
        [station, place, match action with | .start => 1#8 | .stop => 2#8 | .toggle => 3#8] ++
          [sent % 65536 / 256, sent % 256].map (BitVec.ofNat 8)
  | .inhibit setMask clearMask => f.kind = 4 ∧ f.cls = 0 ∧ f.payload = [setMask, clearMask]

/-- A channel's field of a REPORT: its state, and 8 while the claim queue holds an entry for it (R160). -/
def State.reportedChannel (s : State) (n : ChannelIx) : Nat :=
  (match s.channelState n with
    | .off => 0
    | .claiming => 1
    | .pending _ => 2
    | .switchedOn _ => 3
    | .stopping => 4) + if ∃ e ∈ s.claims.queue, e.channel = n then 8 else 0

/-- The fault set of a REPORT as a number, fault k of the table of R160 in bit k. -/
def FaultSet.reported (f : FaultSet) : Nat :=
  let bit (k : Nat) (present : Bool) : Nat := if present then 2 ^ k else 0
  bit 0 f.diverged + bit 1 f.mutedVeto + bit 2 f.mutedSend + bit 3 f.profileClash + bit 4 f.outQueueFull +
    bit 5 f.joinStalled + bit 6 f.timeInvalid + bit 7 f.configAbsent + bit 8 f.configCheck + bit 9 f.configRange +
    bit 10 f.duplicateId

/-- The REPORT's payload (R160, R204). -/
def State.samplesReport (s : State) (payload : List Byte) : Prop :=
  let faults := s.report.faults.reported
  let count := s.report.counters
  payload =
    [match s.member.state with | .loading => 0 | .listening => 1 | .synced => 2 | .mute => 3 | .halted => 4,
      faults / 256, faults % 256,
      16 * s.reportedChannel 0 + s.reportedChannel 1, 16 * s.reportedChannel 2 + s.reportedChannel 3,
      16 * s.reportedChannel 4 + s.reportedChannel 5, 16 * s.reportedChannel 6 + s.reportedChannel 7,
      s.claims.queue.length, s.table.countP fun r => decide (r.state ≠ .shedding),
      ((s.table.filter fun r => decide (r.state ≠ .shedding)).map Holding.units).sum,
      count.foreignProfile, count.undefinedKind, count.vetoesCast, count.ownVetoed, count.claimsVoided,
      count.commandsDropped, count.missedMinutes, s.member.epoch.toNat / 256,
      s.member.epoch.toNat % 256].map (BitVec.ofNat 8)

/-- The frame of an offer carries what its source holds as it stands: own station ID, profile tag, class, kind and
payload (R149 to R153, and the rule of each kind). -/
def State.samples (s : State) (o : Offer) (f : Frame) : Prop :=
  f.source = BitVec.ofNat 6 s.settings.stationId ∧ f.tag = s.settings.tag ∧
    match o with
    | .beacon => f.cls = 0 ∧ f.kind = 0 ∧ s.samplesBeacon f.payload
    | .release n => f.cls = 0 ∧ f.kind = 1 ∧ f.payload = [BitVec.ofNat 8 n.val]
    | .claim =>
      f.kind = 2 ∧ ∀ c, s.claims.outstanding = some c → f.cls.toNat = c.cls.number ∧ s.samplesClaim c f.payload
    | .renew => f.cls = 1 ∧ f.kind = 3 ∧ s.samplesRenew f.payload
    | .command => ∀ c rest, s.commands.queue = c :: rest → c.sampledAs f
    | .report => f.cls = 3 ∧ f.kind = 8 ∧ s.samplesReport f.payload

/-! ## The conditions of R154 and R192 -/

/-- A payload length that the table of R154 allows for the kind. -/
def lengthAllowed (kind n : Nat) : Prop :=
  (kind = 0 ∧ n = 14) ∨ (kind = 1 ∧ n = 1) ∨ (kind = 2 ∧ n = 2) ∨
    (kind = 3 ∧ n % 2 = 0 ∧ 2 ≤ n ∧ n ≤ 16) ∨ (kind = 4 ∧ n = 2) ∨ (kind = 5 ∧ n = 7) ∨ (kind = 6 ∧ n = 5) ∨
    (kind = 7 ∧ n = 2) ∨ (kind = 8 ∧ n = 19) ∨ (9 ≤ kind ∧ n ≤ 20)

/-- One of the four conditions of R154 holds; the check is computed over the bits sent before it. -/
def RawFrame.meetsR154 (f : RawFrame) : Prop :=
  20 < f.length.toNat ∨ ¬ lengthAllowed f.kind.toNat f.length.toNat ∨
    f.check ≠ crc (f.bits.take (25 + 8 * f.payload.length)) ∨
    (f.kind = 3 ∧ ∃ k b, f.payload[2 * k]? = some b ∧ b.toNat % 4 ≠ 0)

/-- The mark and version bytes are right (R192 (1)). -/
def imageMarked (image : List Byte) : Prop :=
  imageByte image 0 = 0xA5#8 ∧ imageByte image 1 = 0x5A#8 ∧ imageByte image 2 = 1#8

/-- The length bytes are right (R192 (2)). -/
def imageSized (image : List Byte) : Prop :=
  256 * (imageByte image 3).toNat + (imageByte image 4).toNat = 516

/-- The check bytes are right (R192 (3)). -/
def imageChecked (image : List Byte) : Prop :=
  256 * (imageByte image 514).toNat + (imageByte image 515).toNat =
    (crcBytes ((List.range 514).map (imageByte image))).toNat

/-! ## Edges (R136) -/

/-- The edge setting selects the change to this level (R136). -/
def EdgeSelect.selectsChange (select : EdgeSelect) (high : Bool) : Prop :=
  (select = .rising ∧ high = true) ∨ (select = .falling ∧ high = false) ∨ select = .both

/-- What a taken level leads to, from the state in which it is taken: a selected edge performs its action and any other
has no further effect (R136), and a LEVEL-INHIBIT input works the level-inhibit mask out again (R139). -/
def State.followsLevel (taken : State) (n : InputIx) (high : Bool) (t : State) : Prop :=
  (∀ select d action, taken.inputSettings n = .edge select d action →
    (select.selectsChange high → t = taken.performEdge action) ∧ (¬ select.selectsChange high → t = taken)) ∧
    ∀ activeHigh d groups, taken.inputSettings n = .levelInhibit activeHigh d groups →
      t = taken.changeMasks { taken.masks with level := levelMask taken.settings.inputs taken.inputs }

/-! ## The settings an image gives (R153, R161 to R164) -/

/-- A channel record's settings (R162). -/
def channelOfImage (image : List Byte) (k : Fin 8) (c : ChannelSettings) : Prop :=
  let byte (i : Nat) : Nat := (imageByte image (10 + 7 * k.val + i)).toNat
  c.weight = byte 0 ∧ c.group.map Fin.val = (if byte 1 = 255 then none else some (byte 1)) ∧
    (c.activeLow = true ↔ byte 2 % 2 = 1) ∧ (c.mayDisplace = true ↔ byte 2 / 2 % 2 = 1) ∧
    c.ceiling.number = byte 2 / 4 % 4 ∧ c.maxRun = 256 * byte 3 + byte 4 ∧ c.rest = 256 * byte 5 + byte 6

/-- An EDGE input's action, from its action code, target station, target, class and duration (R133, R138, R163). -/
def actionOfImage (code : Nat) (station target : Byte) (cls duration : Nat) (a : EdgeAction) : Prop :=
  (code = 1 → ∃ n p, a = .act .start n p duration ∧ n.val = target.toNat ∧ p.number = cls) ∧
    (code = 2 → ∃ n p d, a = .act .stop n p d ∧ n.val = target.toNat) ∧
    (code = 3 → ∃ n p, a = .act .toggle n p duration ∧ n.val = target.toNat ∧ p.number = cls) ∧
    (code = 4 → ∃ p, a = .send .start station target p duration ∧ p.number = cls) ∧
    (code = 5 → ∃ p, a = .send .stop station target p 0 ∧ p.number = cls) ∧
    (code = 6 → ∃ p, a = .send .toggle station target p duration ∧ p.number = cls) ∧
    (code = 7 → a = .inhibitSet target) ∧ (code = 8 → a = .inhibitClear target)

/-- An input record's settings (R163). -/
def inputOfImage (image : List Byte) (k : Fin 8) (i : InputSettings) : Prop :=
  let byte (j : Nat) : Nat := (imageByte image (66 + 8 * k.val + j)).toNat
  (byte 0 % 4 = 0 → i = .unused) ∧
    (byte 0 % 4 = 1 → ∃ select action, i = .edge select (byte 1) action ∧
      byte 0 / 4 % 4 = (match select with | .rising => 0 | .falling => 1 | .both => 2) ∧
      actionOfImage (byte 2) (imageByte image (66 + 8 * k.val + 3)) (imageByte image (66 + 8 * k.val + 4)) (byte 5)
        (256 * byte 6 + byte 7) action) ∧
    (byte 0 % 4 = 2 → ∃ activeHigh, i = .levelInhibit activeHigh (byte 1) (imageByte image (66 + 8 * k.val + 4)) ∧
      (activeHigh = true ↔ byte 0 / 16 % 2 = 1))

/-- A schedule record's entry (R164). -/
def entryOfImage (image : List Byte) (k : Nat) (entry : Option ScheduleEntry) : Prop :=
  let byte (j : Nat) : Nat := (imageByte image (130 + 12 * k + j)).toNat
  let orAny (b : Nat) : Option Nat := if b = 255 then none else some b
  (byte 0 = 0 → entry = none) ∧
    (byte 0 ≠ 0 → ∃ e, entry = some e ∧ e.months.toNat = (256 * byte 5 + byte 6) % 4096 ∧
      (byte 0 = 1 → ∃ day, e.select = .calendar (orAny (byte 1)) (orAny (byte 2)) day ∧
        (byte 3 = 0 → day = .any) ∧ (byte 3 = 2 → day = .date (byte 4)) ∧
        (byte 3 = 1 → ∃ set, day = .weekdays set ∧ set.toNat = byte 4 % 128)) ∧
      (byte 0 = 2 → e.select = .cyclic (256 * byte 1 + byte 2) (256 * byte 3 + byte 4)) ∧
      (byte 7 = 1 → ∃ n p, e.action = .start n p (256 * byte 10 + byte 11) ∧ n.val = byte 8 ∧ p.number = byte 9) ∧
      (byte 7 = 2 → ∃ n, e.action = .stop n ∧ n.val = byte 8) ∧
      (byte 7 = 3 → e.action = .inhibitOn (imageByte image (130 + 12 * k + 8))) ∧
      (byte 7 = 4 → e.action = .inhibitOff (imageByte image (130 + 12 * k + 8))))

/-- The settings are those of the image: the station and profile bytes, the profile tag (R153), the eight channel
records, the eight input records and the thirty-two schedule records in order (R161). -/
def settingsOfImage (image : List Byte) (c : Settings) : Prop :=
  c.stationId = (imageByte image 5).toNat ∧ c.rateIndex = (imageByte image 6).toNat ∧
    c.budget = (imageByte image 7).toNat ∧ c.lease = (imageByte image 8).toNat ∧
    c.period = (imageByte image 9).toNat ∧
    c.tag.toNat =
      (crcBytes [imageByte image 6, imageByte image 7, imageByte image 8, imageByte image 9]).toNat % 256 ∧
    (∀ k : Fin 8, channelOfImage image k c.channels[k]) ∧ (∀ k : Fin 8, inputOfImage image k c.inputs[k]) ∧
    c.schedule.length = 32 ∧ ∀ k entry, c.schedule[k]? = some entry → entryOfImage image k entry

/-! ## The ranges of an image (table of R194) -/

/-- The station and profile part. -/
def profileRange (image : List Byte) : Prop :=
  1 ≤ (imageByte image 5).toNat ∧ (imageByte image 5).toNat ≤ 62 ∧ (imageByte image 6).toNat ≤ 3 ∧
    1 ≤ (imageByte image 7).toNat ∧ (imageByte image 7).toNat ≤ 250 ∧ (imageByte image 8).toNat % 2 = 0 ∧
    4 ≤ (imageByte image 8).toNat ∧ (imageByte image 8).toNat ≤ 60 ∧ 1 ≤ (imageByte image 9).toNat ∧
    (imageByte image 9).toNat ≤ 30

/-- Channel record k (R162). -/
def channelRange (image : List Byte) (k : Nat) : Prop :=
  (imageByte image (10 + 7 * k)).toNat ≤ (imageByte image 7).toNat ∧
    ((imageByte image (11 + 7 * k)).toNat ≤ 7 ∨ (imageByte image (11 + 7 * k)).toNat = 255)

/-- Input record k (R163). -/
def inputRange (image : List Byte) (k : Nat) : Prop :=
  let first := (imageByte image (66 + 8 * k)).toNat
  let action := (imageByte image (68 + 8 * k)).toNat
  let station := (imageByte image (69 + 8 * k)).toNat
  first % 4 ≤ 2 ∧
    (first % 4 = 1 →
      first / 4 % 4 ≤ 2 ∧ 1 ≤ action ∧ action ≤ 8 ∧
        (4 ≤ action ∧ action ≤ 6 → 1 ≤ station ∧ station ≤ 63) ∧
        (action ≤ 6 → (imageByte image (70 + 8 * k)).toNat ≤ 7) ∧
        (action ≤ 6 ∧ action ≠ 2 → (imageByte image (71 + 8 * k)).toNat ≤ 3))

/-- Schedule record k (R164). -/
def scheduleRange (image : List Byte) (k : Nat) : Prop :=
  let base := 130 + 12 * k
  let kind := (imageByte image base).toNat
  let minute := (imageByte image (base + 1)).toNat
  let hour := (imageByte image (base + 2)).toNat
  let mode := (imageByte image (base + 3)).toNat
  let value := (imageByte image (base + 4)).toNat
  let action := (imageByte image (base + 7)).toNat
  kind ≤ 2 ∧
    (kind = 1 →
      (minute ≤ 59 ∨ minute = 255) ∧ (hour ≤ 23 ∨ hour = 255) ∧ mode ≤ 2 ∧ (mode = 1 → value % 128 ≠ 0) ∧
        (mode = 2 → 1 ≤ value ∧ value ≤ 31)) ∧
    (kind = 2 →
      1 ≤ imageWord image (base + 1) ∧ imageWord image (base + 1) ≤ 1440 ∧
        imageWord image (base + 3) < imageWord image (base + 1)) ∧
    (kind ≠ 0 →
      imageWord image (base + 5) % 4096 ≠ 0 ∧ 1 ≤ action ∧ action ≤ 4 ∧
        (action ≤ 2 → (imageByte image (base + 8)).toNat ≤ 7) ∧
        (action = 1 → (imageByte image (base + 9)).toNat ≤ 3))

/-- Every field the image's settings use lies in its value set (R194). -/
def imageRanges (image : List Byte) : Prop :=
  profileRange image ∧ (∀ k, k < 8 → channelRange image k) ∧ (∀ k, k < 8 → inputRange image k) ∧
    ∀ k, k < 32 → scheduleRange image k

end Sys2Proof.Machine
end

