-- ==== Sys2Proof/WellFormed.lean ====
section
/-! DEFINITION. Which commands are well-formed: those whose operands are what the row's event brings (a whole read, an
accepted frame of the row's kind that is correct by the lengths and reserved bits of R154, the bits of a frame that
reached its veto slot). Every operand of a fixed form is well-formed by its type. -/

namespace Sys2Proof

open Sys2Proof.Machine

/-- Whether a command is well-formed. -/
def Instr.wellFormed (c : Instr) : Bool :=
  match c with
  | .readEnd bytes => bytes.length == Config.imageLength
  | .renewAccepted _ payload => allowedLength kindRenew payload.length && !renewReservedSet payload
  | .undefinedKindAccepted _ _ payload => decide (payload.length ≤ 20)
  | .frameVetoed read => (RawFrame.ofBits read).isSome
  | .vetoedFrameAcceptedByLine read => readsDefective read
  | .resetOnset _ => true
  | .resetEnd _ => true
  | .oscillatorStartWaitEnd => true
  | .retryReadStart => true
  | .lineIdle => true
  | .courtesyGapEnd => true
  | .startOfFrame _ => true
  | .arbitrationLost _ => true
  | .attemptAborted _ => true
  | .frameTruncated => true
  | .beaconAccepted _ _ => true
  | .claimAccepted _ _ => true
  | .releaseAccepted _ _ => true
  | .inhibitAccepted _ _ => true
  | .timesetAccepted _ _ => true
  | .demandAccepted _ _ => true
  | .queryAccepted _ _ => true
  | .reportAccepted _ _ => true
  | .beaconTimerExpiry => true
  | .muteTimerExpiry => true
  | .runAllowanceExpiry _ => true
  | .restEnd _ => true
  | .inputLevelChange _ _ => true
  | .debounceExpiry _ => true
  | .fractionStep => true
  | .statusBlink => true
  | .lineDominantBeforeIdle => true

end Sys2Proof
end

