-- ==== Sys2Proof/Certificates/Slice0/Obligations.lean ====
section
/-! DEFINITION. The statements about the station, for the provers. OBLIGATIONS.json says what each rests on. -/

section

open Sys2Proof Sys2Proof.Machine

/-! ## The queue of commands -/

/-- A step of a station with a command in front of its queue executes that command on the state with the rest of the
queue. -/
def Obligations.StepRunsFrontCommand : Prop :=
  ∀ (c : Instr) (rest : List Instr) (s : State),
    step { s with pending := c :: rest } = exec c { s with pending := rest }

/-- A command's effect is on everything but the queue of commands. -/
def Obligations.ExecLeavesTheQueue : Prop :=
  ∀ (c : Instr) (s t : State), exec c s = .next t → t.pending = s.pending

/-! ## The invariants -/

/-- Every invariant holds of the machine right after reset. -/
def Obligations.ResetMeetsEveryInvariant : Prop :=
  State.reset.tableInv ∧ State.reset.runInv ∧ State.reset.inhibitInv ∧ State.reset.queueInv ∧
    State.reset.offerInv ∧ State.reset.boundsInv ∧ State.reset.timeInv

/-- Every step keeps the holding table in order, within 48 records and one PENDING record, with its reserved units
within B and every record's fields in their ranges (R1 to R4, R20, R30). -/
def Obligations.StepKeepsTheTableSound : Prop :=
  ∀ s t : State, s.tableInv → step s = .next t → t.tableInv

/-- Every step keeps the law that outside HALTED a budgeted channel is ON only while its own record is HELD (R81), with
what keeps that law. -/
def Obligations.StepKeepsChannelsUnderHoldings : Prop :=
  ∀ s t : State, s.runInv → step s = .next t → t.runInv

/-- Every step leaves no inhibited channel PENDING or ON (R97, R99). -/
def Obligations.StepKeepsInhibitedChannelsOff : Prop :=
  ∀ s t : State, s.inhibitInv → step s = .next t → t.inhibitInv

/-- Every step keeps the claim queue sound (R33, R34, R45). -/
def Obligations.StepKeepsTheClaimQueueSound : Prop :=
  ∀ s t : State, s.queueInv → step s = .next t → t.queueInv

/-- Every step keeps the offer set and the command queue as the membership state allows them, every budgeted channel OFF
in MUTE, and every exempt channel OFF or ON (R74, R88, R141, R142, R185). -/
def Obligations.StepKeepsOffersSound : Prop :=
  ∀ s t : State, s.offerInv → step s = .next t → t.offerInv

/-- Every step keeps within their bounds the counters, the two streaks, the attempt counts, the witness count, the
beacons heard, the two dividers, the load attempt count with its periods, the start wait and the blink count (R62, R67,
R101, R104, R140, R180, R184, R188, R190, R191, R201, R206). -/
def Obligations.StepKeepsCountsBounded : Prop :=
  ∀ s t : State, s.boundsInv → step s = .next t → t.boundsInv

/-- Every step keeps the calendar in range, TIME-INVALID the opposite of the time-valid flag, and the last-evaluated
minute none exactly while time is invalid (R101, R106, R126). -/
def Obligations.StepKeepsTimeSound : Prop :=
  ∀ s t : State, s.timeInv → step s = .next t → t.timeInv

/-- Between two resets the last-evaluated minute never moves to an earlier minute: it stays, or moves to a minute less
than half the cycle after it (R126). -/
def Obligations.LastMinuteNeverMovesBack : Prop :=
  ∀ (s t : State) (last : Nat), s.timeInv → s.lastMinute = some last →
    (∀ k rest, s.pending ≠ .resetOnset k :: rest) → step s = .next t →
    ∃ m, t.lastMinute = some m ∧ (m = last ∨
      (1 ≤ forwardDistance last m ∧ forwardDistance last m < Config.halfCycleMinutes))

/-- Two SYNCED stations of one profile whose tables are the same, and which both take part in a frame, as receivers or
one of them as its transmitter, have the same table after its acceptance as a CLAIM, a RELEASE or a RENEW: each applies
the same rules to the same frame (R7, R12, R16, R18). -/
def Obligations.ReplicasAgree : Prop :=
  ∀ (c : Instr) (f : Frame) (s₁ s₂ : State), acceptedFrame c = some f →
    f.kind = kindClaim ∨ f.kind = kindRelease ∨ f.kind = kindRenew →
    s₁.takesPart f → s₂.takesPart f → s₁.member.state = .synced → s₂.member.state = .synced →
    s₁.settings.budget = s₂.settings.budget → s₁.settings.lease = s₂.settings.lease →
    s₁.settings.tag = s₂.settings.tag → s₁.table = s₂.table →
    ∃ t₁ t₂, exec c s₁ = .next t₁ ∧ exec c s₂ = .next t₂ ∧ t₁.table = t₂.table

/-! ## Formats -/

/-- The bits of a frame before its veto slot spell that frame, for every frame whose length field counts its payload
(R149, R168). -/
def Obligations.FrameBitsRoundTrip : Prop :=
  ∀ f : RawFrame, f.payload.length = f.length.toNat → RawFrame.ofBits f.bits = some f

/-- What a receiver reads of a BEACON and of a RENEW is what the sender put in: the BEACON's fields, its calendar while
time is valid, and a RENEW's entries in order (R155, R157). -/
def Obligations.PayloadsRoundTrip : Prop :=
  (∀ (b : BeaconFields) (p : Vector Byte 14), p.toList = beaconPayload b → b.digest.count ≤ 255 →
      b.digest.units ≤ 255 → b.digest.shedding ≤ 255 →
      (beaconFields p).epoch = b.epoch ∧ (beaconFields p).timeValid = b.timeValid ∧
        (beaconFields p).authoritative = b.authoritative ∧ (beaconFields p).digest = b.digest ∧
        (beaconFields p).mask = b.mask ∧
        (b.timeValid = true → b.time.inRange = true → (beaconFields p).time = b.time)) ∧
    ∀ es : List RenewEntry, (∀ e ∈ es, e.units ≤ 255) →
      renewEntries (es.flatMap renewEntryBytes) = es ∧ renewReservedSet (es.flatMap renewEntryBytes) = false

/-- Calendar values and fraction positions count the same instants: the day number, the minute number and the fraction
position lie in their ranges, the date of a day number is that day, and each conversion undoes the other (R102, R103,
R109 (4)). -/
def Obligations.CalendarPositionsRoundTrip : Prop :=
  (∀ v : CalendarValue, v.inRange = true →
      dayNumber v < 36525 ∧ minuteNumber v < Config.cycleMinutes ∧ fractionPosition v < Config.cycleFractions ∧
        dateOfDay (dayNumber v) = (v.year, v.month, v.day) ∧ valueAt (fractionPosition v) = v) ∧
    ∀ p, p < Config.cycleFractions → (valueAt p).inRange = true ∧ fractionPosition (valueAt p) = p

/-- Every frame the station samples is correct by the four conditions of R154, so no receiver that reads it as sent
vetoes it. -/
def Obligations.OwnFramesAreCorrect : Prop :=
  ∀ (s : State) (o : Offer), s.tableInv → o ∈ s.standingOffers →
    (o = .renew → ownReserved s.ownId s.table ≠ []) → (s.sampledFrame o).raw.defective = false

/-- At the four rates the line reads a '0' where any of the stations that send together sends a '0', and the times are
those of the table of R166. -/
def Obligations.LineReadsTheWiredAnd : Prop :=
  lineTiming 0 = { bitTime := 200000, onePulse := 50000, zeroPulse := 150000, samplePoint := 100000,
                   truncation := 300000 } ∧
    lineTiming 1 = { bitTime := 100000, onePulse := 25000, zeroPulse := 75000, samplePoint := 50000,
                     truncation := 150000 } ∧
    lineTiming 2 = { bitTime := 50000, onePulse := 12500, zeroPulse := 37500, samplePoint := 25000,
                     truncation := 75000 } ∧
    lineTiming 3 = { bitTime := 25000, onePulse := 6250, zeroPulse := 18750, samplePoint := 12500,
                     truncation := 37500 } ∧
    ∀ (rate : Nat) (sent : List Bool), rate ≤ 3 → sampledBit (lineTiming rate) sent = lineBit sent

/-! ## Start-up -/

/-- The onset of any reset, in every state, returns every block to its reset values with nothing driven; the reset
state has them; and the end of the last reset held starts the oscillator, while another holds the part in reset
(R186, R188). -/
def Obligations.ResetsReturnEveryBlock : Prop :=
  State.reset.atReset ∧
    (∀ (k : ResetKind) (s : State), ∃ t, exec (.resetOnset k) s = .next t ∧ t.atReset ∧ t.phase = .inReset ∧
      t.heldResets = s.heldResets.hold k ∧ t.pins = s.pins) ∧
    ∀ (k : ResetKind) (s : State), s.phase = .inReset → s.heldResets.holds k = true →
      ((s.heldResets.release k).any = false →
        exec (.resetEnd k) s =
          .next { s with heldResets := s.heldResets.release k, phase := .startWait, startPeriods := 0 }) ∧
        ((s.heldResets.release k).any = true →
          exec (.resetEnd k) s = .next { s with heldResets := s.heldResets.release k })

/-- The start wait counts 32,768 oscillator periods, one at each step of a station whose queue is empty (DESIGN CHOICE,
log entry 7), and ends as OSCILLATOR_START_WAIT_END does, whatever it has counted (DESIGN CHOICE, log entry 6): in
LOADING, the dividers and the calendar at their start, the first read running, and TIME-INVALID alone present (R188). -/
def Obligations.StartWaitEndsInLoading : Prop :=
  (∀ s : State, s.pending = [] → step s = .next s.oscillatorPeriod) ∧
    (∀ s : State, s.phase = .startWait → s.startPeriods < Config.startWaitPeriods →
      (State.oscillatorPeriod^[Config.startWaitPeriods - s.startPeriods] s) = s.endStartWait) ∧
    ∀ s : State, s.phase = .startWait → ∃ t, exec .oscillatorStartWaitEnd s = .next t ∧ t = s.endStartWait ∧
      t.phase = .running ∧ t.member = { s.member with state := .loading } ∧ t.tickDivider = 0 ∧
      t.calendar.value = CalendarValue.origin ∧ t.calendar.phase = 0 ∧ t.calendar.valid = false ∧
      t.loader.attempts = 1 ∧ t.loader.activity = .reading 0 [] ∧
      t.report = { s.report with faults := { FaultSet.none with timeInvalid := true } } ∧ t.statusAsserted = false ∧
      t = { s with
        phase := t.phase, startPeriods := t.startPeriods, tickDivider := t.tickDivider, calendar := t.calendar
        member := t.member, loader := t.loader, report := t.report }

/-- The second read starts one tick of 512 oscillator periods after the first has ended, and not before; the command
RETRY_READ_START starts it from address 0, whatever the wait has counted (DESIGN CHOICE, log entry 6). A read lasts
33,216 oscillator periods: SEL is low, CLK is low for four of every eight and high for four (DEDUCED, log entry 11), DO
sends the command and the address in 24 clock periods and is then released, and DI is sampled on each rising edge of CLK
after them, one bit to the next, each byte most significant bit first, the 4,128 bits giving the image; the whole image
is then judged by the end that READ_END commands, as DI carried it (DESIGN CHOICE, log entries 6, 20 and 31). In a
running part one period takes the read one period on (DESIGN CHOICE, log entry 7) (R190, R191). -/
def Obligations.SecondReadStartsOneTickLater : Prop :=
  (∀ s : State, s.isLoading = true → s.loader.activity.isRetryWait = true →
      exec .retryReadStart s =
        .next { s with loader := { s.loader with attempts := 2, activity := .reading 0 [] } }) ∧
    (∀ s : State, s.isLoading = true → s.loader.activity = .retryWait 0 →
      (∀ k, k < Config.retryWaitPeriods →
        (State.oscillatorPeriod^[k] s).loader = { s.loader with activity := .retryWait k }) ∧
        (State.oscillatorPeriod^[Config.retryWaitPeriods] s).loader =
          { s.loader with attempts := 2, activity := .reading 0 [] }) ∧
    (∀ (s : State) (p : Nat) (bits : List Bool), s.loader.activity = .reading p bits → p < 33216 →
      s.port =
        { selLow := true, clkHigh := decide (4 ≤ p % 8)
          dataOut := if p / 8 < 24 then some ((0x030000#24).getMsbD (p / 8)) else none
          dataIn := s.dataIn }) ∧
    (∀ (s : State) (p : Nat) (bits : List Bool), s.isLoading = true → s.loader.activity = .reading p bits →
      let heard := if (p + 1) % 8 = 4 ∧ 24 ≤ (p + 1) / 8 then bits ++ [s.dataIn] else bits
      (p + 1 < 33216 →
        s.loaderPeriod = { s with loader := { s.loader with activity := .reading (p + 1) heard } }) ∧
        (p + 1 = 33216 → s.loaderPeriod = s.endRead (imageOfBits heard)) ∧
        ∀ image, exec (.readEnd image) s = .next (s.endRead image)) ∧
    (∀ s : State, s.phase = .running → s.oscillatorPeriod = s.loaderPeriod.phasePeriod.tickPeriod) ∧
    (∀ image : List Byte, imageOfBits (image.flatMap bitsMsb) = image) ∧
    ∀ (s : State) (image : List Byte) (level : Nat → Bool), s.isLoading = true →
      s.loader.activity = .reading 0 [] → image.length = 516 →
      (∀ i, i < 4128 → level (8 * i + 195) = (image.flatMap bitsMsb).getD i true) →
      (List.range 33216).foldl (fun t k => { t with dataIn := level k }.loaderPeriod) s =
        { s with dataIn := level 33215 }.endRead image

/-- A read that ends with a sound image takes it whole and enters LISTENING: the inputs are sampled without an edge, the
level-inhibit mask follows them, the beacon timer and the idle count start, the outputs go to their inactive levels,
and no fault or counter shows an earlier failed read. The settings are those of the image's bytes, record by record, and
the profile tag is computed from its four profile bytes (R134, R153, R161 to R164, R193 (1), R196, R197). -/
def Obligations.SoundImageEntersListening : Prop :=
  (∀ (bytes : List Byte) (c : Settings), readSettings bytes = some c → settingsOfImage bytes c) ∧
  ∀ (bytes : List Byte) (c : Settings) (s : State), s.isLoading = true → s.loader.activity.isReading = true →
    formFailure bytes = none → readSettings bytes = some c →
    ∃ t, exec (.readEnd bytes) s = .next t ∧ t.settings = c ∧ t.imageTaken = true ∧
      t.loader = { s.loader with activity := .idle, lastCheck := some .sound } ∧
      t.member = { s.member with
        state := .listening, beaconsHeard := 0, authHeard := false, beaconTimer := .counting 0 } ∧
      t.line = { s.line with activity := .counting, idleCount := 0, courtesyGap := false } ∧
      (∀ n : InputIx, t.inputs[n] =
        { taken := if c.inputs[n] = .unused then none else some s.pins[n], debounce := 0 }) ∧
      t.masks = { s.masks with level := levelMask c.inputs t.inputs } ∧
      t = { s with
        settings := t.settings, imageTaken := t.imageTaken, loader := t.loader, member := t.member, line := t.line
        inputs := t.inputs, masks := t.masks } ∧
      ∀ n : ChannelIx, s.channelState n = .off →
        t.outputLevel n = if c.channels[n].activeLow then .high else .low

/-- A read whose image fails a check: a mark, length or check failure of the first read leads to a second read and
leaves no trace; of the second read it halts the station with the fault of that failure; a range failure halts it
after either read; and a sound image is taken with no fault set and no counter changed (R193, R195). The outcome is that
of the first check that fails, of mark and version, length, check and ranges (R192). -/
def Obligations.RefusedImageHalts : Prop :=
  (∀ image : List Byte,
    (¬ imageMarked image → checkImage image = .markFailure) ∧
    (imageMarked image → ¬ imageSized image → checkImage image = .lengthFailure) ∧
    (imageMarked image → imageSized image → ¬ imageChecked image → checkImage image = .checkFailure) ∧
    (imageMarked image → imageSized image → imageChecked image →
      formFailure image = none ∧ (¬ imageRanges image → checkImage image = .rangeFailure) ∧
        (imageRanges image → checkImage image = .sound)) ∧
    (¬ (imageMarked image ∧ imageSized image ∧ imageChecked image) →
      formFailure image = some (checkImage image))) ∧
  ∀ (bytes : List Byte) (s : State), s.isLoading = true → s.loader.activity.isReading = true →
    (∀ failure, formFailure bytes = some failure → s.loader.attempts = 1 →
      exec (.readEnd bytes) s =
        .next { s with loader := { s.loader with activity := .retryWait 0, lastCheck := some failure } }) ∧
    (∀ outcome, checkImage bytes = outcome → outcome ≠ .sound →
      (outcome ≠ .rangeFailure → s.loader.attempts ≠ 1) →
      ∃ t, exec (.readEnd bytes) s = .next t ∧ t.member.state = .halted ∧
        t.report.faults =
          (match outcome with
          | .markFailure => { s.report.faults with configAbsent := true }
          | .rangeFailure => { s.report.faults with configRange := true }
          | _ => { s.report.faults with configCheck := true }) ∧
        t.report.blink = 0 ∧ t.report.counters = s.report.counters ∧ t.line.offers = OfferSet.empty ∧
        t.line.activity = .apart ∧
        t = { s with loader := t.loader, member := t.member, line := t.line, report := t.report } ∧
        (s.imageTaken = false → ∀ n, t.outputLevel n = .undriven)) ∧
    (checkImage bytes = .sound →
      ∃ t, exec (.readEnd bytes) s = .next t ∧ t.imageTaken = true ∧ t.member.state = .listening ∧
        t.report = s.report)

/-- The range check judges exactly the conditions of the table of R194, each weight against the image's own B; an image
of the right form that breaks one of them halts the station with CONFIG-RANGE without a second read. -/
def Obligations.RangeCheckIsTheTableOfR194 : Prop :=
  (∀ image : List Byte, (readSettings image).isSome = true ↔ imageRanges image) ∧
    ∀ (image : List Byte) (s : State), s.isLoading = true → s.loader.activity.isReading = true →
      formFailure image = none → ¬ imageRanges image →
      ∃ t, exec (.readEnd image) s = .next t ∧ t.member.state = .halted ∧
        t.report.faults = { s.report.faults with configRange := true } ∧ t.loader.attempts = s.loader.attempts ∧
        t.loader.activity = .idle

/-! ## The line -/

/-- What the station does between frames: 11 recessive bit times make the line idle for it, a dominant level before
that restarts the count, 15 clear the courtesy-gap flag, and another station's leading edge on the idle line makes it a
receiver, with a SOF record made and the flag cleared (R107, R169, R170, R171). -/
def Obligations.ListeningToTheLine : Prop :=
  ∀ s : State, s.member.state.online = true →
    (s.line.activity = .counting →
      exec .lineIdle s = .next { s with line := { s.line with activity := .idle, idleCount := 11 } } ∧
        exec .lineDominantBeforeIdle s = .next { s with line := { s.line with idleCount := 0 } }) ∧
    (s.line.activity = .idle →
      (s.line.courtesyGap = true →
        exec .courtesyGapEnd s = .next { s with line := { s.line with idleCount := 15, courtesyGap := false } }) ∧
      exec (.startOfFrame .otherStation) s =
        .next { s with
          calendar := { s.calendar with
            sofPosition := fractionPosition s.calendar.value, sofValid := s.calendar.valid }
          line := { s.line with activity := .receiving, idleCount := 0, buffer := [], courtesyGap := false } })

/-- At its opportunity to start a frame the station chooses the offer with the lowest arbitration value, makes the SOF
record, and sends the frame with its content as it stands then; a claim's in-flight flag is set, every offer stays, and
with nothing offered nothing starts. The offers that compete are those that stand in the offer set, of the RELEASE
offers the one for the lowest channel (R107, R170, R181, R182). The content: a BEACON carries own epoch + 1,
authoritative exactly in SYNCED, the table's fields, the line mask, and the SOF record's time or zeros; a CLAIM the
channel, its weight and the displace flag exactly when it does not fit and is displacement-eligible; a RENEW every own
HELD and PENDING record in channel order; a command its own fields; a REPORT the states, faults, queue, table, counters
and epoch (R46, R58, R72, R111, R138, R204). -/
def Obligations.OwnStartSendsTheLowestOffer : Prop :=
  (∀ (s : State) (o : Offer), o ∈ s.standingOffers ↔
    match o with
    | .beacon => s.line.offers.beacon = true
    | .release n => s.line.offers.releases[n] = true ∧ ∀ m : ChannelIx, m < n → s.line.offers.releases[m] = false
    | .claim => s.line.offers.claim = true ∧ s.claims.outstanding ≠ none
    | .renew => s.line.offers.renew = true
    | .command => s.line.offers.command = true ∧ s.commands.queue ≠ []
    | .report => s.line.offers.report = true) ∧
  ∀ s : State, s.member.state.online = true → s.line.activity = .idle → s.line.courtesyGap = false →
    (s.standingOffers = [] → exec (.startOfFrame .ownStart) s = .next s) ∧
    (s.standingOffers ≠ [] → ∃ o, s.chosenOffer = some o) ∧
    ∀ o, s.chosenOffer = some o →
      o ∈ s.standingOffers ∧ (∀ o' ∈ s.standingOffers, s.offerValue o ≤ s.offerValue o') ∧
      (s.withdrawnAtSof o = none →
        ∃ t f, exec (.startOfFrame .ownStart) s = .next t ∧
          t.line = { s.line with activity := .transmitting o f, idleCount := 0, buffer := [] } ∧
          f = s.recordSof.sampledFrame o ∧ (s.tableInv → { s with calendar := t.calendar }.samples o f) ∧
          t.calendar = { s.calendar with
            sofPosition := fractionPosition s.calendar.value, sofValid := s.calendar.valid } ∧
          t.claims =
            (if o = .claim then
              { s.claims with
                outstanding := s.claims.outstanding.map fun c => { c with inFlight := true } }
            else s.claims) ∧
          t = { s with line := t.line, calendar := t.calendar, claims := t.claims })

/-- A claim that fails its re-check at its SOF attempt is withdrawn: its demand returns with its enqueue number and
HOLD set, its channel goes OFF, and no streak counts it (R46, R50). -/
def Obligations.FailedRecheckReturnsTheDemandHeld : Prop :=
  ∀ (s : State) (c : OutstandingClaim), s.queueInv → s.member.state.online = true → s.line.activity = .idle →
    s.line.courtesyGap = false → s.chosenOffer = some .claim → s.claims.outstanding = some c →
    s.claimPasses c = false →
    ∃ t, exec (.startOfFrame .ownStart) s = .next t ∧ c.entry true ∈ t.claims.queue ∧
      t.channelState c.channel = .off ∧
      (∀ c', t.claims.outstanding = some c' → c'.channel ≠ c.channel) ∧
      t.line.sendStreak = s.line.sendStreak ∧ t.line.vetoStreak = s.line.vetoStreak ∧
      t = { s with line := t.line, calendar := t.calendar, claims := t.claims, channels := t.channels } ∧
      ∀ n, n ≠ c.channel → s.channelState n ≠ .off → t.channel n = s.channel n

/-- A transmitter that reads '0' where it sent '1' in the arbitration field becomes a receiver and keeps its offer: no
streak, attempt count or courtesy-gap flag changes; a claim's in-flight flag is cleared, a stop note then drops the
claim, and without one an inhibit returns its demand with its enqueue number and HOLD clear (R47 (1), R51 (2), R52 (4),
R172 (1), R183). -/
def Obligations.LostArbitrationKeepsTheOffer : Prop :=
  ∀ (s : State) (o : Offer) (f : Frame) (bit : Fin 12), s.member.state.online = true →
    s.line.activity = .transmitting o f → f.arbitrationBits.getD bit.val false = true →
    (o ≠ .claim →
      exec (.arbitrationLost bit) s =
        .next { s with line := { s.line with activity := .receiving, buffer := f.readUpTo bit.val } }) ∧
    ∀ c, o = .claim → s.claims.outstanding = some c →
      (c.stopNote = false → s.inhibited c.channel = false →
        exec (.arbitrationLost bit) s =
          .next { s with
            line := { s.line with activity := .receiving, buffer := f.readUpTo bit.val }
            claims := { s.claims with outstanding := some { c with inFlight := false } } }) ∧
      (c.stopNote = true → s.queueInv →
        ∃ t, exec (.arbitrationLost bit) s = .next t ∧ t.channelState c.channel = .off ∧
          t.entryOf c.channel = none ∧ t.line.sendStreak = s.line.sendStreak ∧
          t = { s with line := t.line, claims := t.claims, channels := t.channels } ∧
          ∀ n, n ≠ c.channel → s.channelState n ≠ .off → t.channel n = s.channel n) ∧
      (c.stopNote = false → s.inhibited c.channel = true → s.queueInv →
        ∃ t, exec (.arbitrationLost bit) s = .next t ∧
          t.channel c.channel = { s.channel c.channel with state := .off } ∧ c.entry false ∈ t.claims.queue ∧
          t.claims.enqueueCount = s.claims.enqueueCount ∧ t.line.activity = .receiving ∧
          t.line.buffer = f.readUpTo bit.val ∧ t.line.sendStreak = s.line.sendStreak ∧
          t.line.vetoStreak = s.line.vetoStreak ∧ t.line.courtesyGap = s.line.courtesyGap ∧
          (∀ c', t.claims.outstanding = some c' → c'.channel ≠ c.channel ∧ c'.attempts = 0) ∧
          t = { s with line := t.line, claims := t.claims, channels := t.channels } ∧
          ∀ n, n ≠ c.channel → s.channelState n ≠ .off → t.channel n = s.channel n)

/-- An own attempt of a BEACON, a RELEASE or a RENEW that is aborted or vetoed leaves its offer standing: the
send-failure streak rises by one and the courtesy-gap flag is set; a vetoed one raises own-frames-vetoed and ends the
buffer with its veto slot read as '0', and an aborted one leaves the station a receiver (R168, R171, R173, R176 (2),
R179, R183, R184). -/
def Obligations.FailedAttemptKeepsUnlimitedOffers : Prop :=
  ∀ (s : State) (o : Offer) (f : Frame), s.member.state.online = true → s.line.activity = .transmitting o f →
    (o = .beacon ∨ o = .renew ∨ ∃ n, o = .release n) → s.line.sendStreak + 1 < 16 →
    (∀ bit, f.abortsAt bit = true →
      exec (.attemptAborted bit) s =
        .next { s with line := { s.line with
          activity := .receiving, idleCount := 0, buffer := f.readUpTo bit,
          sendStreak := s.line.sendStreak + 1, courtesyGap := true } }) ∧
    ∀ read, exec (.frameVetoed read) s =
      .next { s with
        line := { s.line with
          activity := .counting, idleCount := 0, buffer := f.bits ++ [false],
          sendStreak := s.line.sendStreak + 1, courtesyGap := true }
        report := { s.report with counters := { s.report.counters with
          ownVetoed := min 255 (s.report.counters.ownVetoed + 1) } } }

/-- The third vetoed or aborted attempt of a claim, of the command queue's head or of a REPORT gives it up: the claim's
demand returns with HOLD set and its channel goes OFF, the head leaves the queue and is counted, the REPORT offer goes;
an earlier one only raises the attempt count. A claim with a stop note is dropped at the end of the attempt, and one
whose channel is inhibited, its attempts not used up, returns with HOLD clear. The attempt count of an emptied command
queue is 0 (DESIGN CHOICE, log entry 27). The courtesy-gap flag is set in each case, and a vetoed attempt raises
own-frames-vetoed where an aborted one leaves the station a receiver (R47 (2), R52 (4), R141 (2), R171, R173, R176 (2),
R183, R184, R203 (2)). -/
def Obligations.ThirdFailureGivesUp : Prop :=
  ∀ (s : State) (i : Instr) (o : Offer) (f : Frame), s.member.state.online = true →
    s.line.activity = .transmitting o f → s.line.sendStreak + 1 < 16 →
    ((∃ read, i = .frameVetoed read) ∨ ∃ bit, f.abortsAt bit = true ∧ i = .attemptAborted bit) →
    ∃ t, exec i s = .next t ∧ t.line.sendStreak = s.line.sendStreak + 1 ∧
      t = { s with
        line := t.line, claims := t.claims, channels := t.channels, commands := t.commands, report := t.report } ∧
      (∀ read, i = .frameVetoed read →
        t.line = { s.line with
          activity := .counting, idleCount := 0, buffer := f.bits ++ [false], offers := t.line.offers,
          sendStreak := s.line.sendStreak + 1, courtesyGap := true } ∧
          t.report.counters.ownVetoed = min 255 (s.report.counters.ownVetoed + 1)) ∧
      (∀ bit, i = .attemptAborted bit →
        t.line = { s.line with
          activity := .receiving, idleCount := 0, buffer := f.readUpTo bit, offers := t.line.offers,
          sendStreak := s.line.sendStreak + 1, courtesyGap := true } ∧
          t.report.counters.ownVetoed = s.report.counters.ownVetoed) ∧
      t.report = { s.report with
        attempts := t.report.attempts
        counters := { s.report.counters with
          ownVetoed := t.report.counters.ownVetoed, commandsDropped := t.report.counters.commandsDropped } } ∧
      (o ≠ .report → t.report.attempts = s.report.attempts) ∧
      (o ≠ .claim → t.claims = s.claims ∧ t.channels = s.channels) ∧
      (o ≠ .command →
        t.commands = s.commands ∧ t.report.counters.commandsDropped = s.report.counters.commandsDropped) ∧
      (o = .command → s.commands.headAttempts + 1 < 3 →
        t.commands = { s.commands with headAttempts := s.commands.headAttempts + 1 } ∧
          t.report.counters.commandsDropped = s.report.counters.commandsDropped ∧
          t.line.offers = s.line.offers) ∧
      (o = .command → 3 ≤ s.commands.headAttempts + 1 →
        t.commands = { queue := s.commands.queue.tail, headAttempts := 0 } ∧
          t.report.counters.commandsDropped = min 255 (s.report.counters.commandsDropped + 1) ∧
          t.report.faults = s.report.faults) ∧
      (o = .report → s.report.attempts + 1 < 3 →
        t.report.attempts = s.report.attempts + 1 ∧ t.line.offers = s.line.offers) ∧
      (o = .report → 3 ≤ s.report.attempts + 1 → t.line.offers = { s.line.offers with report := false }) ∧
      ∀ c, o = .claim → s.claims.outstanding = some c → s.queueInv →
        (∀ n, n ≠ c.channel → s.channelState n ≠ .off → t.channel n = s.channel n) ∧
        (c.stopNote = false → 3 ≤ c.attempts + 1 →
          c.entry true ∈ t.claims.queue ∧ t.channelState c.channel = .off) ∧
        (c.stopNote = false → c.attempts + 1 < 3 → s.inhibited c.channel = false →
          t.claims = { s.claims with
            outstanding := some { c with attempts := c.attempts + 1, inFlight := false } } ∧
            t.line.offers = s.line.offers) ∧
        (c.stopNote = false → c.attempts + 1 < 3 → s.inhibited c.channel = true →
          c.entry false ∈ t.claims.queue ∧ t.channelState c.channel = .off) ∧
        (c.stopNote = true → t.entryOf c.channel = none ∧ t.channelState c.channel = .off)

/-- What a receiver does at a frame that is not accepted: a truncated frame is dropped with nothing counted; a vetoed
frame that it found correct is discarded without any count; a frame that it found defective, vetoed by the line or not,
raises vetoes-cast and the veto streak, and is not applied, however the acceptance is commanded (DEDUCED, log entry 9).
The buffer ends with the veto slot as it was read: a '0' in a vetoed frame, a '1' in one the line accepted. Defective is
a frame whose length field is above 20 or not allowed for its kind, whose check is not the one computed over its bits
from class to profile tag, or a RENEW with a reserved bit of an entry set. That no duplicate-ID check is made on a frame
found defective that the line accepted, whatever source its bits name, is the model's choice (DESIGN CHOICE, log entry
30), and so is that a receiver whose own attempt aborted in this frame judges and vetoes it like any other (DESIGN
CHOICE, log entry 29) (R154, R168, R174, R175, R176, R178). -/
def Obligations.ReceiverJudgesTheFrame : Prop :=
  (∀ f : RawFrame, f.defective = true ↔ f.meetsR154) ∧
  ∀ s : State, s.member.state.online = true → s.line.activity = .receiving →
    exec .frameTruncated s =
      .next { s with line := { s.line with activity := .counting, idleCount := 0, buffer := [] } } ∧
    (∀ read f, RawFrame.ofBits read = some f → f.defective = false →
      exec (.frameVetoed read) s =
        .next { s with line := { s.line with activity := .counting, idleCount := 0, buffer := read ++ [false] } }) ∧
    (∀ c f, acceptedFrame c = some f → f.payload.length < 32 → f.raw.defective = true →
      exec c s = exec (.vetoedFrameAcceptedByLine f.bits) s) ∧
    ∀ c read slot f, (c = .frameVetoed read ∧ slot = false) ∨ (c = .vetoedFrameAcceptedByLine read ∧ slot = true) →
      RawFrame.ofBits read = some f → f.defective = true → s.line.vetoStreak + 1 < 8 →
      exec c s =
        .next { s with
          line := { s.line with
            activity := .counting, idleCount := 0, buffer := read ++ [slot], vetoStreak := s.line.vetoStreak + 1 }
          report := { s.report with counters := { s.report.counters with
            vetoesCast := min 255 (s.report.counters.vetoesCast + 1) } } }

/-- The eighth veto of the veto streak, or the sixteenth own attempt of the send-failure streak to end aborted or
vetoed, enters MUTE: the fault is latched, every offer is withdrawn, the command queue is discarded and counted once,
the table is cleared with every HOLD mark, both streaks return to 0, and the mute timer runs for L × T + 2 seconds. Each
budgeted channel goes by the table of R74: an ON channel OFF with its rest begun and its demand requeued with what
remains, a PENDING one OFF with its demand requeued in full, a CLAIMING one OFF with the claim's demand back in the
queue, unless the claim's own attempt was the sixteenth failure and carried a stop note, which drops it, and a STOPPING
or an OFF one OFF with its entry kept; an exempt channel that runs goes on. That a frame found defective that the line
accepted enters MUTE whatever source its bits name is the model's choice (DESIGN CHOICE, log entry 30), and so is that a
station whose own attempt aborted in the frame casts the eighth veto (DESIGN CHOICE, log entry 29) (R40, R47, R52 (4),
R53, R73, R74, R91, R92, R180). -/
def Obligations.StreakLimitEntersMute : Prop :=
  ∀ (s : State) (c : Instr) (veto : Bool), s.queueInv → s.member.state.online = true →
    ((veto = true ∧ s.line.activity = .receiving ∧ s.line.vetoStreak = 7 ∧
        ∃ read, readsDefective read = true ∧ (c = .frameVetoed read ∨ c = .vetoedFrameAcceptedByLine read)) ∨
      (veto = false ∧ s.line.sendStreak = 15 ∧
        ∃ o f, s.line.activity = .transmitting o f ∧ (o = .command → s.commands.queue ≠ []) ∧
          ((∃ bit, f.abortsAt bit = true ∧ c = .attemptAborted bit) ∨ ∃ read, c = .frameVetoed read))) →
    ∃ t, exec c s = .next t ∧ t.member.state = .mute ∧ t.member.beaconTimer = .stopped ∧
      t.member.witness = none ∧ t.member.muteTimer = 64 * (s.settings.lease * s.settings.period + 2) ∧
      t.member.epoch = s.member.epoch ∧
      (if veto then t.report.faults.mutedVeto = true else t.report.faults.mutedSend = true) ∧
      t.table = [] ∧ t.line.offers = OfferSet.empty ∧ t.line.activity = .apart ∧ t.line.vetoStreak = 0 ∧
      t.line.sendStreak = 0 ∧ t.line.courtesyGap = false ∧ t.commands.queue = [] ∧
      t.report.counters.commandsDropped =
        min 255 (s.report.counters.commandsDropped + s.commands.queue.length) ∧
      (∀ e ∈ t.claims.queue, e.hold = false) ∧ t.claims.outstanding = none ∧
      (∀ n, s.exempt n = false → t.channelState n = .off ∧
        (∀ demand, s.channelState n = .switchedOn demand →
          (t.channel n).rest =
              (if (s.channelSettings n).rest = 0 then (s.channel n).rest else (s.channelSettings n).rest * 64) ∧
            (demand.allowance ≠ some 0 → t.holdsEntry n demand) ∧
            (demand.allowance = some 0 → t.entryOf n = none)) ∧
        (∀ demand, s.channelState n = .pending demand →
          t.channel n = { s.channel n with state := .off } ∧
            (demand.allowance ≠ some 0 → t.holdsEntry n demand)) ∧
        (∀ o, s.claims.outstanding = some o → o.channel = n →
          t.channel n = { s.channel n with state := .off } ∧
            (o.stopNote = true → (∃ f, s.line.activity = .transmitting .claim f) → t.entryOf n = none) ∧
            (o.stopNote = false ∨ (∀ f, s.line.activity ≠ .transmitting .claim f) →
              t.holdsEntry n { cls := o.cls, allowance := o.allowance })) ∧
        (s.channelState n = .stopping ∨ s.channelState n = .off →
          t.channel n = { s.channel n with state := .off } ∧
            ((t.entryOf n).map fun e => (e.cls, e.allowance)) = (s.entryOf n).map fun e => (e.cls, e.allowance))) ∧
      (∀ n, s.exempt n = true → (s.channelState n).isOn = true → t.channel n = s.channel n) ∧
      t.statusAsserted = decide (t.phase = .running) ∧
      t = { s with
        table := t.table, claims := t.claims, member := t.member, channels := t.channels, commands := t.commands
        line := t.line, report := t.report }

/-! ## Membership timers -/

/-- MUTE ends when the mute timer expires, by its count of L × T + 2 seconds of ticks or by MUTE_TIMER_EXPIRY, whatever
the count (DESIGN CHOICE, log entry 6): the station enters LISTENING, counts idle afresh, and keeps its epoch, masks and
faults. Each tick of the station takes the timer one down; the tick that takes it to 0 leaves MUTE, and no earlier one
does (R66, R75, R104, R169). -/
def Obligations.MuteEndsInListening : Prop :=
  (∀ s : State, s.member.state = .mute → ∃ t, exec .muteTimerExpiry s = .next t ∧
      t.member = { s.member with
        state := .listening, beaconsHeard := 0, authHeard := false, beaconTimer := .counting 0, muteTimer := 0 } ∧
      t.line = { s.line with activity := .counting, idleCount := 0, courtesyGap := false } ∧
      t = { s with member := t.member, line := t.line, claims := t.claims, channels := t.channels } ∧
      ∀ n, s.channelState n ≠ .off → t.channel n = s.channel n) ∧
    (∀ c : Settings, c.mutePeriod = 64 * (c.lease * c.period + 2)) ∧
    ∀ (s : State) (k : Nat), s.member.state = .mute → s.member.muteTimer = k + 1 →
      (∀ j, j ≤ k → (State.tick^[j] s).member = { s.member with muteTimer := k + 1 - j }) ∧
        (State.tick^[k + 1] s).member = { s.member with
          state := .listening, beaconsHeard := 0, authHeard := false, beaconTimer := .counting 0, muteTimer := 0 } ∧
        (State.tick^[k + 1] s).line.activity = .counting ∧ (State.tick^[k + 1] s).line.idleCount = 0 ∧
        (State.tick^[k + 1] s).line.courtesyGap = false

/-- The beacon timer of a station on the line expires after 64 × T + ID ticks of the station and not before: a BEACON
offer is placed and the timer stands expired; the command BEACON_TIMER_EXPIRY does the same, whatever the count (DESIGN
CHOICE, log entry 6) (R56, R104). -/
def Obligations.BeaconTimerPlacesTheOffer : Prop :=
  (∀ (s : State) (k : Nat), s.member.state.online = true → s.member.beaconTimer = .counting k →
      exec .beaconTimerExpiry s =
        .next { s with
          member := { s.member with beaconTimer := .expired }
          line := { s.line with offers := { s.line.offers with beacon := true } } }) ∧
    ∀ (s : State) (p : Nat), s.member.state.online = true → s.member.beaconTimer = .counting 0 →
      p = 64 * s.settings.period + s.settings.stationId → 0 < p →
      (∀ k, k < p →
        (State.tick^[k] s).member = { s.member with beaconTimer := .counting k } ∧
          (State.tick^[k] s).line.offers.beacon = s.line.offers.beacon) ∧
        (State.tick^[p] s).member = { s.member with beaconTimer := .expired } ∧
        (State.tick^[p] s).line.offers.beacon = true

/-! ## Acceptance -/

/-- A station in LOADING, MUTE or HALTED applies no accepted frame (R7, R54, R78, R185). -/
def Obligations.FramesPassAnOfflineStation : Prop :=
  ∀ (c : Instr) (f : Frame) (s : State), acceptedFrame c = some f → s.member.state.online = false →
    exec c s = .next s

/-- An accepted correct frame of any kind that carries the own station ID and is not the station's own halts the station
with DUPLICATE-ID: it is applied to no block, the outstanding claim ends with its demand back in the queue, its channel
OFF and every other channel, entry and rest as it was, the offer set is emptied, every output goes inactive, and the
table, the masks, the epoch and the command queue stand; no rest begins (DESIGN CHOICE, log entry 25) (R34, R53, R77,
R78, R100). -/
def Obligations.DuplicateIdHalts : Prop :=
  ∀ (c : Instr) (f : Frame) (s : State), acceptedFrame c = some f → s.member.state.online = true →
    s.line.activity = .receiving → f.raw.defective = false → f.source.toNat = s.ownId →
    ∃ t, exec c s = .next t ∧ t.member.state = .halted ∧ t.member.beaconTimer = .stopped ∧
      t.report.faults.duplicateId = true ∧ t.report.blink = 0 ∧ t.line.offers = OfferSet.empty ∧
      t.line.activity = .apart ∧ t.claims.outstanding = none ∧
      (∀ o, s.claims.outstanding = some o →
        t.channel o.channel = { s.channel o.channel with state := .off } ∧
          (∀ n, n ≠ o.channel → t.channel n = s.channel n) ∧
          t.claims.queue.Perm (o.entry false :: s.claims.queue) ∧
          t.claims.enqueueCount = s.claims.enqueueCount ∧
          (s.queueInv → t.claims.queue.Pairwise fun a b => a.before b = true)) ∧
      (s.claims.outstanding = none → t.claims = s.claims ∧ t.channels = s.channels) ∧
      (∀ n, t.outputActive n = false) ∧ t.member = { s.member with state := .halted, beaconTimer := .stopped } ∧
      t = { s with
        claims := t.claims, channels := t.channels, member := t.member, line := t.line, report := t.report }

/-- The accepted correct frames of other stations that no block applies have their line effects alone, and their counts:
a source ID of 0 or 63 no count, a foreign profile tag the foreign-profile count alone, whatever the kind (DESIGN
CHOICE, log entry 26), with PROFILE-CLASH from 16 on, an undefined kind the undefined-kind count; and a REPORT has line
effects alone (R150, R151, R153, R177, R199). -/
def Obligations.UnappliedFramesHaveLineEffectsOnly : Prop :=
  ∀ (c : Instr) (f : Frame) (s : State), acceptedFrame c = some f → s.hears f →
    let line : LineInterface :=
      { s.line with activity := .counting, idleCount := 0, buffer := f.bits ++ [true], vetoStreak := 0 }
    ((f.source = 0 ∨ f.source = 63) → exec c s = .next { s with line := line }) ∧
    (f.source ≠ 0 → f.source ≠ 63 → f.tag ≠ s.settings.tag →
      exec c s =
        .next { s with
          line := line
          report := { s.report with
            counters := { s.report.counters with
              foreignProfile := min 255 (s.report.counters.foreignProfile + 1) }
            faults := { s.report.faults with
              profileClash := s.report.faults.profileClash ||
                decide (16 ≤ min 255 (s.report.counters.foreignProfile + 1)) } } }) ∧
    (s.ofProfile f →
      (∀ head kind payload, c = .undefinedKindAccepted head kind payload →
        exec c s =
          .next { s with
            line := line
            report := { s.report with counters := { s.report.counters with
              undefinedKind := min 255 (s.report.counters.undefinedKind + 1) } } }) ∧
      ∀ head payload, c = .reportAccepted head payload → exec c s = .next { s with line := line })

/-- The acceptance of a frame of the station's own ends the attempt accepted: both streaks return to 0, the courtesy-gap
flag is set and the idle count starts; the buffer ends with the veto slot, read '1'. Its offer ends: a BEACON, RENEW or
REPORT offer is gone, a CLAIM offer that stands is that of a fresh claim, and the head leaves the command queue, the
next command becoming head with no attempt counted. An own RELEASE of a STOPPING channel takes that channel out of
STOPPING, ends the offer, and removes the record it names. An own BEACON makes the carried epoch the epoch, restarts the
beacon timer and leaves the calendar and the masks; in SYNCED it leaves the witness record, and in LISTENING it counts
toward the join. The attempt counts of an emptied command queue and of an ended REPORT offer are 0 (DESIGN CHOICE, log
entry 27) (R16, R59 (1), R60, R67 to R70, R86 (1), R108, R141 (3), R169, R178, R179, R183). -/
def Obligations.OwnAcceptanceEndsTheAttempt : Prop :=
  ∀ (c : Instr) (f : Frame) (o : Offer) (s : State), acceptedFrame c = some f → s.member.state.online = true →
    s.line.activity = .transmitting o f →
    ∃ t, exec c s = .next t ∧ t.line.sendStreak = 0 ∧ t.line.vetoStreak = 0 ∧ t.line.courtesyGap = true ∧
      t.line.activity = .counting ∧ t.line.idleCount = 0 ∧ t.line.buffer = f.bits ++ [true] ∧
      t = { s with
        table := t.table, claims := t.claims, member := t.member, channels := t.channels, masks := t.masks
        calendar := t.calendar, lastMinute := t.lastMinute, commands := t.commands, line := t.line
        report := t.report } ∧
      (o = .beacon → t.line.offers.beacon = false) ∧ (o = .renew → f.kind = kindRenew → t.line.offers.renew = false) ∧
      (o = .report → f.kind = kindReport → t.line.offers.report = false ∧ t.report.attempts = 0) ∧
      (o = .command → t.commands = { queue := s.commands.queue.tail, headAttempts := 0 } ∧
        t.line.offers.command = !s.commands.queue.tail.isEmpty) ∧
      (o = .claim → f.kind = kindClaim → t.line.offers.claim = true →
        ∃ c', t.claims.outstanding = some c' ∧ c'.attempts = 0 ∧ c'.inFlight = false ∧ c'.stopNote = false) ∧
      (∀ n, o = .release n → f.kind = kindRelease → f.payload = releasePayload n → s.ofProfile f →
        s.channelState n = .stopping →
        t.channelState n ≠ .stopping ∧ t.line.offers.releases[n] = false ∧
          findHolding f.source.toNat n t.table = none) ∧
      ∀ head p, o = .beacon → c = .beaconAccepted head p → s.ofProfile f →
        let heard := s.member.beaconsHeard + 1
        let completes := s.member.authHeard = false ∧ heard = s.settings.lease
        t.member.epoch = (beaconFields p).epoch ∧ t.member.beaconTimer = .counting 0 ∧
          t.line.offers.beacon = false ∧ t.calendar = s.calendar ∧ t.lastMinute = s.lastMinute ∧ t.masks = s.masks ∧
          (s.member.state = .synced →
            t.member = { s.member with epoch := (beaconFields p).epoch, beaconTimer := .counting 0 } ∧
              t.report = s.report ∧
              t.table = (promotionCheck s.settings.budget (liveRecords (ageTable s.table))).1) ∧
          (s.member.state = .listening → completes →
            t.member.state = .synced ∧ t.member.witness = none ∧ t.member.joinRetries = 0 ∧
              t.report.faults.joinStalled = false ∧ t.table = liveRecords (ageTable s.table)) ∧
          (s.member.state = .listening → ¬ completes → 2 * s.settings.lease ≤ heard →
            t.member.state = .listening ∧ t.table = [] ∧ t.member.beaconsHeard = 0 ∧ t.member.authHeard = false ∧
              t.member.joinRetries = s.member.joinRetries + 1 ∧
              (t.report.faults.joinStalled = true ↔
                s.report.faults.joinStalled = true ∨ 3 ≤ s.member.joinRetries + 1)) ∧
          (s.member.state = .listening → ¬ completes → heard < 2 * s.settings.lease →
            t.member = { s.member with
              epoch := (beaconFields p).epoch, beaconTimer := .counting 0, beaconsHeard := heard } ∧
              t.report = s.report ∧ t.table = liveRecords (ageTable s.table))

/-! ## The holding table -/

/-- A CLAIM is evaluated by the first case of R12 that applies, where the displace flag takes effect only in an URGENT
claim while no PENDING record stands, and then decides by whether the free and the displaceable units together cover
the claim (R12, R13, R15). -/
def Obligations.ClaimIsEvaluatedByCases : Prop :=
  ∀ (budget lease : Nat) (t : List Holding) (h : Nat) (c : ChannelIx) (u : Nat) (p : Machine.Class) (d : Bool),
    let ev := evaluateClaim budget lease t h c u p d
    let absent := findHolding h c t = none
    let flag := d = true ∧ p = .urgent ∧ pendingPresent t = false
    (¬ absent → ev = { result := .duplicate, table := t, victims := [] }) ∧
    (absent → 48 ≤ t.length → ev = { result := .full, table := t, victims := [] }) ∧
    (absent → t.length < 48 → u ≤ freeUnits budget t →
      ev.result = .granted ∧ ev.victims = [] ∧
        ev.table = insertHolding
          { holder := h, channel := c, units := u, cls := p, state := .held, lease := lease } t ∧
        reservedUnits ev.table = reservedUnits t + u ∧ reservedCount ev.table = reservedCount t + 1 ∧
        onUnitsSum ev.table = onUnitsSum t + u ∧ ev.table.length = t.length + 1) ∧
    (absent → t.length < 48 → freeUnits budget t < u →
      (flag → u ≤ freeUnits budget t + displaceableUnits t → ev.result = .displacing) ∧
      (¬ (flag ∧ u ≤ freeUnits budget t + displaceableUnits t) →
        ev = { result := .noBudget, table := t, victims := [] })) ∧
    (reservedUnits t ≤ budget → budget < u → ev.result ≠ .granted ∧ ev.result ≠ .displacing)

/-- The victims of a displacement are taken from the HELD records of class HIGH, NORMAL or LOW, the claimer's own like
any other, lowest class first, then higher holder, then higher channel; their units are the displaceable units (R14). -/
def Obligations.VictimOrderIsR14 : Prop :=
  ∀ t : List Holding, tableOrdered t →
    (∀ r, r ∈ victimOrder t ↔ r ∈ t ∧ r.state = .held ∧ (r.cls = .high ∨ r.cls = .normal ∨ r.cls = .low)) ∧
    (victimOrder t).Pairwise (fun a b =>
      b.cls.number < a.cls.number ∨
        (a.cls = b.cls ∧ (b.holder < a.holder ∨ (a.holder = b.holder ∧ b.channel < a.channel)))) ∧
    ((victimOrder t).map Holding.units).sum = displaceableUnits t

/-- A DISPLACING evaluation marks the shortest prefix of the victim order whose units and the free units reach the
claim, and no other record; each victim keeps its units, class and lease, the claim's record stands PENDING and URGENT
with lease L, on-units do not change, and the reserved units stay within B (R15). -/
def Obligations.DisplacementMarksTheShortestPrefix : Prop :=
  ∀ (budget lease : Nat) (t : List Holding) (h : Nat) (c : ChannelIx) (u : Nat) (p : Machine.Class) (d : Bool),
    tableOrdered t → reservedUnits t ≤ budget →
    let ev := evaluateClaim budget lease t h c u p d
    ev.result = .displacing →
    ∃ vs, vs <+: victimOrder t ∧ vs ≠ [] ∧ ev.victims = vs.map Holding.key ∧
      u ≤ freeUnits budget t + (vs.map Holding.units).sum ∧
      (∀ k, k < vs.length → freeUnits budget t + ((vs.take k).map Holding.units).sum < u) ∧
      findHolding h c ev.table =
        some { holder := h, channel := c, units := u, cls := .urgent, state := .pending, lease := lease } ∧
      (∀ r ∈ t, (r ∈ vs → { r with state := .shedding } ∈ ev.table) ∧ (r ∉ vs → r ∈ ev.table)) ∧
      ev.table.length = t.length + 1 ∧ onUnitsSum ev.table = onUnitsSum t ∧
      sheddingCount ev.table = sheddingCount t + vs.length ∧ reservedUnits ev.table ≤ budget ∧
      pendingPresent ev.table = true

/-- Another station's CLAIM is evaluated at a SYNCED station, if its units byte is in 1..250, and nothing is handed on
but the sheds: an own ON channel whose record is a victim enters STOPPING, its RELEASE offered, its rest begun, its
demand requeued with HOLD clear; an OFF one enters STOPPING, its RELEASE offered, its queue entry kept; and one that is
CLAIMING, PENDING or STOPPING stands. A LISTENING station, or a units byte of 0 or 251..255, leaves all but the line as
it was (R7, R10, R12, R85, R87, R156). -/
def Obligations.ForeignClaimIsApplied : Prop :=
  ∀ (head : FrameHead) (p : Vector Byte 2) (s : State),
    let f := frameOf head kindClaim p.toList
    let ev := evaluateClaim s.settings.budget s.settings.lease s.table head.source.toNat (channelLow p[0]) p[1].toNat
      (Machine.Class.ofBits head.cls) (p[0].getLsbD 7)
    s.hears f → s.ofProfile f →
    (s.member.state = .listening ∨ p[1].toNat = 0 ∨ 250 < p[1].toNat →
      exec (.claimAccepted head p) s =
        .next { s with line := { s.line with
          activity := .counting, idleCount := 0, buffer := f.bits ++ [true], vetoStreak := 0 } }) ∧
    (s.member.state = .synced → 1 ≤ p[1].toNat → p[1].toNat ≤ 250 →
      ∃ t, exec (.claimAccepted head p) s = .next t ∧ t.table = ev.table ∧
        t = { s with table := t.table, claims := t.claims, channels := t.channels, line := t.line } ∧
        (∀ n, (s.ownId, n) ∉ ev.victims → s.channelState n ≠ .off → t.channel n = s.channel n) ∧
        ∀ n demand, (s.ownId, n) ∈ ev.victims → s.exempt n = false → s.channelState n = .switchedOn demand →
          t.channelState n = .stopping ∧ t.line.offers.releases[n] = true ∧ t.outputActive n = false ∧
          ((s.channelSettings n).rest ≠ 0 → (t.channel n).rest = (s.channelSettings n).rest * 64) ∧
          (s.entryOf n = none → demand.allowance ≠ some 0 →
            ∃ e, t.entryOf n = some e ∧ e.cls = demand.cls ∧ e.allowance = demand.allowance ∧ e.hold = false)) ∧
    (s.member.state = .synced → 1 ≤ p[1].toNat → p[1].toNat ≤ 250 →
      ∃ t, exec (.claimAccepted head p) s = .next t ∧
        ∀ n, (s.ownId, n) ∈ ev.victims → s.exempt n = false →
          (s.channelState n = .off →
            t.channel n = { s.channel n with state := .stopping } ∧ t.line.offers.releases[n] = true ∧
              ((t.entryOf n).map fun e => (e.cls, e.allowance, e.hold)) =
                (s.entryOf n).map fun e => (e.cls, e.allowance, e.hold)) ∧
          (s.channelState n = .claiming ∨ s.channelState n = .stopping ∨ (∃ d, s.channelState n = .pending d) →
            t.channel n = s.channel n))

/-- The acceptance of the own CLAIM settles the outstanding claim by its result: GRANTED takes the channel ON under its
HELD record with the allowance capped at its max run, DISPLACING takes it PENDING; with a stop note the channel goes to
STOPPING with its RELEASE offered and its demand dropped, and while inhibited the same with the demand requeued. A
DISPLACING one may take own records as victims: an own ON victim enters STOPPING with its RELEASE offered, its rest
begun and its demand requeued with HOLD clear, an OFF one enters STOPPING with its RELEASE offered and its entry kept,
and a PENDING or STOPPING one stands (R15, R48, R52, R83, R85, R87, R89, R92). -/
def Obligations.OwnClaimAdmittedMovesTheChannel : Prop :=
  ∀ (head : FrameHead) (p : Vector Byte 2) (s : State) (c : OutstandingClaim),
    let f := frameOf head kindClaim p.toList
    let ev := evaluateClaim s.settings.budget s.settings.lease s.table head.source.toNat (channelLow p[0]) p[1].toNat
      (Machine.Class.ofBits head.cls) (p[0].getLsbD 7)
    s.queueInv → s.member.state = .synced → s.line.activity = .transmitting .claim f → s.ofProfile f →
    head.source.toNat = s.ownId → s.claims.outstanding = some c → channelLow p[0] = c.channel →
    1 ≤ p[1].toNat → p[1].toNat ≤ 250 → ev.result = .granted ∨ ev.result = .displacing →
    ∃ t, exec (.claimAccepted head p) s = .next t ∧ t.table = ev.table ∧
      t = { s with table := t.table, claims := t.claims, channels := t.channels, line := t.line } ∧
      (∀ n, n ≠ c.channel → (s.ownId, n) ∉ ev.victims → s.channelState n ≠ .off → t.channel n = s.channel n) ∧
      (c.stopNote = false → s.inhibited c.channel = false →
        (ev.result = .granted →
          t.channelState c.channel =
              .switchedOn { cls := c.cls, allowance := capped (s.channelSettings c.channel).maxRun c.allowance } ∧
            t.holdsFor c.channel) ∧
        (ev.result = .displacing →
          t.channelState c.channel = .pending { cls := c.cls, allowance := c.allowance })) ∧
      (c.stopNote = true →
        t.channelState c.channel = .stopping ∧ t.line.offers.releases[c.channel] = true ∧
          t.entryOf c.channel = none ∧ t.channel c.channel = { s.channel c.channel with state := .stopping }) ∧
      (c.stopNote = false → s.inhibited c.channel = true → c.allowance ≠ some 0 →
        t.channelState c.channel = .stopping ∧ t.line.offers.releases[c.channel] = true ∧
          ∃ e, t.entryOf c.channel = some e ∧ e.cls = c.cls ∧ e.allowance = c.allowance ∧ e.hold = false) ∧
      ∀ n, (s.ownId, n) ∈ ev.victims → s.exempt n = false →
        n ≠ c.channel ∧
        (∀ demand, s.channelState n = .switchedOn demand →
          t.channelState n = .stopping ∧ t.line.offers.releases[n] = true ∧ t.outputActive n = false ∧
            (t.channel n).rest =
              (if (s.channelSettings n).rest = 0 then (s.channel n).rest else (s.channelSettings n).rest * 64) ∧
            (demand.allowance ≠ some 0 → t.holdsEntry n demand) ∧
            (demand.allowance = some 0 → t.entryOf n = none)) ∧
        (s.channelState n = .off →
          t.channel n = { s.channel n with state := .stopping } ∧ t.line.offers.releases[n] = true ∧
            ((t.entryOf n).map fun e => (e.cls, e.allowance, e.hold)) =
              (s.entryOf n).map fun e => (e.cls, e.allowance, e.hold)) ∧
        (s.channelState n = .stopping ∨ (∃ d, s.channelState n = .pending d) → t.channel n = s.channel n)

/-- An own CLAIM refused NO_BUDGET or FULL raises claims-voided, one refused DUPLICATE raises nothing; the channel goes
OFF and the demand returns with its enqueue number and HOLD set, or is dropped with a stop note; no RELEASE is offered
(R48, R49, R52 (3)). -/
def Obligations.OwnClaimRefusedWaitsHeld : Prop :=
  ∀ (head : FrameHead) (p : Vector Byte 2) (s : State) (c : OutstandingClaim),
    let f := frameOf head kindClaim p.toList
    let ev := evaluateClaim s.settings.budget s.settings.lease s.table head.source.toNat (channelLow p[0]) p[1].toNat
      (Machine.Class.ofBits head.cls) (p[0].getLsbD 7)
    s.queueInv → s.member.state = .synced → s.line.activity = .transmitting .claim f → s.ofProfile f →
    head.source.toNat = s.ownId → s.claims.outstanding = some c → channelLow p[0] = c.channel →
    1 ≤ p[1].toNat → p[1].toNat ≤ 250 → ev.result ≠ .granted → ev.result ≠ .displacing →
    ∃ t, exec (.claimAccepted head p) s = .next t ∧ t.channelState c.channel = .off ∧
      t = { s with claims := t.claims, channels := t.channels, line := t.line, report := t.report } ∧
      (∀ n, n ≠ c.channel → s.channelState n ≠ .off → t.channel n = s.channel n) ∧
      t.report.counters.claimsVoided =
        (if ev.result = .duplicate then s.report.counters.claimsVoided
        else min 255 (s.report.counters.claimsVoided + 1)) ∧
      (c.stopNote = false → c.entry true ∈ t.claims.queue) ∧
      (c.stopNote = true → t.entryOf c.channel = none) ∧ t.line.offers.releases = s.line.offers.releases

/-- Another station's RELEASE removes the record it names, clears every HOLD mark, and in SYNCED is followed by one
promotion check, in LISTENING by none; a RELEASE that names no record changes no table (R7, R11, R16, R24). -/
def Obligations.ReleaseRemovesTheRecord : Prop :=
  ∀ (head : FrameHead) (p : Vector Byte 1) (s : State),
    let f := frameOf head kindRelease p.toList
    let removed := removeHolding head.source.toNat (channelLow p[0]) s.table
    s.hears f → s.ofProfile f →
    ∃ t, exec (.releaseAccepted head p) s = .next t ∧
      t = { s with table := t.table, claims := t.claims, channels := t.channels, line := t.line } ∧
      (∀ n, s.channelState n ≠ .off → (∀ d, s.channelState n ≠ .pending d) → t.channel n = s.channel n) ∧
      (findHolding head.source.toNat (channelLow p[0]) s.table = none → t.table = s.table) ∧
      (findHolding head.source.toNat (channelLow p[0]) s.table ≠ none →
        (∀ e ∈ t.claims.queue, e.hold = false) ∧ (s.member.state = .listening → t.table = removed) ∧
        (s.member.state = .synced → t.table = (promotionCheck s.settings.budget removed).1 ∧
          ∀ r demand, (promotionCheck s.settings.budget removed).2 = some r → r.holder = s.ownId →
            s.exempt r.channel = false → s.channelState r.channel = .pending demand →
            t.channelState r.channel = .switchedOn
              { demand with allowance := capped (s.channelSettings r.channel).maxRun demand.allowance }))

/-- The promotion check passes when on-units and the PENDING record's units are not more than B: the record becomes
HELD with its units, class and lease, reserved units and count do not change, on-units rise by its units and no PENDING
record is left. Once the last SHEDDING record has left, the check passes (R24, R25). -/
def Obligations.PromotionFollowsTheLastVictim : Prop :=
  ∀ (budget lease : Nat) (t : List Holding) (r : Holding), tableSound budget lease t → pendingRecord t = some r →
    (onUnitsSum t + r.units ≤ budget →
      (promotionCheck budget t).2 = some r ∧
        findHolding r.holder r.channel (promotionCheck budget t).1 = some { r with state := .held } ∧
        reservedUnits (promotionCheck budget t).1 = reservedUnits t ∧
        reservedCount (promotionCheck budget t).1 = reservedCount t ∧
        onUnitsSum (promotionCheck budget t).1 = onUnitsSum t + r.units ∧
        pendingPresent (promotionCheck budget t).1 = false) ∧
    (budget < onUnitsSum t + r.units → promotionCheck budget t = (t, none)) ∧
    (sheddingCount t = 0 → onUnitsSum t + r.units ≤ budget)

/-- A RENEW's entries with units in 1..250 are applied in frame order, at the receivers and at the sender, and change no
block but the table: in SYNCED an entry sets the lease of a record that matches in units and class to L and nothing
else; in LISTENING it writes the record of its key, unless a check of R19 skips it. An entry is two bytes: the channel
in bits 7..5 of the first, the class in bits 4..3, the PENDING flag in bit 2, and the units in the second (R7, R17, R18,
R19, R157). -/
def Obligations.RenewWritesLeasesOrLearns : Prop :=
  (∀ payload : List Byte,
    usableEntries payload = (renewEntries payload).filter (fun e => decide (1 ≤ e.units ∧ e.units ≤ 250)) ∧
      (renewEntries payload).length = payload.length / 2 ∧
      ∀ (k : Nat) (e : RenewEntry), (renewEntries payload)[k]? = some e →
        ∃ first second, payload[2 * k]? = some first ∧ payload[2 * k + 1]? = some second ∧
          e.channel.val = first.toNat / 32 ∧ e.cls.number = first.toNat / 8 % 4 ∧
          (e.pending = true ↔ first.toNat / 4 % 2 = 1) ∧ e.units = second.toNat) ∧
  (∀ (head : FrameHead) (payload : List Byte) (s : State), s.flightSound →
      s.takesPart (frameOf head kindRenew payload) → s.ofProfile (frameOf head kindRenew payload) →
      ∃ t, exec (.renewAccepted head payload) s = .next t ∧
        t.table = (usableEntries payload).foldl
          (if s.member.state = .synced then renewMatching s.settings.lease head.source.toNat
          else renewLearning s.settings.budget s.settings.lease head.source.toNat) s.table ∧
        t = { s with table := t.table, claims := t.claims, channels := t.channels, line := t.line } ∧
        ∀ n, s.channelState n ≠ .off → t.channel n = s.channel n) ∧
    (∀ (lease h : Nat) (t : List Holding) (e : RenewEntry),
      (renewMatching lease h t e).length = t.length ∧
      ∀ (i : Nat) (r : Holding), t[i]? = some r →
        (renewMatching lease h t e)[i]? =
          some (if r.holder = h ∧ r.channel = e.channel ∧ r.units = e.units ∧ r.cls = e.cls then
            { r with lease := lease } else r)) ∧
    ∀ (budget lease h : Nat) (t : List Holding) (e : RenewEntry), tableOrdered t →
      let others := removeHolding h e.channel t
      let skipped := (findHolding h e.channel t = none ∧ 48 ≤ t.length) ∨
        budget < reservedUnits others + e.units ∨ (e.pending = true ∧ pendingPresent others = true)
      (skipped → renewLearning budget lease h t e = t) ∧
      (¬ skipped →
        findHolding h e.channel (renewLearning budget lease h t e) =
            some { holder := h, channel := e.channel, units := e.units, cls := e.cls,
                   state := if e.pending then .pending else .held, lease := lease } ∧
          tableOrdered (renewLearning budget lease h t e) ∧
          ∀ h' c', (h' ≠ h ∨ c' ≠ e.channel) →
            findHolding h' c' (renewLearning budget lease h t e) = findHolding h' c' t)

/-! ## Beacons -/

/-- Another station's BEACON applied in SYNCED without a confirmed divergence: every lease falls by one, the records
that reach 0 leave and the promotion check follows; the epoch becomes own + 1; the beacon timer restarts and the BEACON
offer is withdrawn; an authoritative beacon empties the witness record at a match and counts its sender at a mismatch,
and a non-authoritative one leaves it. The own channels take their events: an ON or PENDING channel whose record has
expired hands its demand back without a RELEASE, a STOPPING one goes OFF, and a promoted PENDING one goes ON. A RENEW
offer stands when an own HELD or PENDING record has a lease of L/2 or less, and none when there is no such record. A
beacon with valid time in range adjusts the calendar, its phase untouched; that the calendar's part and the minute event
that follows it come last is the model's choice, since R60 gives them no order (DESIGN CHOICE, log entry 12). Ageing
lowers each lease by one and keeps the rest of each record; the records then at 0, and they alone, are the expired ones;
and the digest's four table fields are the reserved count, the reserved units, the shedding count and pending-present
(R5, R21, R56, R57, R59 (3), R60, R62, R71, R84, R85, R86 (2), R108, R109, R113). -/
def Obligations.BeaconInSyncedAgesAndCounts : Prop :=
  (∀ t : List Holding,
    (ageTable t).length = t.length ∧
    (∀ (i : Nat) (r : Holding), t[i]? = some r → (ageTable t)[i]? = some { r with lease := r.lease - 1 }) ∧
    (liveRecords t).Sublist t ∧ (expiredRecords t).Sublist t ∧
    (liveRecords t).length + (expiredRecords t).length = t.length ∧
    (∀ r, r ∈ liveRecords t ↔ r ∈ t ∧ r.lease ≠ 0) ∧ (∀ r, r ∈ expiredRecords t ↔ r ∈ t ∧ r.lease = 0) ∧
    (tableDigest t).count = t.countP (fun r => decide (r.state ≠ .shedding)) ∧
    (tableDigest t).units = ((t.filter fun r => decide (r.state ≠ .shedding)).map Holding.units).sum ∧
    (tableDigest t).shedding = t.countP (fun r => decide (r.state = .shedding)) ∧
    ((tableDigest t).pending = true ↔ ∃ r ∈ t, r.state = .pending)) ∧
  ∀ (head : FrameHead) (p : Vector Byte 14) (s : State),
    let f := frameOf head kindBeacon p.toList
    let b := beaconFields p
    let agrees := s.member.epoch + 1 = b.epoch ∧ tableDigest s.table = b.digest ∧ s.masks.line = b.mask
    let gone := expiredRecords (ageTable s.table)
    let checked := promotionCheck s.settings.budget (liveRecords (ageTable s.table))
    s.hears f → s.ofProfile f → s.member.state = .synced →
    (b.authoritative = true → ¬ agrees →
      s.member.witness = none ∨ ∃ k, s.member.witness = some { sender := head.source.toNat, count := k } ∧ k + 1 < 4) →
    ∃ t u, exec (.beaconAccepted head p) s = .next t ∧ t.member.state = .synced ∧
      t.table = checked.1 ∧
      t.member.epoch = s.member.epoch + 1 ∧ t.member.beaconTimer = .counting 0 ∧ t.line.offers.beacon = false ∧
      t.masks.line = s.masks.line ∧ t.report.faults.diverged = s.report.faults.diverged ∧
      (b.timeValid = false →
        t.calendar = s.calendar ∧ t.lastMinute = s.lastMinute ∧ t.report = s.report ∧ t.masks = s.masks) ∧
      t = { s with
        table := t.table, claims := t.claims, member := t.member, channels := t.channels, masks := t.masks
        calendar := t.calendar, lastMinute := t.lastMinute, line := t.line, report := t.report } ∧
      (b.authoritative = false → t.member.witness = s.member.witness) ∧
      (b.authoritative = true → agrees → t.member.witness = none) ∧
      (b.authoritative = true → ¬ agrees → s.member.witness = none →
        t.member.witness = some { sender := head.source.toNat, count := 1 }) ∧
      (∀ k, b.authoritative = true → ¬ agrees →
        s.member.witness = some { sender := head.source.toNat, count := k } →
        t.member.witness = some { sender := head.source.toNat, count := k + 1 }) ∧
      -- `u` is the station before the calendar's part (log entry 12)
      u = { s with table := u.table, claims := u.claims, member := u.member, channels := u.channels, line := u.line } ∧
      u.table = t.table ∧ u.member = t.member ∧
      ((∃ r ∈ u.table, r.holder = s.ownId ∧ r.state ≠ .shedding ∧ r.lease ≤ s.settings.lease / 2) →
        u.line.offers.renew = true) ∧
      ((∀ r ∈ u.table, r.holder = s.ownId → r.state = .shedding) → u.line.offers.renew = false) ∧
      ((∃ r ∈ u.table, r.holder = s.ownId ∧ r.state ≠ .shedding) →
        (∀ r ∈ u.table, r.holder = s.ownId → r.state ≠ .shedding → s.settings.lease / 2 < r.lease) →
        u.line.offers.renew = s.line.offers.renew) ∧
      (∀ n, (∀ r ∈ gone, r.holder = s.ownId → r.channel ≠ n) →
        (∀ r, checked.2 = some r → r.holder = s.ownId → r.channel ≠ n) → s.channelState n ≠ .off →
        u.channel n = s.channel n) ∧
      (s.queueInv → tableOrdered s.table →
        (∀ r ∈ gone, r.holder = s.ownId → s.exempt r.channel = false →
          (∀ demand, s.channelState r.channel = .switchedOn demand →
            u.line.offers.releases[r.channel] = s.line.offers.releases[r.channel] ∧
              (demand.allowance ≠ some 0 → u.handedBack r.channel demand) ∧
              ((s.channelSettings r.channel).rest ≠ 0 → u.channelState r.channel = .off ∧
                (u.channel r.channel).rest = (s.channelSettings r.channel).rest * 64)) ∧
          (∀ demand, s.channelState r.channel = .pending demand →
            u.line.offers.releases[r.channel] = s.line.offers.releases[r.channel] ∧
              (u.channel r.channel).rest = (s.channel r.channel).rest ∧
              (demand.allowance ≠ some 0 → u.handedBack r.channel demand)) ∧
          (s.channelState r.channel = .stopping →
            (u.channelState r.channel = .off ∨ u.channelState r.channel = .claiming) ∧
              u.line.offers.releases[r.channel] = false)) ∧
        ∀ r demand, checked.2 = some r → r.holder = s.ownId → s.exempt r.channel = false →
          s.channelState r.channel = .pending demand →
          u.channelState r.channel = .switchedOn
            { demand with allowance := capped (s.channelSettings r.channel).maxRun demand.allowance }) ∧
      (b.timeValid = false ∨ b.time.inRange = false → t = u) ∧
      (b.timeValid = true → b.time.inRange = true → s.timeInv →
        (fractionPosition t.calendar.value : Int) =
            ((fractionPosition s.calendar.value : Int) + (fractionPosition b.time - s.calendar.sofPosition)) %
              201968640000 ∧
          t.calendar = { s.calendar with value := t.calendar.value, valid := true } ∧
          (s.calendar.valid = false →
            t = { u with
              calendar := t.calendar, lastMinute := some (minuteNumber t.calendar.value)
              report := { s.report with faults := { s.report.faults with timeInvalid := false } } }) ∧
          (s.calendar.valid = true → minuteNumber t.calendar.value = minuteNumber s.calendar.value →
            t = { u with calendar := t.calendar }) ∧
          (s.calendar.valid = true → minuteNumber t.calendar.value ≠ minuteNumber s.calendar.value →
            t = { u with calendar := t.calendar }.minuteEvent (minuteNumber t.calendar.value)))

/-- A mismatch at an authoritative beacon of another sender than the witness, or the witness's fourth, confirms
divergence: DIVERGED is latched, the table is cleared, no budgeted channel is left CLAIMING, PENDING or ON, any RENEW
offer goes, and the station enters LISTENING with its epoch one higher. Each budgeted channel goes by the table of R63,
where a record counts that the beacon's own expiry has left: an ON or PENDING channel goes to STOPPING with its RELEASE
offered and its demand requeued, a CLAIMING one to OFF with its demand returned and HOLD clear, an OFF one with an own
record to STOPPING with its RELEASE offered; a channel whose record expired at the same beacon ends OFF without a
RELEASE. A beacon with valid time then adjusts the calendar; that this comes after the divergence is the model's choice,
since R60 gives it no order (DESIGN CHOICE, log entry 12) (R60, R62, R63, R66, R84, R85, R86 (2), R92, R108, R113). -/
def Obligations.DivergenceGivesUpTheTable : Prop :=
  ∀ (head : FrameHead) (p : Vector Byte 14) (s : State) (w : Witness),
    let f := frameOf head kindBeacon p.toList
    let b := beaconFields p
    let aged := ageTable s.table
    let expired (n : ChannelIx) : Prop := ∃ r ∈ expiredRecords aged, r.holder = s.ownId ∧ r.channel = n
    let recorded (n : ChannelIx) : Prop := ∃ r ∈ liveRecords aged, r.holder = s.ownId ∧ r.channel = n
    s.queueInv → s.hears f → s.ofProfile f → s.member.state = .synced → b.authoritative = true →
    ¬ (s.member.epoch + 1 = b.epoch ∧ tableDigest s.table = b.digest ∧ s.masks.line = b.mask) →
    s.member.witness = some w → (w.sender ≠ head.source.toNat ∨ 4 ≤ w.count + 1) →
    ∃ t u, exec (.beaconAccepted head p) s = .next t ∧ t.member.state = .listening ∧
      t.report.faults.diverged = true ∧ t.table = [] ∧ t.member.witness = none ∧ t.member.beaconsHeard = 0 ∧
      t.member.authHeard = false ∧ t.member.beaconTimer = .counting 0 ∧ t.member.epoch = s.member.epoch + 1 ∧
      t.line.offers.renew = false ∧ t.claims.outstanding = none ∧ (∀ e ∈ t.claims.queue, e.hold = false) ∧
      t = { s with
        table := t.table, claims := t.claims, member := t.member, channels := t.channels, masks := t.masks
        calendar := t.calendar, lastMinute := t.lastMinute, line := t.line, report := t.report } ∧
      (∀ n, s.exempt n = false →
        (t.channelState n = .off ∨ t.channelState n = .stopping) ∧
          ((s.channelState n).isOn = true → t.outputActive n = false)) ∧
      -- `u` is the station before the calendar's part (log entry 12)
      t = (if b.timeValid then u.adjustTime b.time false else u) ∧
      (∀ n, s.exempt n = true → s.channelState n ≠ .off → u.channel n = s.channel n) ∧
      ∀ n, s.exempt n = false → tableOrdered s.table →
        (∀ demand, s.channelState n = .switchedOn demand →
          ((s.channelSettings n).rest ≠ 0 → (u.channel n).rest = (s.channelSettings n).rest * 64) ∧
            (demand.allowance ≠ some 0 → u.holdsEntry n demand) ∧
            (¬ expired n → u.channelState n = .stopping ∧ u.line.offers.releases[n] = true) ∧
            (expired n →
              u.channelState n = .off ∧ u.line.offers.releases[n] = s.line.offers.releases[n])) ∧
        (∀ demand, s.channelState n = .pending demand →
          (u.channel n).rest = (s.channel n).rest ∧ (demand.allowance ≠ some 0 → u.holdsEntry n demand) ∧
            (¬ expired n → u.channelState n = .stopping ∧ u.line.offers.releases[n] = true) ∧
            (expired n →
              u.channelState n = .off ∧ u.line.offers.releases[n] = s.line.offers.releases[n])) ∧
        (∀ o, s.claims.outstanding = some o → o.channel = n →
          u.channel n = { s.channel n with state := .off } ∧
            u.holdsEntry n { cls := o.cls, allowance := o.allowance } ∧
            u.line.offers.releases[n] = s.line.offers.releases[n] ∧ u.line.offers.claim = false) ∧
        (s.channelState n = .stopping → ¬ expired n →
          u.channel n = s.channel n ∧ u.line.offers.releases[n] = s.line.offers.releases[n]) ∧
        (s.channelState n = .stopping → expired n →
          u.channel n = { s.channel n with state := .off } ∧ u.line.offers.releases[n] = false) ∧
        (s.channelState n = .off →
          (recorded n → u.channel n = { s.channel n with state := .stopping } ∧ u.line.offers.releases[n] = true) ∧
            (¬ recorded n →
              u.channel n = s.channel n ∧ u.line.offers.releases[n] = s.line.offers.releases[n]) ∧
            ((u.entryOf n).map fun e => (e.cls, e.allowance)) = (s.entryOf n).map fun e => (e.cls, e.allowance))

/-- A BEACON of another station applied in LISTENING: the epoch becomes the carried one, the count of beacons heard
rises, an authoritative one sets the flag and gives its mask; then the join completes by R68, or restarts at 2L beacons
with JOIN-STALLED at the third restart, or goes on. A STOPPING channel whose record has expired leaves STOPPING with its
RELEASE offer gone, a channel that the adopted mask inhibits goes off as at any inhibit, every other channel that is not
OFF stands, and an expiry or a restart clears every HOLD mark. A RENEW offer stands when an own HELD or PENDING record
has a lease of L/2 or less, and none when there is no such record. A beacon with valid time in range adjusts the
calendar, its phase untouched: the first adjustment gives the time-valid notice and runs nothing, a later one raises the
minute event of the minute it leads to when the minute number changes; that this part comes last is the model's choice,
since R60 gives it no order (DESIGN CHOICE, log entry 12) (R11, R21, R59 (2), R60, R67 to R71, R86 (2), R88, R95 (2),
R97, R108, R109, R113, R127). -/
def Obligations.BeaconInListeningJoins : Prop :=
  ∀ (head : FrameHead) (p : Vector Byte 14) (s : State),
    let f := frameOf head kindBeacon p.toList
    let b := beaconFields p
    let heard := s.member.beaconsHeard + 1
    let auth := b.authoritative = true ∨ s.member.authHeard = true
    let aged := ageTable s.table
    let expired (n : ChannelIx) : Prop :=
      ∃ r ∈ expiredRecords aged, r.holder = s.ownId ∧ r.channel = n ∧ s.exempt n = false
    let completes := s.settings.lease ≤ heard ∧
      ((b.authoritative = true ∧ tableDigest s.table = b.digest ∧ b.digest.shedding = 0 ∧ b.digest.pending = false) ∨
        (¬ auth ∧ heard = s.settings.lease))
    s.hears f → s.ofProfile f → s.member.state = .listening →
    ∃ t u, exec (.beaconAccepted head p) s = .next t ∧ t.member.epoch = b.epoch ∧
      t.member.beaconTimer = .counting 0 ∧ t.line.offers.beacon = false ∧
      t.masks.line = (if b.authoritative then b.mask else s.masks.line) ∧
      t = { s with
        table := t.table, claims := t.claims, member := t.member, channels := t.channels, masks := t.masks
        calendar := t.calendar, lastMinute := t.lastMinute, line := t.line, report := t.report } ∧
      (completes →
        t.member.state = .synced ∧ t.member.witness = none ∧ t.member.joinRetries = 0 ∧
          t.report.faults.joinStalled = false ∧ t.table = liveRecords aged) ∧
      (¬ completes → 2 * s.settings.lease ≤ heard →
        t.member.state = .listening ∧ t.table = [] ∧ t.member.beaconsHeard = 0 ∧ t.member.authHeard = false ∧
          t.member.joinRetries = s.member.joinRetries + 1 ∧
          (t.report.faults.joinStalled = true ↔
            s.report.faults.joinStalled = true ∨ 3 ≤ s.member.joinRetries + 1)) ∧
      (¬ completes → heard < 2 * s.settings.lease →
        t.member.state = .listening ∧ t.table = liveRecords aged ∧ t.member.beaconsHeard = heard ∧
          (t.member.authHeard = true ↔ auth) ∧ t.member.joinRetries = s.member.joinRetries ∧
          t.report.faults.joinStalled = s.report.faults.joinStalled) ∧
      -- `u` is the station before the calendar's part (log entry 12)
      u = { s with
        table := t.table, claims := u.claims, member := t.member, channels := u.channels
        masks := { s.masks with line := t.masks.line }, line := u.line
        report := { s.report with faults := { s.report.faults with joinStalled := t.report.faults.joinStalled } } } ∧
      ((expiredRecords aged ≠ [] ∨ (¬ completes ∧ 2 * s.settings.lease ≤ heard)) →
        ∀ e ∈ u.claims.queue, e.hold = false) ∧
      (∀ n, ¬ expired n → s.inhibited n = true ∨ u.inhibited n = false → s.channelState n ≠ .off →
        u.channel n = s.channel n) ∧
      (s.inhibitInv → ∀ n, u.inhibited n = true →
        u.channelState n = .off ∨ u.channelState n = .claiming ∨ u.channelState n = .stopping) ∧
      (s.queueInv → tableOrdered s.table → ∀ n,
        (expired n → s.channelState n = .stopping →
          (u.channelState n = .off ∨ u.channelState n = .claiming) ∧ (u.channel n).rest = (s.channel n).rest ∧
            u.line.offers.releases[n] = false) ∧
        (∀ demand, ¬ expired n → s.inhibited n = false → u.inhibited n = true →
          s.channelState n = .switchedOn demand →
          (u.channel n).rest =
              (if (s.channelSettings n).rest = 0 then (s.channel n).rest else (s.channelSettings n).rest * 64) ∧
            (s.exempt n = false → u.channelState n = .stopping ∧ u.line.offers.releases[n] = true) ∧
            (s.exempt n = true → u.channelState n = .off) ∧ (demand.allowance ≠ some 0 → u.holdsEntry n demand)) ∧
        (∀ demand, ¬ expired n → s.inhibited n = false → u.inhibited n = true → s.channelState n = .pending demand →
          u.channel n = { s.channel n with state := .stopping } ∧ u.line.offers.releases[n] = true ∧
            (demand.allowance ≠ some 0 → u.holdsEntry n demand)) ∧
        (s.exempt n = false → s.channelState n = .off ∨ s.channelState n = .stopping →
          ∀ e, s.entryOf n = some e →
            (∃ e', u.entryOf n = some e' ∧ e'.cls = e.cls ∧ e'.allowance = e.allowance) ∨
              u.claimsAfresh n { cls := e.cls, allowance := e.allowance })) ∧
      ((∃ r ∈ u.table, r.holder = s.ownId ∧ r.state ≠ .shedding ∧ r.lease ≤ s.settings.lease / 2) →
        u.line.offers.renew = true) ∧
      ((∀ r ∈ u.table, r.holder = s.ownId → r.state = .shedding) → u.line.offers.renew = false) ∧
      ((∃ r ∈ u.table, r.holder = s.ownId ∧ r.state ≠ .shedding) →
        (∀ r ∈ u.table, r.holder = s.ownId → r.state ≠ .shedding → s.settings.lease / 2 < r.lease) →
        u.line.offers.renew = s.line.offers.renew) ∧
      (b.timeValid = false ∨ b.time.inRange = false → t = u) ∧
      (b.timeValid = true → b.time.inRange = true → s.timeInv →
        (fractionPosition t.calendar.value : Int) =
            ((fractionPosition s.calendar.value : Int) + (fractionPosition b.time - s.calendar.sofPosition)) %
              201968640000 ∧
          t.calendar = { s.calendar with value := t.calendar.value, valid := true } ∧
          (s.calendar.valid = false →
            t = { u with
              calendar := t.calendar, lastMinute := some (minuteNumber t.calendar.value)
              report := { u.report with faults := { u.report.faults with timeInvalid := false } } }) ∧
          (s.calendar.valid = true → minuteNumber t.calendar.value = minuteNumber s.calendar.value →
            t = { u with calendar := t.calendar }) ∧
          (s.calendar.valid = true → minuteNumber t.calendar.value ≠ minuteNumber s.calendar.value →
            t = { u with calendar := t.calendar }.minuteEvent (minuteNumber t.calendar.value)))

/-! ## Inhibits, time, demands and queries -/

/-- An INHIBIT adds its set mask to the line inhibit mask and removes its clear mask, a group named in both ending in
the mask. Each channel that becomes inhibited goes by the table of R97: a budgeted ON channel to STOPPING with its
RELEASE offered, its rest begun and its demand requeued, a PENDING one to STOPPING with its RELEASE offered and its
demand requeued in full, an exempt ON one to OFF with its rest begun and its demand requeued, a CLAIMING one not in
flight to OFF with its demand returned and HOLD clear, and one in flight, a STOPPING or an OFF one not at all; and no
inhibited channel is left PENDING or ON. The sender of the INHIBIT applies it as every receiver does, its attempt ended
besides and its command gone from the queue (R51 (2), R52, R84, R85, R88, R91, R92, R95, R97, R141 (3), R147). -/
def Obligations.InhibitStopsItsGroups : Prop :=
  ∀ (head : FrameHead) (p : Vector Byte 2) (s : State),
    let f := frameOf head kindInhibit p.toList
    let heard := s.atAcceptance f
    s.flightSound → s.takesPart f → s.ofProfile f → s.inhibitInv →
    ∃ t, exec (.inhibitAccepted head p) s = .next t ∧
      t.masks = { s.masks with line := (s.masks.line &&& ~~~p[1]) ||| p[0] } ∧
      t = { heard with
        masks := t.masks, claims := t.claims, channels := t.channels
        line := { heard.line with offers := t.line.offers } } ∧
      t.line.offers = { heard.line.offers with
        releases := t.line.offers.releases, claim := t.line.offers.claim } ∧
      (∀ n, s.inhibited n = true ∨ t.inhibited n = false → s.channelState n ≠ .off → t.channel n = s.channel n) ∧
      (∀ n, t.inhibited n = true →
        t.channelState n = .off ∨ t.channelState n = .claiming ∨ t.channelState n = .stopping) ∧
      (∀ n demand, s.inhibited n = false → t.inhibited n = true → s.exempt n = false →
        s.channelState n = .switchedOn demand →
        t.channelState n = .stopping ∧ t.line.offers.releases[n] = true ∧
          (s.entryOf n = none → demand.allowance ≠ some 0 →
            ∃ e, t.entryOf n = some e ∧ e.cls = demand.cls ∧ e.allowance = demand.allowance ∧ e.hold = false)) ∧
      (s.queueInv → ∀ n, s.inhibited n = false → t.inhibited n = true →
        let rested := if (s.channelSettings n).rest = 0 then (s.channel n).rest else (s.channelSettings n).rest * 64
        (∀ demand, s.channelState n = .switchedOn demand →
          t.outputActive n = false ∧ (t.channel n).rest = rested ∧
            (s.exempt n = false → t.channelState n = .stopping ∧ t.line.offers.releases[n] = true) ∧
            (s.exempt n = true →
              t.channelState n = .off ∧ t.line.offers.releases[n] = s.line.offers.releases[n]) ∧
            (demand.allowance ≠ some 0 → t.holdsEntry n demand) ∧
            (demand.allowance = some 0 → t.entryOf n = none)) ∧
        (∀ demand, s.channelState n = .pending demand →
          t.channel n = { s.channel n with state := .stopping } ∧ t.line.offers.releases[n] = true ∧
            (demand.allowance ≠ some 0 → t.holdsEntry n demand)) ∧
        (∀ o, s.claims.outstanding = some o → o.channel = n →
          (o.inFlight = false →
            t.channel n = { s.channel n with state := .off } ∧
              t.holdsEntry n { cls := o.cls, allowance := o.allowance } ∧
              (s.claims.enqueueCount + 8 ≤ 65535 → o.entry false ∈ t.claims.queue) ∧
              (∀ o', t.claims.outstanding = some o' → o'.channel ≠ n)) ∧
          (o.inFlight = true →
            t.channel n = s.channel n ∧ t.line.offers.claim = s.line.offers.claim ∧
              (t.claims.outstanding.map fun c => { c with number := o.number }) = some o)) ∧
        (s.channelState n = .off ∨ s.channelState n = .stopping →
          t.channel n = s.channel n ∧ t.line.offers.releases[n] = s.line.offers.releases[n] ∧
            ((t.entryOf n).map fun e => (e.cls, e.allowance, e.hold)) =
              (s.entryOf n).map fun e => (e.cls, e.allowance, e.hold)))

/-- A TIMESET with fields in range moves the calendar by the carried position less the position at SOF, around the
cycle, restarts the phase and makes time valid; the first adjustment gives the time-valid notice and runs nothing, and a
later one raises the minute event of the minute it leads to when the minute number changes, and none when it does not;
the tick, the beacon and mute timers, the inputs and the table are left alone. One out of range has its line effects
alone (R104, R108 to R110, R113, R127, R158). -/
def Obligations.TimesetMovesTheCalendar : Prop :=
  ∀ (head : FrameHead) (p : Vector Byte 7) (s : State),
    let f := frameOf head kindTimeset p.toList
    let carried := calendarOfBytes p[0] p[1] p[2] p[3] p[4] p[5] p[6]
    let heard : State :=
      { s with
        line := { s.line with activity := .counting, idleCount := 0, buffer := f.bits ++ [true], vetoStreak := 0 } }
    s.hears f → s.ofProfile f →
    (carried.inRange = false → exec (.timesetAccepted head p) s = .next heard) ∧
    (carried.inRange = true → s.timeInv →
      ∃ t, exec (.timesetAccepted head p) s = .next t ∧
        (fractionPosition t.calendar.value : Int) =
          ((fractionPosition s.calendar.value : Int) + (fractionPosition carried - s.calendar.sofPosition)) %
            201968640000 ∧
        t.calendar.value.inRange = true ∧
        t.calendar = { s.calendar with value := t.calendar.value, phase := 0, valid := true } ∧
        t = { s with
          calendar := t.calendar, lastMinute := t.lastMinute, claims := t.claims, channels := t.channels
          masks := t.masks, line := t.line, report := t.report } ∧
        (s.calendar.valid = false →
          t = { heard with
            calendar := t.calendar, lastMinute := some (minuteNumber t.calendar.value)
            report := { s.report with faults := { s.report.faults with timeInvalid := false } } }) ∧
        (s.calendar.valid = true → minuteNumber t.calendar.value = minuteNumber s.calendar.value →
          t = { heard with calendar := t.calendar }) ∧
        (s.calendar.valid = true → minuteNumber t.calendar.value ≠ minuteNumber s.calendar.value →
          t = { heard with calendar := t.calendar }.minuteEvent (minuteNumber t.calendar.value)))

/-- A DEMAND for the own station, or for group 63 with an own channel in the group, is handed to the claim unit, group
by ascending channel number; one for another station, or with an action or a place out of range, has its line effects
alone. The sender of a DEMAND applies it as every receiver does, its attempt ended besides and its command gone from the
queue. A START for an OFF or STOPPING channel joins the queue with its class lowered to the ceiling, HOLD clear and the
next enqueue number, or merges into the channel's entry with the higher class and the longer allowance; an append that
takes the enqueue count past 65,535 renumbers the entries and the outstanding claim in the order of their old numbers,
the new entry last (DEDUCED, log entry 21); for a CLAIMING, PENDING or ON channel it extends the allowance. A STOP
removes the entry and takes a running budgeted channel to STOPPING with its RELEASE offered, its rest begun and its
demand dropped, a running exempt one to OFF, and withdraws a claim or notes the stop on one in flight. A TOGGLE is a
STOP for a channel that is CLAIMING, PENDING or ON or has an entry, and a START otherwise. The claim unit judges after
each. A class's number is 0 for URGENT to 3 for LOW; a duration of d seconds is an allowance of 64 d ticks, 0 an
indefinite one, which is the longest; and a max run of m seconds caps an allowance at 64 m ticks, 0 not at all (R31 to
R34, R36 to R39, R52, R85, R86, R88 to R90, R98, R141 (3), R143 to R146). -/
def Obligations.DemandStartsAndStops : Prop :=
  (Machine.Class.urgent.number = 0 ∧ Machine.Class.high.number = 1 ∧ Machine.Class.normal.number = 2 ∧
    Machine.Class.low.number = 3 ∧
    DemandAction.start.code = 1 ∧ DemandAction.stop.code = 2 ∧ DemandAction.toggle.code = 3 ∧
    (∀ b : BitVec 2, (Machine.Class.ofBits b).number = b.toNat) ∧
    (∀ ceiling cls : Machine.Class,
      (Machine.Class.lowered ceiling cls).number = max ceiling.number cls.number ∧
        (ceiling.higher cls).number = min ceiling.number cls.number) ∧
    allowanceOf 0 = none ∧ (∀ d, d ≠ 0 → allowanceOf d = some (64 * d)) ∧
    (∀ x y a, longer (some x) (some y) = some (max x y) ∧ longer none a = none ∧ longer a none = none) ∧
    ∀ m x a, capped 0 a = a ∧
      (m ≠ 0 → capped m none = some (64 * m) ∧ capped m (some x) = some (min x (64 * m)))) ∧
  (∀ (head : FrameHead) (p : Vector Byte 5) (s : State),
    let f := frameOf head kindDemand p.toList
    let duration := (word16 p[3] p[4]).toNat
    let heard := s.atAcceptance f
    s.flightSound → s.takesPart f → s.ofProfile f →
    ((p[0] ≠ 63 ∧ p[0].toNat ≠ s.ownId ∨ p[2].toNat = 0 ∨ 3 < p[2].toNat ∨ 7 < p[1].toNat) →
      exec (.demandAccepted head p) s = .next heard) ∧
    ∀ (n : ChannelIx) (a : DemandAction), p[1].toNat = n.val → p[2] = a.code →
      (p[0] ≠ 63 → p[0].toNat = s.ownId →
        exec (.demandAccepted head p) s = .next (heard.act a n (Machine.Class.ofBits head.cls) duration)) ∧
      (p[0] = 63 →
        exec (.demandAccepted head p) s =
          .next ([0, 1, 2, 3, 4, 5, 6, 7].foldl
            (fun t m =>
              if (s.channelSettings m).group = some n then t.act a m (Machine.Class.ofBits head.cls) duration else t)
            heard))) ∧
  (∀ (head : FrameHead) (p : Vector Byte 5) (s : State) (n : ChannelIx),
    let f := frameOf head kindDemand p.toList
    let heard := s.atAcceptance f
    s.flightSound → s.takesPart f → s.ofProfile f →
    p[0] ≠ 63 → p[0].toNat = s.ownId → p[1].toNat = n.val → s.exempt n = false →
      (p[2] = 1 → s.member.state = .listening → s.channelState n = .off → s.entryOf n = none →
        s.claims.enqueueCount < 65535 →
        ∃ t e, exec (.demandAccepted head p) s = .next t ∧ t.entryOf n = some e ∧
          e.cls = Machine.Class.lowered (s.channelSettings n).ceiling (Machine.Class.ofBits head.cls) ∧
          e.allowance = allowanceOf (word16 p[3] p[4]).toNat ∧ e.hold = false ∧
          e.number = s.claims.enqueueCount ∧ t.claims.enqueueCount = s.claims.enqueueCount + 1 ∧
          t.channelState n = .off ∧
          t = { heard with
            claims := t.claims, channels := t.channels, line := { heard.line with offers := t.line.offers } } ∧
          ∀ m, s.channelState m ≠ .off → t.channel m = s.channel m) ∧
      (∀ demand, p[2] = 2 → s.channelState n = .switchedOn demand →
        ∃ t, exec (.demandAccepted head p) s = .next t ∧ t.channelState n = .stopping ∧
          t.line.offers.releases[n] = true ∧ t.entryOf n = none ∧ t.outputActive n = false ∧
          ((s.channelSettings n).rest ≠ 0 → (t.channel n).rest = (s.channelSettings n).rest * 64) ∧
          t.claims.enqueueCount = s.claims.enqueueCount ∧
          t = { heard with
            claims := t.claims, channels := t.channels, line := { heard.line with offers := t.line.offers } } ∧
          ∀ m, m ≠ n → s.channelState m ≠ .off → t.channel m = s.channel m)) ∧
  ∀ (s : State) (n : ChannelIx) (cls : Machine.Class) (duration : Nat), s.queueInv →
    let lowered := Machine.Class.lowered (s.channelSettings n).ceiling cls
    let extended (held : Option Nat) := capped (s.channelSettings n).maxRun (longer held (allowanceOf duration))
    -- START
    (s.channelState n = .off ∨ s.channelState n = .stopping →
      (s.entryOf n = none → s.claims.enqueueCount < 65535 →
        ∃ q, q.Perm ({ channel := n, cls := lowered, allowance := allowanceOf duration, hold := false,
                       number := s.claims.enqueueCount } :: s.claims.queue) ∧
          q.Pairwise (fun a b => a.before b = true) ∧
          s.act .start n cls duration =
            { s with claims := { s.claims with
              queue := q, enqueueCount := s.claims.enqueueCount + 1 } }.judge) ∧
        (s.entryOf n = none → s.claims.enqueueCount = 65535 →
          let rank (k : Nat) : Nat := s.claims.numbers.countP fun x => decide (x < k)
          let new : Entry :=
            { channel := n, cls := lowered, allowance := allowanceOf duration, hold := false
              number := s.claims.numbers.length }
          ∃ q : List Entry,
            q.Perm (new :: s.claims.queue.map fun e => { e with number := rank e.number }) ∧
            q.Pairwise (fun a b => a.before b = true) ∧
            s.act .start n cls duration =
              { s with claims :=
                { queue := q
                  outstanding :=
                    s.claims.outstanding.map fun (o : OutstandingClaim) => { o with number := rank o.number }
                  enqueueCount := s.claims.numbers.length + 1 } }.judge) ∧
        ∀ e, s.entryOf n = some e →
          ∃ q, q.Perm ({ e with cls := e.cls.higher lowered, allowance := longer e.allowance (allowanceOf duration) } ::
              s.claims.queue.filter fun e => e.channel ≠ n) ∧
            q.Pairwise (fun a b => a.before b = true) ∧
            s.act .start n cls duration = { s with claims := { s.claims with queue := q } }.judge) ∧
    (∀ o, s.claims.outstanding = some o → o.channel = n →
      s.act .start n cls duration =
        { s with claims := { s.claims with
          outstanding := some
            { o with cls := o.cls.higher lowered, allowance := extended o.allowance, stopNote := false } } }) ∧
    (∀ demand, s.channelState n = .pending demand →
      s.act .start n cls duration =
        { s with
          channels := s.channels.set n
            { s.channel n with state := .pending { demand with allowance := extended demand.allowance } } }) ∧
    (∀ demand, s.channelState n = .switchedOn demand →
      s.act .start n cls duration =
        { s with
          channels := s.channels.set n
            { s.channel n with state := .switchedOn { demand with allowance := extended demand.allowance } } }) ∧
    -- STOP
    (∃ t, t = s.act .stop n cls duration ∧ t.entryOf n = none ∧ t.claims.enqueueCount = s.claims.enqueueCount ∧
      t.judge = t ∧ t = { s with claims := t.claims, channels := t.channels, line := t.line } ∧
      (∀ m, m ≠ n → s.channelState m ≠ .off → t.channel m = s.channel m) ∧
      (s.channelState n = .off ∨ s.channelState n = .stopping →
        t.channel n = s.channel n ∧ t.line.offers.releases = s.line.offers.releases) ∧
      (∀ demand, s.channelState n = .pending demand →
        t.channel n = { s.channel n with state := .stopping } ∧ t.line.offers.releases[n] = true) ∧
      (∀ demand, s.channelState n = .switchedOn demand →
        ((s.channelSettings n).rest ≠ 0 → (t.channel n).rest = (s.channelSettings n).rest * 64) ∧
          (s.exempt n = false → t.channelState n = .stopping ∧ t.line.offers.releases[n] = true) ∧
          (s.exempt n = true →
            t.channelState n = .off ∧ t.line.offers.releases = s.line.offers.releases)) ∧
      ∀ o, s.claims.outstanding = some o → o.channel = n →
        (o.inFlight = true →
          t.claims.outstanding = some { o with stopNote := true } ∧ t.channel n = s.channel n) ∧
        (o.inFlight = false → t.channel n = { s.channel n with state := .off } ∧
          ∀ o', t.claims.outstanding = some o' → o'.channel ≠ n)) ∧
    -- TOGGLE
    s.act .toggle n cls duration =
      if (s.channelState n = .off ∨ s.channelState n = .stopping) ∧ s.entryOf n = none then
        s.act .start n cls duration
      else s.act .stop n cls duration

/-- A QUERY for the own station removes every latched fault if its clear-faults flag is set, sets the seven counters to
0 if its clear-counters flag is set, and places a REPORT offer with no attempt counted; the streaks and all else but the
line stand. A QUERY for another target has its line effects alone (R159, R201, R202). -/
def Obligations.QueryIsAnswered : Prop :=
  ∀ (head : FrameHead) (p : Vector Byte 2) (s : State),
    let f := frameOf head kindQuery p.toList
    let line : LineInterface :=
      { s.line with activity := .counting, idleCount := 0, buffer := f.bits ++ [true], vetoStreak := 0 }
    s.hears f → s.ofProfile f →
    (p[0].toNat ≠ s.ownId → exec (.queryAccepted head p) s = .next { s with line := line }) ∧
    (p[0].toNat = s.ownId →
      exec (.queryAccepted head p) s =
        .next { s with
          line := { line with offers := { s.line.offers with report := true } }
          report := { s.report with
            faults :=
              if p[1].getLsbD 0 then
                { s.report.faults with
                  diverged := false, mutedVeto := false, mutedSend := false, profileClash := false,
                  outQueueFull := false }
              else s.report.faults
            counters := if p[1].getLsbD 1 then Counters.zero else s.report.counters
            attempts := 0 } })

/-! ## Timers, inputs, calendar and STATUS -/

/-- The run allowance of an ON channel expires: a budgeted channel enters STOPPING with its RELEASE offered, an exempt
one goes OFF, the rest begins, and no entry is made. A rest ends at 0 and the claim unit judges afresh. That the
commands mean expiry whatever the count stands at is the model's choice (DESIGN CHOICE, log entry 6). The judgement
serves every exempt entry whose channel is OFF, not inhibited and not resting; in SYNCED with no claim outstanding it
takes the first entry in queue order that meets R41, if it fits or is displacement-eligible, makes it the outstanding
claim with its channel CLAIMING and a CLAIM offered, and takes no other entry; every other entry stays, and judging
twice changes nothing more. A tick of a working station lowers each ON channel's allowance and each rest by one,
expires at 0 what RUN_ALLOWANCE_EXPIRY expires and judges as REST_END does, and then reads the inputs and counts the
beacon and mute timers, in the model's order (DESIGN CHOICE, log entry 7); in LOADING it counts nothing. Where no level
read differs from the taken one, what it leaves of each channel is told without that order (R41 to R45, R85, R88 to R90,
R92, R104, R189). -/
def Obligations.RunAndRestTimersExpire : Prop :=
  (∀ s : State, s.member.state = .loading → s.tick = s) ∧
  (∀ s : State, s.member.state.working = true →
    (∀ n, exec (.runAllowanceExpiry n) s = .next (s.expireRun n)) ∧
    ∃ counted expired rested read : State,
      counted = { s with channels := counted.channels } ∧
      (∀ n, counted.channel n =
        { state := match s.channelState n with
            | .switchedOn d => .switchedOn { d with allowance := d.allowance.map fun k => k - 1 }
            | other => other
          rest := (s.channel n).rest - 1 }) ∧
      expired = [0, 1, 2, 3, 4, 5, 6, 7].foldl
        (fun t n =>
          match counted.channelState n with
          | .switchedOn { cls := _, allowance := some 0 } => t.expireRun n
          | _ => t) counted ∧
      ((∃ n, (s.channel n).rest = 1) → rested = expired.judge) ∧ ((∀ n, (s.channel n).rest ≠ 1) → rested = expired) ∧
      read = [0, 1, 2, 3, 4, 5, 6, 7].foldl (fun (t : State) (n : InputIx) => t.readInput n s.pins[n]) rested ∧
      s.tick = read.tickBeacon.tickMute) ∧
  (∀ s : State, s.queueInv → s.member.state.working = true →
    (∀ (n : InputIx) (level : Bool), s.inputs[n].taken = some level → s.pins[n] = level) →
    ((∃ n, (s.channel n).rest = 1) → s.tick.judge = s.tick) ∧
    ∀ n,
      (∀ demand k, s.channelState n = .switchedOn demand → demand.allowance = some (k + 2) →
        s.tick.channel n =
          { state := .switchedOn { demand with allowance := some (k + 1) }, rest := (s.channel n).rest - 1 }) ∧
      (∀ demand, s.channelState n = .switchedOn demand → demand.allowance = none →
        s.tick.channel n = { s.channel n with rest := (s.channel n).rest - 1 }) ∧
      (∀ demand, s.channelState n = .switchedOn demand → demand.allowance = some 1 →
        s.tick.outputActive n = false ∧ s.tick.entryOf n = none ∧
          (s.tick.channel n).rest =
            (if (s.channelSettings n).rest = 0 then (s.channel n).rest - 1 else (s.channelSettings n).rest * 64) ∧
          (s.exempt n = false → s.tick.channelState n = .stopping ∧ s.tick.line.offers.releases[n] = true) ∧
          (s.exempt n = true → s.tick.channelState n = .off)) ∧
      ((s.channelState n).isOn = false →
        (s.tick.channel n).rest = (s.channel n).rest - 1 ∧
          (s.channelState n ≠ .off ∨ s.entryOf n = none → s.tick.channelState n = s.channelState n))) ∧
  (∀ (s : State) (n : ChannelIx) (demand : Demand), s.queueInv → s.member.state.working = true →
      s.channelState n = .switchedOn demand → demand.allowance.isSome = true →
      ∃ t, exec (.runAllowanceExpiry n) s = .next t ∧ t.outputActive n = false ∧ t.entryOf n = none ∧
        t.claims.enqueueCount = s.claims.enqueueCount ∧ t.judge = t ∧
        t = { s with claims := t.claims, channels := t.channels, line := t.line } ∧
        (∀ m, m ≠ n → s.channelState m ≠ .off → t.channel m = s.channel m) ∧
        (t.channel n).rest =
          (if (s.channelSettings n).rest = 0 then (s.channel n).rest else (s.channelSettings n).rest * 64) ∧
        (s.exempt n = false → t.channelState n = .stopping ∧ t.line.offers.releases[n] = true) ∧
        (s.exempt n = true → t.channelState n = .off ∧ t.line.offers.releases = s.line.offers.releases)) ∧
    (∀ (s : State) (n : ChannelIx), s.member.state.working = true → (s.channel n).rest ≠ 0 →
      ∃ t, exec (.restEnd n) s = .next t ∧
        t = { s with channels := s.channels.set n { s.channel n with rest := 0 } }.judge ∧
        (t.channel n).rest = 0 ∧ t.judge = t ∧
        t = { s with claims := t.claims, channels := t.channels, line := t.line } ∧
        ∀ m, m ≠ n → s.channelState m ≠ .off → t.channel m = s.channel m) ∧
    (∀ s : State, s.judge.judge = s.judge ∧ (s.member.state.working = false → s.judge = s) ∧
      s.judge = { s with
        claims := { s.claims with queue := s.judge.claims.queue, outstanding := s.judge.claims.outstanding }
        channels := s.judge.channels
        line := { s.line with offers := { s.line.offers with claim := s.judge.line.offers.claim } } }) ∧
    ∀ s : State, s.queueInv → s.member.state.working = true →
      s.judge.claims.queue.Sublist s.claims.queue ∧
      (∀ n, s.entryOf n = none → s.judge.channel n = s.channel n) ∧
      (∀ e ∈ s.claims.queue,
        (s.weight e.channel = 0 → s.meetsR42 e →
          s.judge.entryOf e.channel = none ∧
            s.judge.channel e.channel = { s.channel e.channel with
              state := .switchedOn
                { cls := e.cls, allowance := capped (s.channelSettings e.channel).maxRun e.allowance } }) ∧
        (s.weight e.channel = 0 → ¬ s.meetsR42 e →
          e ∈ s.judge.claims.queue ∧ s.judge.channel e.channel = s.channel e.channel) ∧
        (s.weight e.channel ≠ 0 → ¬ s.meetsR41 e →
          e ∈ s.judge.claims.queue ∧ s.judge.channel e.channel = s.channel e.channel)) ∧
      (∀ before e after, s.claims.queue = before ++ e :: after → (∀ e' ∈ before, ¬ s.meetsR41 e') → s.meetsR41 e →
        s.member.state = .synced → s.claims.outstanding = none → s.meetsR43 e →
        s.judge.claims.outstanding = some
            { channel := e.channel, cls := e.cls, allowance := e.allowance, number := e.number, attempts := 0,
              inFlight := false, stopNote := false } ∧
          s.judge.channel e.channel = { s.channel e.channel with state := .claiming } ∧
          s.judge.line.offers.claim = true ∧ s.judge.entryOf e.channel = none ∧
          ∀ e' ∈ after, s.weight e'.channel ≠ 0 →
            e' ∈ s.judge.claims.queue ∧ s.judge.channel e'.channel = s.channel e'.channel) ∧
      ((s.member.state ≠ .synced ∨ s.claims.outstanding ≠ none ∨ (∀ e ∈ s.claims.queue, ¬ s.meetsR41 e) ∨
          ∃ before e after, s.claims.queue = before ++ e :: after ∧ (∀ e' ∈ before, ¬ s.meetsR41 e') ∧
            s.meetsR41 e ∧ ¬ s.meetsR43 e) →
        s.judge.claims.outstanding = s.claims.outstanding ∧ s.judge.line = s.line ∧
          ∀ e ∈ s.claims.queue, s.weight e.channel ≠ 0 →
            e ∈ s.judge.claims.queue ∧ s.judge.channel e.channel = s.channel e.channel)

/-- A tick reads every EDGE and LEVEL-INHIBIT input by the four cases of R135. INPUT_LEVEL_CHANGE moves the level alone,
for the coming tick to read, once the tick divider has counted; before that it is a read of its own, by all cases but
the timer's count, and DEBOUNCE_EXPIRY takes the level whatever the timer's count (DESIGN CHOICE, log entry 6). A change
of taken level on a LEVEL-INHIBIT input works the level-inhibit mask out again; on an EDGE input that selects it, it
performs the input's action, a local action at the claim unit or a command raised on the line, and otherwise it does
nothing further. The mask holds a group exactly while a LEVEL-INHIBIT input that names it has the taken level of its
active level. The tick divider counts oscillator periods, and every 512th makes a tick (R96 (2), R104, R135 to
R139). -/
def Obligations.InputsAreDebounced : Prop :=
  (∀ s : State,
    (s.tickDivider < 511 → s.tickPeriod = { s with tickDivider := s.tickDivider + 1, ticked := false }) ∧
    (s.tickDivider = 511 → s.tickPeriod = { s with tickDivider := 0, ticked := true }.tick) ∧
    (s.tickDivider = 0 →
      (∀ k, 0 < k → k < 512 → (State.tickPeriod^[k] s) = { s with tickDivider := k, ticked := false }) ∧
        (State.tickPeriod^[512] s) = { s with tickDivider := 0, ticked := true }.tick)) ∧
  (∀ (settings : Vector InputSettings 8) (inputs : Vector InputState 8) (g : GroupIx),
    (levelMask settings inputs).getLsbD g.val = true ↔
      ∃ (n : InputIx) (activeHigh : Bool) (d : Nat) (groups : GroupMask),
        settings[n] = .levelInhibit activeHigh d groups ∧ groups.getLsbD g.val = true ∧
          inputs[n].taken = some activeHigh) ∧
  (∀ (s : State) (n : InputIx) (d : Nat) (taken high : Bool), s.member.state.working = true →
    (s.inputSettings n).debounce? = some d → s.inputs[n].taken = some taken →
    let read (level : Bool) : InputState :=
      if s.inputs[n].debounce = 0 then
        if level = taken then s.inputs[n]
        else if d = 0 then { taken := some level, debounce := 0 } else { taken := some taken, debounce := d }
      else if level = taken then { taken := some taken, debounce := 0 }
      else if s.inputs[n].debounce = 1 then { taken := some level, debounce := 0 }
      else { taken := some taken, debounce := s.inputs[n].debounce - 1 }
    s.tick.inputs[n] = read s.pins[n] ∧
    (s.readInput n high).inputs = s.inputs.set n (read high) ∧
    ((read high).taken = some taken → s.readInput n high = { s with inputs := s.inputs.set n (read high) }) ∧
    ((read high).taken ≠ some taken →
      { s with inputs := s.inputs.set n (read high) }.followsLevel n high (s.readInput n high)) ∧
    (s.tickDivider ≠ 0 ∨ s.ticked = true →
      exec (.inputLevelChange n high) s = .next { s with pins := s.pins.set n high }) ∧
    (s.tickDivider = 0 → s.ticked = false →
      (s.inputs[n].debounce ≠ 0 → high ≠ taken →
        exec (.inputLevelChange n high) s = .next { s with pins := s.pins.set n high }) ∧
      (s.inputs[n].debounce = 0 ∨ high = taken →
        exec (.inputLevelChange n high) s = .next ({ s with pins := s.pins.set n high }.readInput n high) ∧
          ∃ t, exec (.inputLevelChange n high) s = .next t ∧ t.pins = s.pins.set n high ∧
            t = { s with
              pins := t.pins, inputs := t.inputs, claims := t.claims, channels := t.channels, masks := t.masks
              commands := t.commands, line := t.line, report := t.report } ∧
            t.inputs = s.inputs.set n (read high))) ∧
    (s.inputs[n].debounce ≠ 0 → s.pins[n] ≠ taken →
      ∃ t, exec (.debounceExpiry n) s = .next t ∧ t.inputs = s.inputs.set n { taken := some s.pins[n], debounce := 0 } ∧
        t = { s with
          inputs := t.inputs, claims := t.claims, channels := t.channels, masks := t.masks
          commands := t.commands, line := t.line, report := t.report } ∧
        { s with inputs := t.inputs }.followsLevel n s.pins[n] t ∧
        (∀ activeHigh k groups, s.inputSettings n = .levelInhibit activeHigh k groups →
          t.masks = { s.masks with level := levelMask s.settings.inputs t.inputs }))) ∧
  (∀ (s : State) (action : DemandAction) (m : ChannelIx) (cls : Machine.Class) (duration : Nat),
    s.performEdge (.act action m cls duration) = s.act action m cls duration) ∧
  (∀ (s : State) (action : DemandAction) (station place : Byte) (cls : Machine.Class) (duration : Nat),
    s.performEdge (.send action station place cls duration) =
      s.raiseCommand (.demand station place action cls duration)) ∧
  ∀ (s : State) (groups : GroupMask),
    s.performEdge (.inhibitSet groups) = s.raiseCommand (.inhibit groups 0) ∧
      s.performEdge (.inhibitClear groups) = s.raiseCommand (.inhibit 0 groups)

/-- A command raised on the line joins the tail of the command queue while fewer than 4 stand; with 4 it is dropped,
counted and OUT-QUEUE-FULL is latched; in MUTE it is dropped and counted alone; and every reset empties the queue
(R138, R140). -/
def Obligations.CommandsQueueOrDrop : Prop :=
  (∀ (k : ResetKind) (s : State), ∃ t, exec (.resetOnset k) s = .next t ∧ t.commands.queue = []) ∧
    ∀ (s : State) (c : Command),
    (s.member.state.online = true → s.commands.queue.length < 4 →
      (s.raiseCommand c).commands.queue = s.commands.queue ++ [c] ∧
        (s.commands.queue = [] → (s.raiseCommand c).commands.headAttempts = 0) ∧
        s.raiseCommand c =
          { s with
            commands := (s.raiseCommand c).commands
            line := { s.line with offers := { s.line.offers with command := true } } }) ∧
    (s.member.state.online = true → 4 ≤ s.commands.queue.length →
      s.raiseCommand c =
        { s with report := { s.report with
          counters := { s.report.counters with commandsDropped := min 255 (s.report.counters.commandsDropped + 1) }
          faults := { s.report.faults with outQueueFull := true } } }) ∧
    (s.member.state = .mute →
      s.raiseCommand c =
        { s with report := { s.report with
          counters := { s.report.counters with
            commandsDropped := min 255 (s.report.counters.commandsDropped + 1) } } })

/-- A fraction step moves the calendar one fraction on around the cycle and returns the phase to 0; while time is
invalid it does nothing more; while time is valid in a working station, a step into another minute raises the minute
event of that minute, which makes it the last-evaluated one when it follows it, and the table stands. That the command
steps the fraction whatever the phase has counted is the model's choice (DESIGN CHOICE, log entry 6). The phase counts
oscillator periods from the end of the start wait on, but not in HALTED, and every 512th steps the fraction (R101, R102,
R104, R105, R112, R128). -/
def Obligations.FractionStepCounts : Prop :=
  (∀ s : State,
    (s.phase ≠ .running ∨ s.member.state = .halted → s.phasePeriod = s) ∧
    (s.phase = .running → s.member.state ≠ .halted →
      (s.calendar.phase < 511 →
        s.phasePeriod = { s with calendar := { s.calendar with phase := s.calendar.phase + 1 } }) ∧
      (s.calendar.phase = 511 → exec .fractionStep s = .next s.phasePeriod) ∧
      (s.calendar.phase = 0 →
        (∀ k, k < 512 → (State.phasePeriod^[k] s) = { s with calendar := { s.calendar with phase := k } }) ∧
          exec .fractionStep s = .next (State.phasePeriod^[512] s)))) ∧
  ∀ s : State, s.timeInv → s.phase = .running → s.member.state ≠ .halted →
    ∃ t, exec .fractionStep s = .next t ∧
      fractionPosition t.calendar.value = (fractionPosition s.calendar.value + 1) % 201968640000 ∧
      t.calendar.value.inRange = true ∧ t.calendar.phase = 0 ∧ t.calendar.valid = s.calendar.valid ∧
      t = { s with
        calendar := t.calendar, lastMinute := t.lastMinute, claims := t.claims, channels := t.channels
        masks := t.masks, line := t.line, report := t.report } ∧
      ((s.calendar.valid = false ∨ minuteNumber t.calendar.value = minuteNumber s.calendar.value) →
        t = { s with calendar := t.calendar }) ∧
      (s.calendar.valid = true → s.member.state.working = true →
        minuteNumber t.calendar.value ≠ minuteNumber s.calendar.value →
        t = { s with calendar := t.calendar }.minuteEvent (minuteNumber t.calendar.value)) ∧
      ∀ last, s.calendar.valid = true → s.member.state.working = true → s.lastMinute = some last →
        minuteNumber t.calendar.value ≠ minuteNumber s.calendar.value →
        forwardDistance last (minuteNumber t.calendar.value) = 1 →
        t.lastMinute = some (minuteNumber t.calendar.value)

/-- A minute event whose minute is a short step after the last-evaluated minute evaluates each minute up to it in order;
a long step evaluates it alone and adds the skipped minutes to the missed-minute counter; a minute at or before the
last-evaluated one changes nothing. An entry matches a minute by its month set and, CALENDAR, by minute, hour and day
mode, or, CYCLIC, by its period and offset, all worked out from the minute number; an evaluation takes the 32 entries in
index order, each that matches acting on the state the ones before it left: a START or a STOP of its channel, or its
groups added to or removed from the schedule inhibit mask (R117 to R124, R126, R128 to R130). -/
def Obligations.MinuteEventsCatchUpOrSkip : Prop :=
  (∀ (s : State) (last minute : Nat), s.lastMinute = some last → last < 52596000 → minute < 52596000 →
    let d := ((minute : Int) - last) % 52596000
    (d = 1 → s.minuteEvent minute = { s.evaluateMinute minute with lastMinute := some minute }) ∧
    (d = 2 → s.minuteEvent minute =
      { (s.evaluateMinute ((last + 1) % 52596000)).evaluateMinute minute with lastMinute := some minute }) ∧
    (d = 3 → s.minuteEvent minute =
      { ((s.evaluateMinute ((last + 1) % 52596000)).evaluateMinute ((last + 2) % 52596000)).evaluateMinute minute with
        lastMinute := some minute }) ∧
    (4 ≤ d → d ≤ 26297999 →
      (s.minuteEvent minute).lastMinute = some minute ∧
        (s.minuteEvent minute).report.counters.missedMinutes =
          min 255 (s.report.counters.missedMinutes + (d.toNat - 1)) ∧
        (s.minuteEvent minute).channels = (s.evaluateMinute minute).channels ∧
        (s.minuteEvent minute).claims = (s.evaluateMinute minute).claims ∧
        (s.minuteEvent minute).masks = (s.evaluateMinute minute).masks) ∧
    (d = 0 ∨ 26298000 ≤ d → s.minuteEvent minute = s)) ∧
  (∀ (e : ScheduleEntry) (minute : Nat), minute < 52596000 →
    (e.selects minute = true ↔
      e.months.getLsbD ((dateOfDay (minute / 1440)).2.1 - 1) = true ∧
        (∀ m h day, e.select = .calendar m h day →
          (m = none ∨ m = some (minute % 60)) ∧ (h = none ∨ h = some (minute % 1440 / 60)) ∧
            (day = .any ∨ (∃ set, day = .weekdays set ∧ set.getLsbD ((6 + minute / 1440) % 7) = true) ∨
              day = .date (dateOfDay (minute / 1440)).2.2)) ∧
        ∀ period offset, e.select = .cyclic period offset → minute % 1440 % period = offset)) ∧
  (∀ (s : State) (minute : Nat),
    s.evaluateMinute minute =
      s.settings.schedule.foldl
        (fun t entry =>
          match entry with
          | some e => if e.selects minute then t.runAction e.action else t
          | none => t) s) ∧
  (∀ (s : State) (n : ChannelIx) (cls : Machine.Class) (duration : Nat),
    s.runAction (.start n cls duration) = s.act .start n cls duration ∧
      s.runAction (.stop n) = s.act .stop n cls duration) ∧
  ∀ (s : State) (groups : GroupMask), s.inhibitInv →
    (∃ t, s.runAction (.inhibitOn groups) = t ∧
      t.masks = { s.masks with schedule := s.masks.schedule ||| groups } ∧
      t = { s with masks := t.masks, claims := t.claims, channels := t.channels, line := t.line } ∧
      ∀ n, t.inhibited n = true →
        t.channelState n = .off ∨ t.channelState n = .claiming ∨ t.channelState n = .stopping) ∧
    ∃ t, s.runAction (.inhibitOff groups) = t ∧
      t.masks = { s.masks with schedule := s.masks.schedule &&& ~~~groups } ∧
      t = { s with masks := t.masks, claims := t.claims, channels := t.channels, line := t.line } ∧
      ∀ n, s.channelState n ≠ .off → t.channel n = s.channel n

/-- STATUS is released through a reset, the start wait and LOADING, asserted in LISTENING and SYNCED while a latched
fault or JOIN-STALLED is present, and steadily in MUTE. In HALTED it repeats n pulses of 8 ticks asserted and 8
released, then 128 ticks more released, n the code of the halting fault: a cycle of 16n + 128 ticks counted by the
station's tick from the entry, while the calendar, the run and rest timers and the inputs stand still, until a reset
releases it; and STATUS_BLINK takes it to its next change of level, wherever the count stands (DESIGN CHOICE, log entry
6) (R205, R206). -/
def Obligations.StatusFollowsTheState : Prop :=
  (∀ s : State,
      (s.phase ≠ .running → s.statusAsserted = false) ∧
      (s.phase = .running → s.member.state = .loading → s.statusAsserted = false) ∧
      (s.phase = .running → s.member.state.online = true →
        (s.statusAsserted = true ↔
          s.report.faults.diverged = true ∨ s.report.faults.mutedVeto = true ∨ s.report.faults.mutedSend = true ∨
            s.report.faults.profileClash = true ∨ s.report.faults.outQueueFull = true ∨
            s.report.faults.joinStalled = true)) ∧
      (s.phase = .running → s.member.state = .mute → s.statusAsserted = true)) ∧
    (∀ n tick, blinkCycle n = 16 * n + 128 ∧
      (blinkAsserted n tick = true ↔ ∃ k, k < n ∧ 16 * k ≤ tick ∧ tick < 16 * k + 8)) ∧
    (∀ f : FaultSet,
      (f.configAbsent = true → f.haltCode = 1) ∧
      (f.configAbsent = false → f.configCheck = true → f.haltCode = 2) ∧
      (f.configAbsent = false → f.configCheck = false → f.configRange = true → f.haltCode = 3) ∧
      (f.configAbsent = false → f.configCheck = false → f.configRange = false → f.duplicateId = true →
        f.haltCode = 4)) ∧
    (∀ (s : State) (f : FaultSet), (s.enterHalted f).report.blink = 0) ∧
    (∀ (k : ResetKind) (s : State), ∃ t, exec (.resetOnset k) s = .next t ∧ t.statusAsserted = false) ∧
    ∀ s : State, s.phase = .running → s.member.state = .halted → 1 ≤ s.report.faults.haltCode →
      s.report.blink < blinkCycle s.report.faults.haltCode →
      s.statusAsserted = blinkAsserted s.report.faults.haltCode s.report.blink ∧
      s.tick = { s with report := { s.report with
        blink := (s.report.blink + 1) % (16 * s.report.faults.haltCode + 128) } } ∧
      s.oscillatorPeriod.calendar = s.calendar ∧ s.oscillatorPeriod.channels = s.channels ∧
      s.oscillatorPeriod.inputs = s.inputs ∧
      ∃ t, exec .statusBlink s = .next t ∧ t = { s with report := { s.report with blink := t.report.blink } } ∧
        t.report.blink < blinkCycle s.report.faults.haltCode ∧ t.statusAsserted = !s.statusAsserted

/-- An output is active only while its channel is ON outside HALTED; an active budgeted output stands under the own
HELD record, and none is active in MUTE; the line carries the level of the channel's polarity, and none before an image
is taken (R81, R93). -/
def Obligations.OutputsFollowTheState : Prop :=
  ∀ (s : State) (n : ChannelIx), s.runInv →
    (s.outputActive n = true → (s.channelState n).isOn = true ∧ s.member.state ≠ .halted) ∧
    (s.outputActive n = true → s.exempt n = false → s.holdsFor n ∧ s.member.state ≠ .mute) ∧
    (s.outputActive n = true → s.outputLevel n = if (s.channelSettings n).activeLow then .low else .high) ∧
    (s.phase = .running → s.imageTaken = true → s.outputActive n = false →
      s.outputLevel n = if (s.channelSettings n).activeLow then .high else .low) ∧
    ((s.phase ≠ .running ∨ s.imageTaken = false) → s.outputLevel n = .undriven)

end
end

