-- ==== Sys2Proof/Laws/State.lean ====
section
/-! SUPPORT. One lemma per field and per write of one part of the state, all true by unfolding. -/

namespace Sys2Proof.Machine

/-! ### setChannel -/

@[simp] theorem State.setChannel_pending (s : State) (n : ChannelIx) (c : Channel) :
    (s.setChannel n c).pending = s.pending := rfl
@[simp] theorem State.setChannel_phase (s : State) (n : ChannelIx) (c : Channel) :
    (s.setChannel n c).phase = s.phase := rfl
@[simp] theorem State.setChannel_heldResets (s : State) (n : ChannelIx) (c : Channel) :
    (s.setChannel n c).heldResets = s.heldResets := rfl
@[simp] theorem State.setChannel_startPeriods (s : State) (n : ChannelIx) (c : Channel) :
    (s.setChannel n c).startPeriods = s.startPeriods := rfl
@[simp] theorem State.setChannel_tickDivider (s : State) (n : ChannelIx) (c : Channel) :
    (s.setChannel n c).tickDivider = s.tickDivider := rfl
@[simp] theorem State.setChannel_ticked (s : State) (n : ChannelIx) (c : Channel) :
    (s.setChannel n c).ticked = s.ticked := rfl
@[simp] theorem State.setChannel_loader (s : State) (n : ChannelIx) (c : Channel) :
    (s.setChannel n c).loader = s.loader := rfl
@[simp] theorem State.setChannel_dataIn (s : State) (n : ChannelIx) (c : Channel) :
    (s.setChannel n c).dataIn = s.dataIn := rfl
@[simp] theorem State.setChannel_imageTaken (s : State) (n : ChannelIx) (c : Channel) :
    (s.setChannel n c).imageTaken = s.imageTaken := rfl
@[simp] theorem State.setChannel_settings (s : State) (n : ChannelIx) (c : Channel) :
    (s.setChannel n c).settings = s.settings := rfl
@[simp] theorem State.setChannel_table (s : State) (n : ChannelIx) (c : Channel) :
    (s.setChannel n c).table = s.table := rfl
@[simp] theorem State.setChannel_claims (s : State) (n : ChannelIx) (c : Channel) :
    (s.setChannel n c).claims = s.claims := rfl
@[simp] theorem State.setChannel_member (s : State) (n : ChannelIx) (c : Channel) :
    (s.setChannel n c).member = s.member := rfl
@[simp] theorem State.setChannel_channels (s : State) (n : ChannelIx) (c : Channel) :
    (s.setChannel n c).channels = s.channels.set n c := rfl
@[simp] theorem State.setChannel_masks (s : State) (n : ChannelIx) (c : Channel) :
    (s.setChannel n c).masks = s.masks := rfl
@[simp] theorem State.setChannel_calendar (s : State) (n : ChannelIx) (c : Channel) :
    (s.setChannel n c).calendar = s.calendar := rfl
@[simp] theorem State.setChannel_lastMinute (s : State) (n : ChannelIx) (c : Channel) :
    (s.setChannel n c).lastMinute = s.lastMinute := rfl
@[simp] theorem State.setChannel_inputs (s : State) (n : ChannelIx) (c : Channel) :
    (s.setChannel n c).inputs = s.inputs := rfl
@[simp] theorem State.setChannel_pins (s : State) (n : ChannelIx) (c : Channel) :
    (s.setChannel n c).pins = s.pins := rfl
@[simp] theorem State.setChannel_commands (s : State) (n : ChannelIx) (c : Channel) :
    (s.setChannel n c).commands = s.commands := rfl
@[simp] theorem State.setChannel_line (s : State) (n : ChannelIx) (c : Channel) :
    (s.setChannel n c).line = s.line := rfl
@[simp] theorem State.setChannel_report (s : State) (n : ChannelIx) (c : Channel) :
    (s.setChannel n c).report = s.report := rfl

/-! ### setChannelState -/

@[simp] theorem State.setChannelState_pending (s : State) (n : ChannelIx) (c : ChannelState) :
    (s.setChannelState n c).pending = s.pending := rfl
@[simp] theorem State.setChannelState_phase (s : State) (n : ChannelIx) (c : ChannelState) :
    (s.setChannelState n c).phase = s.phase := rfl
@[simp] theorem State.setChannelState_heldResets (s : State) (n : ChannelIx) (c : ChannelState) :
    (s.setChannelState n c).heldResets = s.heldResets := rfl
@[simp] theorem State.setChannelState_startPeriods (s : State) (n : ChannelIx) (c : ChannelState) :
    (s.setChannelState n c).startPeriods = s.startPeriods := rfl
@[simp] theorem State.setChannelState_tickDivider (s : State) (n : ChannelIx) (c : ChannelState) :
    (s.setChannelState n c).tickDivider = s.tickDivider := rfl
@[simp] theorem State.setChannelState_ticked (s : State) (n : ChannelIx) (c : ChannelState) :
    (s.setChannelState n c).ticked = s.ticked := rfl
@[simp] theorem State.setChannelState_loader (s : State) (n : ChannelIx) (c : ChannelState) :
    (s.setChannelState n c).loader = s.loader := rfl
@[simp] theorem State.setChannelState_dataIn (s : State) (n : ChannelIx) (c : ChannelState) :
    (s.setChannelState n c).dataIn = s.dataIn := rfl
@[simp] theorem State.setChannelState_imageTaken (s : State) (n : ChannelIx) (c : ChannelState) :
    (s.setChannelState n c).imageTaken = s.imageTaken := rfl
@[simp] theorem State.setChannelState_settings (s : State) (n : ChannelIx) (c : ChannelState) :
    (s.setChannelState n c).settings = s.settings := rfl
@[simp] theorem State.setChannelState_table (s : State) (n : ChannelIx) (c : ChannelState) :
    (s.setChannelState n c).table = s.table := rfl
@[simp] theorem State.setChannelState_claims (s : State) (n : ChannelIx) (c : ChannelState) :
    (s.setChannelState n c).claims = s.claims := rfl
@[simp] theorem State.setChannelState_member (s : State) (n : ChannelIx) (c : ChannelState) :
    (s.setChannelState n c).member = s.member := rfl
@[simp] theorem State.setChannelState_channels (s : State) (n : ChannelIx) (c : ChannelState) :
    (s.setChannelState n c).channels = s.channels.set n { s.channel n with state := c } := rfl
@[simp] theorem State.setChannelState_masks (s : State) (n : ChannelIx) (c : ChannelState) :
    (s.setChannelState n c).masks = s.masks := rfl
@[simp] theorem State.setChannelState_calendar (s : State) (n : ChannelIx) (c : ChannelState) :
    (s.setChannelState n c).calendar = s.calendar := rfl
@[simp] theorem State.setChannelState_lastMinute (s : State) (n : ChannelIx) (c : ChannelState) :
    (s.setChannelState n c).lastMinute = s.lastMinute := rfl
@[simp] theorem State.setChannelState_inputs (s : State) (n : ChannelIx) (c : ChannelState) :
    (s.setChannelState n c).inputs = s.inputs := rfl
@[simp] theorem State.setChannelState_pins (s : State) (n : ChannelIx) (c : ChannelState) :
    (s.setChannelState n c).pins = s.pins := rfl
@[simp] theorem State.setChannelState_commands (s : State) (n : ChannelIx) (c : ChannelState) :
    (s.setChannelState n c).commands = s.commands := rfl
@[simp] theorem State.setChannelState_line (s : State) (n : ChannelIx) (c : ChannelState) :
    (s.setChannelState n c).line = s.line := rfl
@[simp] theorem State.setChannelState_report (s : State) (n : ChannelIx) (c : ChannelState) :
    (s.setChannelState n c).report = s.report := rfl

/-! ### setInput -/

@[simp] theorem State.setInput_pending (s : State) (n : InputIx) (i : InputState) :
    (s.setInput n i).pending = s.pending := rfl
@[simp] theorem State.setInput_phase (s : State) (n : InputIx) (i : InputState) :
    (s.setInput n i).phase = s.phase := rfl
@[simp] theorem State.setInput_heldResets (s : State) (n : InputIx) (i : InputState) :
    (s.setInput n i).heldResets = s.heldResets := rfl
@[simp] theorem State.setInput_startPeriods (s : State) (n : InputIx) (i : InputState) :
    (s.setInput n i).startPeriods = s.startPeriods := rfl
@[simp] theorem State.setInput_tickDivider (s : State) (n : InputIx) (i : InputState) :
    (s.setInput n i).tickDivider = s.tickDivider := rfl
@[simp] theorem State.setInput_ticked (s : State) (n : InputIx) (i : InputState) :
    (s.setInput n i).ticked = s.ticked := rfl
@[simp] theorem State.setInput_loader (s : State) (n : InputIx) (i : InputState) :
    (s.setInput n i).loader = s.loader := rfl
@[simp] theorem State.setInput_dataIn (s : State) (n : InputIx) (i : InputState) :
    (s.setInput n i).dataIn = s.dataIn := rfl
@[simp] theorem State.setInput_imageTaken (s : State) (n : InputIx) (i : InputState) :
    (s.setInput n i).imageTaken = s.imageTaken := rfl
@[simp] theorem State.setInput_settings (s : State) (n : InputIx) (i : InputState) :
    (s.setInput n i).settings = s.settings := rfl
@[simp] theorem State.setInput_table (s : State) (n : InputIx) (i : InputState) :
    (s.setInput n i).table = s.table := rfl
@[simp] theorem State.setInput_claims (s : State) (n : InputIx) (i : InputState) :
    (s.setInput n i).claims = s.claims := rfl
@[simp] theorem State.setInput_member (s : State) (n : InputIx) (i : InputState) :
    (s.setInput n i).member = s.member := rfl
@[simp] theorem State.setInput_channels (s : State) (n : InputIx) (i : InputState) :
    (s.setInput n i).channels = s.channels := rfl
@[simp] theorem State.setInput_masks (s : State) (n : InputIx) (i : InputState) :
    (s.setInput n i).masks = s.masks := rfl
@[simp] theorem State.setInput_calendar (s : State) (n : InputIx) (i : InputState) :
    (s.setInput n i).calendar = s.calendar := rfl
@[simp] theorem State.setInput_lastMinute (s : State) (n : InputIx) (i : InputState) :
    (s.setInput n i).lastMinute = s.lastMinute := rfl
@[simp] theorem State.setInput_inputs (s : State) (n : InputIx) (i : InputState) :
    (s.setInput n i).inputs = s.inputs.set n i := rfl
@[simp] theorem State.setInput_pins (s : State) (n : InputIx) (i : InputState) : (s.setInput n i).pins = s.pins := rfl
@[simp] theorem State.setInput_commands (s : State) (n : InputIx) (i : InputState) :
    (s.setInput n i).commands = s.commands := rfl
@[simp] theorem State.setInput_line (s : State) (n : InputIx) (i : InputState) : (s.setInput n i).line = s.line := rfl
@[simp] theorem State.setInput_report (s : State) (n : InputIx) (i : InputState) :
    (s.setInput n i).report = s.report := rfl

/-! ### setPin -/

@[simp] theorem State.setPin_pending (s : State) (n : InputIx) (high : Bool) :
    (s.setPin n high).pending = s.pending := rfl
@[simp] theorem State.setPin_phase (s : State) (n : InputIx) (high : Bool) :
    (s.setPin n high).phase = s.phase := rfl
@[simp] theorem State.setPin_heldResets (s : State) (n : InputIx) (high : Bool) :
    (s.setPin n high).heldResets = s.heldResets := rfl
@[simp] theorem State.setPin_startPeriods (s : State) (n : InputIx) (high : Bool) :
    (s.setPin n high).startPeriods = s.startPeriods := rfl
@[simp] theorem State.setPin_tickDivider (s : State) (n : InputIx) (high : Bool) :
    (s.setPin n high).tickDivider = s.tickDivider := rfl
@[simp] theorem State.setPin_ticked (s : State) (n : InputIx) (high : Bool) :
    (s.setPin n high).ticked = s.ticked := rfl
@[simp] theorem State.setPin_loader (s : State) (n : InputIx) (high : Bool) :
    (s.setPin n high).loader = s.loader := rfl
@[simp] theorem State.setPin_dataIn (s : State) (n : InputIx) (high : Bool) : (s.setPin n high).dataIn = s.dataIn := rfl
@[simp] theorem State.setPin_imageTaken (s : State) (n : InputIx) (high : Bool) :
    (s.setPin n high).imageTaken = s.imageTaken := rfl
@[simp] theorem State.setPin_settings (s : State) (n : InputIx) (high : Bool) :
    (s.setPin n high).settings = s.settings := rfl
@[simp] theorem State.setPin_table (s : State) (n : InputIx) (high : Bool) :
    (s.setPin n high).table = s.table := rfl
@[simp] theorem State.setPin_claims (s : State) (n : InputIx) (high : Bool) :
    (s.setPin n high).claims = s.claims := rfl
@[simp] theorem State.setPin_member (s : State) (n : InputIx) (high : Bool) :
    (s.setPin n high).member = s.member := rfl
@[simp] theorem State.setPin_channels (s : State) (n : InputIx) (high : Bool) :
    (s.setPin n high).channels = s.channels := rfl
@[simp] theorem State.setPin_masks (s : State) (n : InputIx) (high : Bool) :
    (s.setPin n high).masks = s.masks := rfl
@[simp] theorem State.setPin_calendar (s : State) (n : InputIx) (high : Bool) :
    (s.setPin n high).calendar = s.calendar := rfl
@[simp] theorem State.setPin_lastMinute (s : State) (n : InputIx) (high : Bool) :
    (s.setPin n high).lastMinute = s.lastMinute := rfl
@[simp] theorem State.setPin_inputs (s : State) (n : InputIx) (high : Bool) :
    (s.setPin n high).inputs = s.inputs := rfl
@[simp] theorem State.setPin_pins (s : State) (n : InputIx) (high : Bool) :
    (s.setPin n high).pins = s.pins.set n high := rfl
@[simp] theorem State.setPin_commands (s : State) (n : InputIx) (high : Bool) :
    (s.setPin n high).commands = s.commands := rfl
@[simp] theorem State.setPin_line (s : State) (n : InputIx) (high : Bool) : (s.setPin n high).line = s.line := rfl
@[simp] theorem State.setPin_report (s : State) (n : InputIx) (high : Bool) :
    (s.setPin n high).report = s.report := rfl

/-! ### setClaims -/

@[simp] theorem State.setClaims_pending (s : State) (u : ClaimUnit) : (s.setClaims u).pending = s.pending := rfl
@[simp] theorem State.setClaims_phase (s : State) (u : ClaimUnit) : (s.setClaims u).phase = s.phase := rfl
@[simp] theorem State.setClaims_heldResets (s : State) (u : ClaimUnit) :
    (s.setClaims u).heldResets = s.heldResets := rfl
@[simp] theorem State.setClaims_startPeriods (s : State) (u : ClaimUnit) :
    (s.setClaims u).startPeriods = s.startPeriods := rfl
@[simp] theorem State.setClaims_tickDivider (s : State) (u : ClaimUnit) :
    (s.setClaims u).tickDivider = s.tickDivider := rfl
@[simp] theorem State.setClaims_ticked (s : State) (u : ClaimUnit) :
    (s.setClaims u).ticked = s.ticked := rfl
@[simp] theorem State.setClaims_loader (s : State) (u : ClaimUnit) : (s.setClaims u).loader = s.loader := rfl
@[simp] theorem State.setClaims_dataIn (s : State) (u : ClaimUnit) : (s.setClaims u).dataIn = s.dataIn := rfl
@[simp] theorem State.setClaims_imageTaken (s : State) (u : ClaimUnit) :
    (s.setClaims u).imageTaken = s.imageTaken := rfl
@[simp] theorem State.setClaims_settings (s : State) (u : ClaimUnit) : (s.setClaims u).settings = s.settings := rfl
@[simp] theorem State.setClaims_table (s : State) (u : ClaimUnit) : (s.setClaims u).table = s.table := rfl
@[simp] theorem State.setClaims_claims (s : State) (u : ClaimUnit) : (s.setClaims u).claims = u := rfl
@[simp] theorem State.setClaims_member (s : State) (u : ClaimUnit) : (s.setClaims u).member = s.member := rfl
@[simp] theorem State.setClaims_channels (s : State) (u : ClaimUnit) : (s.setClaims u).channels = s.channels := rfl
@[simp] theorem State.setClaims_masks (s : State) (u : ClaimUnit) : (s.setClaims u).masks = s.masks := rfl
@[simp] theorem State.setClaims_calendar (s : State) (u : ClaimUnit) : (s.setClaims u).calendar = s.calendar := rfl
@[simp] theorem State.setClaims_lastMinute (s : State) (u : ClaimUnit) :
    (s.setClaims u).lastMinute = s.lastMinute := rfl
@[simp] theorem State.setClaims_inputs (s : State) (u : ClaimUnit) : (s.setClaims u).inputs = s.inputs := rfl
@[simp] theorem State.setClaims_pins (s : State) (u : ClaimUnit) : (s.setClaims u).pins = s.pins := rfl
@[simp] theorem State.setClaims_commands (s : State) (u : ClaimUnit) : (s.setClaims u).commands = s.commands := rfl
@[simp] theorem State.setClaims_line (s : State) (u : ClaimUnit) : (s.setClaims u).line = s.line := rfl
@[simp] theorem State.setClaims_report (s : State) (u : ClaimUnit) : (s.setClaims u).report = s.report := rfl

/-! ### setTable -/

@[simp] theorem State.setTable_pending (s : State) (t : List Holding) : (s.setTable t).pending = s.pending := rfl
@[simp] theorem State.setTable_phase (s : State) (t : List Holding) : (s.setTable t).phase = s.phase := rfl
@[simp] theorem State.setTable_heldResets (s : State) (t : List Holding) :
    (s.setTable t).heldResets = s.heldResets := rfl
@[simp] theorem State.setTable_startPeriods (s : State) (t : List Holding) :
    (s.setTable t).startPeriods = s.startPeriods := rfl
@[simp] theorem State.setTable_tickDivider (s : State) (t : List Holding) :
    (s.setTable t).tickDivider = s.tickDivider := rfl
@[simp] theorem State.setTable_ticked (s : State) (t : List Holding) :
    (s.setTable t).ticked = s.ticked := rfl
@[simp] theorem State.setTable_loader (s : State) (t : List Holding) : (s.setTable t).loader = s.loader := rfl
@[simp] theorem State.setTable_dataIn (s : State) (t : List Holding) : (s.setTable t).dataIn = s.dataIn := rfl
@[simp] theorem State.setTable_imageTaken (s : State) (t : List Holding) :
    (s.setTable t).imageTaken = s.imageTaken := rfl
@[simp] theorem State.setTable_settings (s : State) (t : List Holding) : (s.setTable t).settings = s.settings := rfl
@[simp] theorem State.setTable_table (s : State) (t : List Holding) : (s.setTable t).table = t := rfl
@[simp] theorem State.setTable_claims (s : State) (t : List Holding) : (s.setTable t).claims = s.claims := rfl
@[simp] theorem State.setTable_member (s : State) (t : List Holding) : (s.setTable t).member = s.member := rfl
@[simp] theorem State.setTable_channels (s : State) (t : List Holding) : (s.setTable t).channels = s.channels := rfl
@[simp] theorem State.setTable_masks (s : State) (t : List Holding) : (s.setTable t).masks = s.masks := rfl
@[simp] theorem State.setTable_calendar (s : State) (t : List Holding) : (s.setTable t).calendar = s.calendar := rfl
@[simp] theorem State.setTable_lastMinute (s : State) (t : List Holding) :
    (s.setTable t).lastMinute = s.lastMinute := rfl
@[simp] theorem State.setTable_inputs (s : State) (t : List Holding) : (s.setTable t).inputs = s.inputs := rfl
@[simp] theorem State.setTable_pins (s : State) (t : List Holding) : (s.setTable t).pins = s.pins := rfl
@[simp] theorem State.setTable_commands (s : State) (t : List Holding) : (s.setTable t).commands = s.commands := rfl
@[simp] theorem State.setTable_line (s : State) (t : List Holding) : (s.setTable t).line = s.line := rfl
@[simp] theorem State.setTable_report (s : State) (t : List Holding) : (s.setTable t).report = s.report := rfl

/-! ### setMember -/

@[simp] theorem State.setMember_pending (s : State) (m : Membership) : (s.setMember m).pending = s.pending := rfl
@[simp] theorem State.setMember_phase (s : State) (m : Membership) : (s.setMember m).phase = s.phase := rfl
@[simp] theorem State.setMember_heldResets (s : State) (m : Membership) :
    (s.setMember m).heldResets = s.heldResets := rfl
@[simp] theorem State.setMember_startPeriods (s : State) (m : Membership) :
    (s.setMember m).startPeriods = s.startPeriods := rfl
@[simp] theorem State.setMember_tickDivider (s : State) (m : Membership) :
    (s.setMember m).tickDivider = s.tickDivider := rfl
@[simp] theorem State.setMember_ticked (s : State) (m : Membership) :
    (s.setMember m).ticked = s.ticked := rfl
@[simp] theorem State.setMember_loader (s : State) (m : Membership) : (s.setMember m).loader = s.loader := rfl
@[simp] theorem State.setMember_dataIn (s : State) (m : Membership) : (s.setMember m).dataIn = s.dataIn := rfl
@[simp] theorem State.setMember_imageTaken (s : State) (m : Membership) :
    (s.setMember m).imageTaken = s.imageTaken := rfl
@[simp] theorem State.setMember_settings (s : State) (m : Membership) : (s.setMember m).settings = s.settings := rfl
@[simp] theorem State.setMember_table (s : State) (m : Membership) : (s.setMember m).table = s.table := rfl
@[simp] theorem State.setMember_claims (s : State) (m : Membership) : (s.setMember m).claims = s.claims := rfl
@[simp] theorem State.setMember_member (s : State) (m : Membership) : (s.setMember m).member = m := rfl
@[simp] theorem State.setMember_channels (s : State) (m : Membership) : (s.setMember m).channels = s.channels := rfl
@[simp] theorem State.setMember_masks (s : State) (m : Membership) : (s.setMember m).masks = s.masks := rfl
@[simp] theorem State.setMember_calendar (s : State) (m : Membership) : (s.setMember m).calendar = s.calendar := rfl
@[simp] theorem State.setMember_lastMinute (s : State) (m : Membership) :
    (s.setMember m).lastMinute = s.lastMinute := rfl
@[simp] theorem State.setMember_inputs (s : State) (m : Membership) : (s.setMember m).inputs = s.inputs := rfl
@[simp] theorem State.setMember_pins (s : State) (m : Membership) : (s.setMember m).pins = s.pins := rfl
@[simp] theorem State.setMember_commands (s : State) (m : Membership) : (s.setMember m).commands = s.commands := rfl
@[simp] theorem State.setMember_line (s : State) (m : Membership) : (s.setMember m).line = s.line := rfl
@[simp] theorem State.setMember_report (s : State) (m : Membership) : (s.setMember m).report = s.report := rfl

/-! ### setLine -/

@[simp] theorem State.setLine_pending (s : State) (l : LineInterface) : (s.setLine l).pending = s.pending := rfl
@[simp] theorem State.setLine_phase (s : State) (l : LineInterface) : (s.setLine l).phase = s.phase := rfl
@[simp] theorem State.setLine_heldResets (s : State) (l : LineInterface) :
    (s.setLine l).heldResets = s.heldResets := rfl
@[simp] theorem State.setLine_startPeriods (s : State) (l : LineInterface) :
    (s.setLine l).startPeriods = s.startPeriods := rfl
@[simp] theorem State.setLine_tickDivider (s : State) (l : LineInterface) :
    (s.setLine l).tickDivider = s.tickDivider := rfl
@[simp] theorem State.setLine_ticked (s : State) (l : LineInterface) :
    (s.setLine l).ticked = s.ticked := rfl
@[simp] theorem State.setLine_loader (s : State) (l : LineInterface) : (s.setLine l).loader = s.loader := rfl
@[simp] theorem State.setLine_dataIn (s : State) (l : LineInterface) : (s.setLine l).dataIn = s.dataIn := rfl
@[simp] theorem State.setLine_imageTaken (s : State) (l : LineInterface) :
    (s.setLine l).imageTaken = s.imageTaken := rfl
@[simp] theorem State.setLine_settings (s : State) (l : LineInterface) : (s.setLine l).settings = s.settings := rfl
@[simp] theorem State.setLine_table (s : State) (l : LineInterface) : (s.setLine l).table = s.table := rfl
@[simp] theorem State.setLine_claims (s : State) (l : LineInterface) : (s.setLine l).claims = s.claims := rfl
@[simp] theorem State.setLine_member (s : State) (l : LineInterface) : (s.setLine l).member = s.member := rfl
@[simp] theorem State.setLine_channels (s : State) (l : LineInterface) : (s.setLine l).channels = s.channels := rfl
@[simp] theorem State.setLine_masks (s : State) (l : LineInterface) : (s.setLine l).masks = s.masks := rfl
@[simp] theorem State.setLine_calendar (s : State) (l : LineInterface) : (s.setLine l).calendar = s.calendar := rfl
@[simp] theorem State.setLine_lastMinute (s : State) (l : LineInterface) :
    (s.setLine l).lastMinute = s.lastMinute := rfl
@[simp] theorem State.setLine_inputs (s : State) (l : LineInterface) : (s.setLine l).inputs = s.inputs := rfl
@[simp] theorem State.setLine_pins (s : State) (l : LineInterface) : (s.setLine l).pins = s.pins := rfl
@[simp] theorem State.setLine_commands (s : State) (l : LineInterface) : (s.setLine l).commands = s.commands := rfl
@[simp] theorem State.setLine_line (s : State) (l : LineInterface) : (s.setLine l).line = l := rfl
@[simp] theorem State.setLine_report (s : State) (l : LineInterface) : (s.setLine l).report = s.report := rfl

/-! ### setOffers -/

@[simp] theorem State.setOffers_pending (s : State) (o : OfferSet) : (s.setOffers o).pending = s.pending := rfl
@[simp] theorem State.setOffers_phase (s : State) (o : OfferSet) : (s.setOffers o).phase = s.phase := rfl
@[simp] theorem State.setOffers_heldResets (s : State) (o : OfferSet) :
    (s.setOffers o).heldResets = s.heldResets := rfl
@[simp] theorem State.setOffers_startPeriods (s : State) (o : OfferSet) :
    (s.setOffers o).startPeriods = s.startPeriods := rfl
@[simp] theorem State.setOffers_tickDivider (s : State) (o : OfferSet) :
    (s.setOffers o).tickDivider = s.tickDivider := rfl
@[simp] theorem State.setOffers_ticked (s : State) (o : OfferSet) :
    (s.setOffers o).ticked = s.ticked := rfl
@[simp] theorem State.setOffers_loader (s : State) (o : OfferSet) : (s.setOffers o).loader = s.loader := rfl
@[simp] theorem State.setOffers_dataIn (s : State) (o : OfferSet) : (s.setOffers o).dataIn = s.dataIn := rfl
@[simp] theorem State.setOffers_imageTaken (s : State) (o : OfferSet) :
    (s.setOffers o).imageTaken = s.imageTaken := rfl
@[simp] theorem State.setOffers_settings (s : State) (o : OfferSet) : (s.setOffers o).settings = s.settings := rfl
@[simp] theorem State.setOffers_table (s : State) (o : OfferSet) : (s.setOffers o).table = s.table := rfl
@[simp] theorem State.setOffers_claims (s : State) (o : OfferSet) : (s.setOffers o).claims = s.claims := rfl
@[simp] theorem State.setOffers_member (s : State) (o : OfferSet) : (s.setOffers o).member = s.member := rfl
@[simp] theorem State.setOffers_channels (s : State) (o : OfferSet) : (s.setOffers o).channels = s.channels := rfl
@[simp] theorem State.setOffers_masks (s : State) (o : OfferSet) : (s.setOffers o).masks = s.masks := rfl
@[simp] theorem State.setOffers_calendar (s : State) (o : OfferSet) : (s.setOffers o).calendar = s.calendar := rfl
@[simp] theorem State.setOffers_lastMinute (s : State) (o : OfferSet) :
    (s.setOffers o).lastMinute = s.lastMinute := rfl
@[simp] theorem State.setOffers_inputs (s : State) (o : OfferSet) : (s.setOffers o).inputs = s.inputs := rfl
@[simp] theorem State.setOffers_pins (s : State) (o : OfferSet) : (s.setOffers o).pins = s.pins := rfl
@[simp] theorem State.setOffers_commands (s : State) (o : OfferSet) : (s.setOffers o).commands = s.commands := rfl
@[simp] theorem State.setOffers_line (s : State) (o : OfferSet) :
    (s.setOffers o).line = { s.line with offers := o } := rfl
@[simp] theorem State.setOffers_report (s : State) (o : OfferSet) : (s.setOffers o).report = s.report := rfl

/-! ### setReport -/

@[simp] theorem State.setReport_pending (s : State) (r : ReportUnit) : (s.setReport r).pending = s.pending := rfl
@[simp] theorem State.setReport_phase (s : State) (r : ReportUnit) : (s.setReport r).phase = s.phase := rfl
@[simp] theorem State.setReport_heldResets (s : State) (r : ReportUnit) :
    (s.setReport r).heldResets = s.heldResets := rfl
@[simp] theorem State.setReport_startPeriods (s : State) (r : ReportUnit) :
    (s.setReport r).startPeriods = s.startPeriods := rfl
@[simp] theorem State.setReport_tickDivider (s : State) (r : ReportUnit) :
    (s.setReport r).tickDivider = s.tickDivider := rfl
@[simp] theorem State.setReport_ticked (s : State) (r : ReportUnit) :
    (s.setReport r).ticked = s.ticked := rfl
@[simp] theorem State.setReport_loader (s : State) (r : ReportUnit) : (s.setReport r).loader = s.loader := rfl
@[simp] theorem State.setReport_dataIn (s : State) (r : ReportUnit) : (s.setReport r).dataIn = s.dataIn := rfl
@[simp] theorem State.setReport_imageTaken (s : State) (r : ReportUnit) :
    (s.setReport r).imageTaken = s.imageTaken := rfl
@[simp] theorem State.setReport_settings (s : State) (r : ReportUnit) : (s.setReport r).settings = s.settings := rfl
@[simp] theorem State.setReport_table (s : State) (r : ReportUnit) : (s.setReport r).table = s.table := rfl
@[simp] theorem State.setReport_claims (s : State) (r : ReportUnit) : (s.setReport r).claims = s.claims := rfl
@[simp] theorem State.setReport_member (s : State) (r : ReportUnit) : (s.setReport r).member = s.member := rfl
@[simp] theorem State.setReport_channels (s : State) (r : ReportUnit) : (s.setReport r).channels = s.channels := rfl
@[simp] theorem State.setReport_masks (s : State) (r : ReportUnit) : (s.setReport r).masks = s.masks := rfl
@[simp] theorem State.setReport_calendar (s : State) (r : ReportUnit) : (s.setReport r).calendar = s.calendar := rfl
@[simp] theorem State.setReport_lastMinute (s : State) (r : ReportUnit) :
    (s.setReport r).lastMinute = s.lastMinute := rfl
@[simp] theorem State.setReport_inputs (s : State) (r : ReportUnit) : (s.setReport r).inputs = s.inputs := rfl
@[simp] theorem State.setReport_pins (s : State) (r : ReportUnit) : (s.setReport r).pins = s.pins := rfl
@[simp] theorem State.setReport_commands (s : State) (r : ReportUnit) : (s.setReport r).commands = s.commands := rfl
@[simp] theorem State.setReport_line (s : State) (r : ReportUnit) : (s.setReport r).line = s.line := rfl
@[simp] theorem State.setReport_report (s : State) (r : ReportUnit) : (s.setReport r).report = r := rfl

/-! ### setFaults -/

@[simp] theorem State.setFaults_pending (s : State) (f : FaultSet) : (s.setFaults f).pending = s.pending := rfl
@[simp] theorem State.setFaults_phase (s : State) (f : FaultSet) : (s.setFaults f).phase = s.phase := rfl
@[simp] theorem State.setFaults_heldResets (s : State) (f : FaultSet) :
    (s.setFaults f).heldResets = s.heldResets := rfl
@[simp] theorem State.setFaults_startPeriods (s : State) (f : FaultSet) :
    (s.setFaults f).startPeriods = s.startPeriods := rfl
@[simp] theorem State.setFaults_tickDivider (s : State) (f : FaultSet) :
    (s.setFaults f).tickDivider = s.tickDivider := rfl
@[simp] theorem State.setFaults_ticked (s : State) (f : FaultSet) :
    (s.setFaults f).ticked = s.ticked := rfl
@[simp] theorem State.setFaults_loader (s : State) (f : FaultSet) : (s.setFaults f).loader = s.loader := rfl
@[simp] theorem State.setFaults_dataIn (s : State) (f : FaultSet) : (s.setFaults f).dataIn = s.dataIn := rfl
@[simp] theorem State.setFaults_imageTaken (s : State) (f : FaultSet) :
    (s.setFaults f).imageTaken = s.imageTaken := rfl
@[simp] theorem State.setFaults_settings (s : State) (f : FaultSet) : (s.setFaults f).settings = s.settings := rfl
@[simp] theorem State.setFaults_table (s : State) (f : FaultSet) : (s.setFaults f).table = s.table := rfl
@[simp] theorem State.setFaults_claims (s : State) (f : FaultSet) : (s.setFaults f).claims = s.claims := rfl
@[simp] theorem State.setFaults_member (s : State) (f : FaultSet) : (s.setFaults f).member = s.member := rfl
@[simp] theorem State.setFaults_channels (s : State) (f : FaultSet) : (s.setFaults f).channels = s.channels := rfl
@[simp] theorem State.setFaults_masks (s : State) (f : FaultSet) : (s.setFaults f).masks = s.masks := rfl
@[simp] theorem State.setFaults_calendar (s : State) (f : FaultSet) : (s.setFaults f).calendar = s.calendar := rfl
@[simp] theorem State.setFaults_lastMinute (s : State) (f : FaultSet) :
    (s.setFaults f).lastMinute = s.lastMinute := rfl
@[simp] theorem State.setFaults_inputs (s : State) (f : FaultSet) : (s.setFaults f).inputs = s.inputs := rfl
@[simp] theorem State.setFaults_pins (s : State) (f : FaultSet) : (s.setFaults f).pins = s.pins := rfl
@[simp] theorem State.setFaults_commands (s : State) (f : FaultSet) : (s.setFaults f).commands = s.commands := rfl
@[simp] theorem State.setFaults_line (s : State) (f : FaultSet) : (s.setFaults f).line = s.line := rfl
@[simp] theorem State.setFaults_report (s : State) (f : FaultSet) :
    (s.setFaults f).report = { s.report with faults := f } := rfl

/-! ### setCounters -/

@[simp] theorem State.setCounters_pending (s : State) (c : Counters) : (s.setCounters c).pending = s.pending := rfl
@[simp] theorem State.setCounters_phase (s : State) (c : Counters) : (s.setCounters c).phase = s.phase := rfl
@[simp] theorem State.setCounters_heldResets (s : State) (c : Counters) :
    (s.setCounters c).heldResets = s.heldResets := rfl
@[simp] theorem State.setCounters_startPeriods (s : State) (c : Counters) :
    (s.setCounters c).startPeriods = s.startPeriods := rfl
@[simp] theorem State.setCounters_tickDivider (s : State) (c : Counters) :
    (s.setCounters c).tickDivider = s.tickDivider := rfl
@[simp] theorem State.setCounters_ticked (s : State) (c : Counters) :
    (s.setCounters c).ticked = s.ticked := rfl
@[simp] theorem State.setCounters_loader (s : State) (c : Counters) : (s.setCounters c).loader = s.loader := rfl
@[simp] theorem State.setCounters_dataIn (s : State) (c : Counters) : (s.setCounters c).dataIn = s.dataIn := rfl
@[simp] theorem State.setCounters_imageTaken (s : State) (c : Counters) :
    (s.setCounters c).imageTaken = s.imageTaken := rfl
@[simp] theorem State.setCounters_settings (s : State) (c : Counters) : (s.setCounters c).settings = s.settings := rfl
@[simp] theorem State.setCounters_table (s : State) (c : Counters) : (s.setCounters c).table = s.table := rfl
@[simp] theorem State.setCounters_claims (s : State) (c : Counters) : (s.setCounters c).claims = s.claims := rfl
@[simp] theorem State.setCounters_member (s : State) (c : Counters) : (s.setCounters c).member = s.member := rfl
@[simp] theorem State.setCounters_channels (s : State) (c : Counters) : (s.setCounters c).channels = s.channels := rfl
@[simp] theorem State.setCounters_masks (s : State) (c : Counters) : (s.setCounters c).masks = s.masks := rfl
@[simp] theorem State.setCounters_calendar (s : State) (c : Counters) : (s.setCounters c).calendar = s.calendar := rfl
@[simp] theorem State.setCounters_lastMinute (s : State) (c : Counters) :
    (s.setCounters c).lastMinute = s.lastMinute := rfl
@[simp] theorem State.setCounters_inputs (s : State) (c : Counters) : (s.setCounters c).inputs = s.inputs := rfl
@[simp] theorem State.setCounters_pins (s : State) (c : Counters) : (s.setCounters c).pins = s.pins := rfl
@[simp] theorem State.setCounters_commands (s : State) (c : Counters) : (s.setCounters c).commands = s.commands := rfl
@[simp] theorem State.setCounters_line (s : State) (c : Counters) : (s.setCounters c).line = s.line := rfl
@[simp] theorem State.setCounters_report (s : State) (c : Counters) :
    (s.setCounters c).report = { s.report with counters := c } := rfl

/-! ### setCommands -/

@[simp] theorem State.setCommands_pending (s : State) (q : CommandQueue) :
    (s.setCommands q).pending = s.pending := rfl
@[simp] theorem State.setCommands_phase (s : State) (q : CommandQueue) : (s.setCommands q).phase = s.phase := rfl
@[simp] theorem State.setCommands_heldResets (s : State) (q : CommandQueue) :
    (s.setCommands q).heldResets = s.heldResets := rfl
@[simp] theorem State.setCommands_startPeriods (s : State) (q : CommandQueue) :
    (s.setCommands q).startPeriods = s.startPeriods := rfl
@[simp] theorem State.setCommands_tickDivider (s : State) (q : CommandQueue) :
    (s.setCommands q).tickDivider = s.tickDivider := rfl
@[simp] theorem State.setCommands_ticked (s : State) (q : CommandQueue) :
    (s.setCommands q).ticked = s.ticked := rfl
@[simp] theorem State.setCommands_loader (s : State) (q : CommandQueue) : (s.setCommands q).loader = s.loader := rfl
@[simp] theorem State.setCommands_dataIn (s : State) (q : CommandQueue) : (s.setCommands q).dataIn = s.dataIn := rfl
@[simp] theorem State.setCommands_imageTaken (s : State) (q : CommandQueue) :
    (s.setCommands q).imageTaken = s.imageTaken := rfl
@[simp] theorem State.setCommands_settings (s : State) (q : CommandQueue) :
    (s.setCommands q).settings = s.settings := rfl
@[simp] theorem State.setCommands_table (s : State) (q : CommandQueue) : (s.setCommands q).table = s.table := rfl
@[simp] theorem State.setCommands_claims (s : State) (q : CommandQueue) : (s.setCommands q).claims = s.claims := rfl
@[simp] theorem State.setCommands_member (s : State) (q : CommandQueue) : (s.setCommands q).member = s.member := rfl
@[simp] theorem State.setCommands_channels (s : State) (q : CommandQueue) :
    (s.setCommands q).channels = s.channels := rfl
@[simp] theorem State.setCommands_masks (s : State) (q : CommandQueue) : (s.setCommands q).masks = s.masks := rfl
@[simp] theorem State.setCommands_calendar (s : State) (q : CommandQueue) :
    (s.setCommands q).calendar = s.calendar := rfl
@[simp] theorem State.setCommands_lastMinute (s : State) (q : CommandQueue) :
    (s.setCommands q).lastMinute = s.lastMinute := rfl
@[simp] theorem State.setCommands_inputs (s : State) (q : CommandQueue) : (s.setCommands q).inputs = s.inputs := rfl
@[simp] theorem State.setCommands_pins (s : State) (q : CommandQueue) : (s.setCommands q).pins = s.pins := rfl
@[simp] theorem State.setCommands_commands (s : State) (q : CommandQueue) : (s.setCommands q).commands = q := rfl
@[simp] theorem State.setCommands_line (s : State) (q : CommandQueue) : (s.setCommands q).line = s.line := rfl
@[simp] theorem State.setCommands_report (s : State) (q : CommandQueue) : (s.setCommands q).report = s.report := rfl

/-! ### setCalendar -/

@[simp] theorem State.setCalendar_pending (s : State) (c : Calendar) : (s.setCalendar c).pending = s.pending := rfl
@[simp] theorem State.setCalendar_phase (s : State) (c : Calendar) : (s.setCalendar c).phase = s.phase := rfl
@[simp] theorem State.setCalendar_heldResets (s : State) (c : Calendar) :
    (s.setCalendar c).heldResets = s.heldResets := rfl
@[simp] theorem State.setCalendar_startPeriods (s : State) (c : Calendar) :
    (s.setCalendar c).startPeriods = s.startPeriods := rfl
@[simp] theorem State.setCalendar_tickDivider (s : State) (c : Calendar) :
    (s.setCalendar c).tickDivider = s.tickDivider := rfl
@[simp] theorem State.setCalendar_ticked (s : State) (c : Calendar) :
    (s.setCalendar c).ticked = s.ticked := rfl
@[simp] theorem State.setCalendar_loader (s : State) (c : Calendar) : (s.setCalendar c).loader = s.loader := rfl
@[simp] theorem State.setCalendar_dataIn (s : State) (c : Calendar) : (s.setCalendar c).dataIn = s.dataIn := rfl
@[simp] theorem State.setCalendar_imageTaken (s : State) (c : Calendar) :
    (s.setCalendar c).imageTaken = s.imageTaken := rfl
@[simp] theorem State.setCalendar_settings (s : State) (c : Calendar) : (s.setCalendar c).settings = s.settings := rfl
@[simp] theorem State.setCalendar_table (s : State) (c : Calendar) : (s.setCalendar c).table = s.table := rfl
@[simp] theorem State.setCalendar_claims (s : State) (c : Calendar) : (s.setCalendar c).claims = s.claims := rfl
@[simp] theorem State.setCalendar_member (s : State) (c : Calendar) : (s.setCalendar c).member = s.member := rfl
@[simp] theorem State.setCalendar_channels (s : State) (c : Calendar) : (s.setCalendar c).channels = s.channels := rfl
@[simp] theorem State.setCalendar_masks (s : State) (c : Calendar) : (s.setCalendar c).masks = s.masks := rfl
@[simp] theorem State.setCalendar_calendar (s : State) (c : Calendar) : (s.setCalendar c).calendar = c := rfl
@[simp] theorem State.setCalendar_lastMinute (s : State) (c : Calendar) :
    (s.setCalendar c).lastMinute = s.lastMinute := rfl
@[simp] theorem State.setCalendar_inputs (s : State) (c : Calendar) : (s.setCalendar c).inputs = s.inputs := rfl
@[simp] theorem State.setCalendar_pins (s : State) (c : Calendar) : (s.setCalendar c).pins = s.pins := rfl
@[simp] theorem State.setCalendar_commands (s : State) (c : Calendar) : (s.setCalendar c).commands = s.commands := rfl
@[simp] theorem State.setCalendar_line (s : State) (c : Calendar) : (s.setCalendar c).line = s.line := rfl
@[simp] theorem State.setCalendar_report (s : State) (c : Calendar) : (s.setCalendar c).report = s.report := rfl

/-! ### setMasks -/

@[simp] theorem State.setMasks_pending (s : State) (m : InhibitMasks) : (s.setMasks m).pending = s.pending := rfl
@[simp] theorem State.setMasks_phase (s : State) (m : InhibitMasks) : (s.setMasks m).phase = s.phase := rfl
@[simp] theorem State.setMasks_heldResets (s : State) (m : InhibitMasks) :
    (s.setMasks m).heldResets = s.heldResets := rfl
@[simp] theorem State.setMasks_startPeriods (s : State) (m : InhibitMasks) :
    (s.setMasks m).startPeriods = s.startPeriods := rfl
@[simp] theorem State.setMasks_tickDivider (s : State) (m : InhibitMasks) :
    (s.setMasks m).tickDivider = s.tickDivider := rfl
@[simp] theorem State.setMasks_ticked (s : State) (m : InhibitMasks) :
    (s.setMasks m).ticked = s.ticked := rfl
@[simp] theorem State.setMasks_loader (s : State) (m : InhibitMasks) : (s.setMasks m).loader = s.loader := rfl
@[simp] theorem State.setMasks_dataIn (s : State) (m : InhibitMasks) : (s.setMasks m).dataIn = s.dataIn := rfl
@[simp] theorem State.setMasks_imageTaken (s : State) (m : InhibitMasks) :
    (s.setMasks m).imageTaken = s.imageTaken := rfl
@[simp] theorem State.setMasks_settings (s : State) (m : InhibitMasks) : (s.setMasks m).settings = s.settings := rfl
@[simp] theorem State.setMasks_table (s : State) (m : InhibitMasks) : (s.setMasks m).table = s.table := rfl
@[simp] theorem State.setMasks_claims (s : State) (m : InhibitMasks) : (s.setMasks m).claims = s.claims := rfl
@[simp] theorem State.setMasks_member (s : State) (m : InhibitMasks) : (s.setMasks m).member = s.member := rfl
@[simp] theorem State.setMasks_channels (s : State) (m : InhibitMasks) : (s.setMasks m).channels = s.channels := rfl
@[simp] theorem State.setMasks_masks (s : State) (m : InhibitMasks) : (s.setMasks m).masks = m := rfl
@[simp] theorem State.setMasks_calendar (s : State) (m : InhibitMasks) : (s.setMasks m).calendar = s.calendar := rfl
@[simp] theorem State.setMasks_lastMinute (s : State) (m : InhibitMasks) :
    (s.setMasks m).lastMinute = s.lastMinute := rfl
@[simp] theorem State.setMasks_inputs (s : State) (m : InhibitMasks) : (s.setMasks m).inputs = s.inputs := rfl
@[simp] theorem State.setMasks_pins (s : State) (m : InhibitMasks) : (s.setMasks m).pins = s.pins := rfl
@[simp] theorem State.setMasks_commands (s : State) (m : InhibitMasks) : (s.setMasks m).commands = s.commands := rfl
@[simp] theorem State.setMasks_line (s : State) (m : InhibitMasks) : (s.setMasks m).line = s.line := rfl
@[simp] theorem State.setMasks_report (s : State) (m : InhibitMasks) : (s.setMasks m).report = s.report := rfl

/-! ### Channels after a write elsewhere -/

@[simp] theorem State.channel_setInput (s : State) (n : InputIx) (i : InputState) (k : ChannelIx) :
    (s.setInput n i).channel k = s.channel k := rfl
@[simp] theorem State.channel_setClaims (s : State) (u : ClaimUnit) (k : ChannelIx) :
    (s.setClaims u).channel k = s.channel k := rfl
@[simp] theorem State.channel_setTable (s : State) (t : List Holding) (k : ChannelIx) :
    (s.setTable t).channel k = s.channel k := rfl
@[simp] theorem State.channel_setMember (s : State) (m : Membership) (k : ChannelIx) :
    (s.setMember m).channel k = s.channel k := rfl
@[simp] theorem State.channel_setLine (s : State) (l : LineInterface) (k : ChannelIx) :
    (s.setLine l).channel k = s.channel k := rfl
@[simp] theorem State.channel_setOffers (s : State) (o : OfferSet) (k : ChannelIx) :
    (s.setOffers o).channel k = s.channel k := rfl
@[simp] theorem State.channel_setReport (s : State) (r : ReportUnit) (k : ChannelIx) :
    (s.setReport r).channel k = s.channel k := rfl
@[simp] theorem State.channel_setFaults (s : State) (f : FaultSet) (k : ChannelIx) :
    (s.setFaults f).channel k = s.channel k := rfl
@[simp] theorem State.channel_setCounters (s : State) (c : Counters) (k : ChannelIx) :
    (s.setCounters c).channel k = s.channel k := rfl
@[simp] theorem State.channel_setCommands (s : State) (q : CommandQueue) (k : ChannelIx) :
    (s.setCommands q).channel k = s.channel k := rfl
@[simp] theorem State.channel_setCalendar (s : State) (c : Calendar) (k : ChannelIx) :
    (s.setCalendar c).channel k = s.channel k := rfl
@[simp] theorem State.channel_setMasks (s : State) (m : InhibitMasks) (k : ChannelIx) :
    (s.setMasks m).channel k = s.channel k := rfl

/-! ### Channels read back -/

@[simp] theorem State.channel_setChannel_self (s : State) (n : ChannelIx) (c : Channel) :
    (s.setChannel n c).channel n = c := by
  simp [State.channel]

@[simp] theorem State.channel_setChannel_ne (s : State) (n m : ChannelIx) (c : Channel) (h : m ≠ n) :
    (s.setChannel n c).channel m = s.channel m := by
  have hv : n.val ≠ m.val := fun he => h (Fin.ext he.symm)
  simp [State.channel, hv]

@[simp] theorem State.channelState_setChannelState_self (s : State) (n : ChannelIx) (c : ChannelState) :
    (s.setChannelState n c).channelState n = c := by
  simp [State.channelState, State.channel]

@[simp] theorem State.channelState_setChannelState_ne (s : State) (n m : ChannelIx) (c : ChannelState) (h : m ≠ n) :
    (s.setChannelState n c).channelState m = s.channelState m := by
  have hv : n.val ≠ m.val := fun he => h (Fin.ext he.symm)
  simp [State.channelState, State.channel, hv]

end Sys2Proof.Machine
end

