-- ==== Sys2Proof/Laws/Work.lean ====
section
/-! SUPPORT. What each shared operation can change, said once: an operation that does claim work changes the claim unit,
the channels and the offers, and nothing else; one that does mask work changes the inhibit masks beside them. -/

namespace Sys2Proof.Machine

/-- From s to t only the claim unit, the channels and the offer set may differ. -/
def ClaimWork (s t : State) : Prop :=
  { s with claims := t.claims, channels := t.channels, line := { s.line with offers := t.line.offers } } = t

/-- From s to t only the claim unit, the channels, the offer set and the inhibit masks may differ. -/
def MaskWork (s t : State) : Prop :=
  { s with
    claims := t.claims, channels := t.channels, masks := t.masks
    line := { s.line with offers := t.line.offers } } = t

theorem ClaimWork.refl (s : State) : ClaimWork s s := rfl

theorem ClaimWork.trans {s t u : State} (h : ClaimWork s t) (k : ClaimWork t u) : ClaimWork s u := by
  unfold ClaimWork at *
  rw [← h] at k
  exact k

theorem MaskWork.refl (s : State) : MaskWork s s := rfl

theorem MaskWork.trans {s t u : State} (h : MaskWork s t) (k : MaskWork t u) : MaskWork s u := by
  unfold MaskWork at *
  rw [← h] at k
  exact k

theorem ClaimWork.maskWork {s t : State} (h : ClaimWork s t) : MaskWork s t := by
  unfold ClaimWork at h
  unfold MaskWork
  rw [← h]

/-- What claim work leaves as it was. -/
theorem ClaimWork.frame {s t : State} (h : ClaimWork s t) :
    t.pending = s.pending ∧ t.phase = s.phase ∧ t.settings = s.settings ∧ t.imageTaken = s.imageTaken ∧
      t.table = s.table ∧ t.member = s.member ∧ t.masks = s.masks ∧ t.calendar = s.calendar ∧
      t.lastMinute = s.lastMinute ∧ t.inputs = s.inputs ∧ t.pins = s.pins ∧ t.commands = s.commands ∧
      t.report = s.report ∧ t.line.activity = s.line.activity ∧ t.line.sendStreak = s.line.sendStreak ∧
      t.line.vetoStreak = s.line.vetoStreak ∧ t.line.courtesyGap = s.line.courtesyGap := by
  rw [← h]
  simp

/-- A fold of operations that do claim work does claim work. -/
theorem ClaimWork.foldl {α : Type} {f : State → α → State} (hf : ∀ s a, ClaimWork s (f s a)) (l : List α) (s : State) :
    ClaimWork s (l.foldl f s) := by
  induction l generalizing s with
  | nil => exact .refl s
  | cons a l ih => exact (hf s a).trans (ih _)

/-- A fold of operations that do mask work does mask work. -/
theorem MaskWork.foldl {α : Type} {f : State → α → State} (hf : ∀ s a, MaskWork s (f s a)) (l : List α) (s : State) :
    MaskWork s (l.foldl f s) := by
  induction l generalizing s with
  | nil => exact .refl s
  | cons a l ih => exact (hf s a).trans (ih _)

/-! ## Writes -/

theorem setClaims_work (s : State) (u : ClaimUnit) : ClaimWork s (s.setClaims u) := rfl
theorem setChannel_work (s : State) (n : ChannelIx) (c : Channel) : ClaimWork s (s.setChannel n c) := rfl
theorem setChannelState_work (s : State) (n : ChannelIx) (c : ChannelState) : ClaimWork s (s.setChannelState n c) := rfl
theorem setOffers_work (s : State) (o : OfferSet) : ClaimWork s (s.setOffers o) := rfl

/-! ## Channels -/

theorem beginRest_work (s : State) (n : ChannelIx) : ClaimWork s (s.beginRest n) := by
  unfold State.beginRest; split <;> rfl
theorem enterStopping_work (s : State) (n : ChannelIx) : ClaimWork s (s.enterStopping n) := rfl
theorem endStopping_work (s : State) (n : ChannelIx) : ClaimWork s (s.endStopping n) := rfl
theorem switchOn_work (s : State) (n : ChannelIx) (d : Demand) : ClaimWork s (s.switchOn n d) := rfl

theorem switchOff_work (s : State) (n : ChannelIx) : ClaimWork s (s.switchOff n) := by
  unfold State.switchOff
  refine ClaimWork.trans ?_ (beginRest_work _ n)
  split
  · exact setChannelState_work s n .off
  · exact enterStopping_work s n

theorem requeue_work (s : State) (n : ChannelIx) (d : Demand) : ClaimWork s (s.requeue n d) := by
  unfold State.requeue; split <;> rfl

/-- A channel that leaves ON: its state, and its rest timer, which starts at the rest setting (R85, R88, R92). -/
theorem switchOff_channel (s : State) (n : ChannelIx) :
    (s.switchOff n).channel n =
      { state := if s.exempt n then .off else .stopping
        rest := if (s.channelSettings n).rest = 0 then (s.channel n).rest
          else (s.channelSettings n).rest * Config.ticksPerSecond } := by
  by_cases he : s.exempt n <;> by_cases hr : (s.settings.channels[n]).rest = 0 <;>
    simp_all [State.switchOff, State.beginRest, State.enterStopping, State.setChannelState, State.channelSettings]

/-! ## The judgement -/

theorem serveEntry_work (s : State) (e : Entry) : ClaimWork s (s.serveEntry e) := by
  unfold State.serveEntry; split <;> rfl
theorem serveExempt_work (s : State) : ClaimWork s s.serveExempt := ClaimWork.foldl serveEntry_work _ s
theorem takeUp_work (s : State) (e : Entry) : ClaimWork s (s.takeUp e) := rfl

theorem offerClaim_work (s : State) : ClaimWork s s.offerClaim := by
  unfold State.offerClaim
  repeat' split
  all_goals rfl

theorem judge_work (s : State) : ClaimWork s s.judge := (serveExempt_work s).trans (offerClaim_work _)

/-- Serving an entry moves no channel that is not OFF. -/
theorem serveEntry_channel (s : State) (e : Entry) (n : ChannelIx) (h : s.channelState n ≠ .off) :
    (s.serveEntry e).channel n = s.channel n := by
  unfold State.serveEntry
  split
  · rename_i hs
    have hn : n ≠ e.channel := by
      rintro rfl
      simp [State.ready, ChannelState.isOff] at hs
    unfold State.switchOn State.setChannelState
    rw [State.channel_setChannel_ne _ _ _ _ hn]
    rfl
  · rfl

theorem foldl_serveEntry_channel (l : List Entry) (s : State) (n : ChannelIx) (h : s.channelState n ≠ .off) :
    (l.foldl State.serveEntry s).channel n = s.channel n := by
  induction l generalizing s with
  | nil => rfl
  | cons e l ih =>
    have hc := serveEntry_channel s e n h
    have hs : (s.serveEntry e).channelState n ≠ .off := by
      rw [State.channelState, hc]; exact h
    rw [List.foldl_cons, ih _ hs, hc]

/-- The judgement moves no channel that is not OFF (R41, R42, R45). -/
theorem judge_channel (s : State) (n : ChannelIx) (h : s.channelState n ≠ .off) :
    s.judge.channel n = s.channel n := by
  have hc : s.serveExempt.channel n = s.channel n := foldl_serveEntry_channel _ s n h
  have hs : s.serveExempt.channelState n ≠ .off := by
    rw [State.channelState, hc]; exact h
  rw [← hc]
  unfold State.judge State.offerClaim
  repeat' split
  all_goals try rfl
  rename_i e he _
  have hn : n ≠ e.channel := by
    rintro rfl
    have hq := List.find?_some he
    simp [State.qualifies, State.ready, ChannelState.isOff] at hq
  unfold State.takeUp State.setChannelState
  rw [State.channel_setOffers, State.channel_setChannel_ne _ _ _ _ hn]
  rfl

/-! ## The claim's ends, START, STOP and TOGGLE -/

theorem dropClaim_work (s : State) (c : OutstandingClaim) : ClaimWork s (s.dropClaim c) := rfl
theorem returnClaim_work (s : State) (c : OutstandingClaim) (hold : Bool) : ClaimWork s (s.returnClaim c hold) := rfl

theorem start_work (s : State) (n : ChannelIx) (cls : Class) (allowance : Option Nat) :
    ClaimWork s (s.start n cls allowance) := by
  unfold State.start
  dsimp only
  repeat' split
  all_goals first | rfl | exact (setClaims_work s _).trans (judge_work _)

theorem stopChannel_work (s : State) (n : ChannelIx) : ClaimWork s (s.stopChannel n) := by
  unfold State.stopChannel
  repeat' split
  all_goals first | rfl | exact switchOff_work s n

theorem stop_work (s : State) (n : ChannelIx) : ClaimWork s (s.stop n) :=
  (setClaims_work s _).trans ((stopChannel_work _ n).trans (judge_work _))

theorem toggle_work (s : State) (n : ChannelIx) (cls : Class) (allowance : Option Nat) :
    ClaimWork s (s.toggle n cls allowance) := by
  unfold State.toggle
  split
  · exact stop_work s n
  · exact start_work s n cls allowance

theorem act_work (s : State) (a : DemandAction) (n : ChannelIx) (cls : Class) (duration : Nat) :
    ClaimWork s (s.act a n cls duration) := by
  cases a
  · exact start_work s n cls _
  · exact stop_work s n
  · exact toggle_work s n cls _

/-! ## Inhibits -/

theorem becomeInhibited_work (s : State) (n : ChannelIx) : ClaimWork s (s.becomeInhibited n) := by
  unfold State.becomeInhibited
  repeat' split
  all_goals first
    | rfl
    | exact (enterStopping_work s n).trans (requeue_work _ n _)
    | exact (switchOff_work s n).trans (requeue_work _ n _)

theorem changeMasks_work (s : State) (m : InhibitMasks) : MaskWork s (s.changeMasks m) := by
  refine MaskWork.trans (t := s.setMasks m) rfl (MaskWork.trans ?_ (judge_work _).maskWork)
  refine MaskWork.foldl (fun t n => ?_) allEight _
  split
  · exact (becomeInhibited_work t n).maskWork
  · exact .refl t

theorem changeMasks_masks (s : State) (m : InhibitMasks) : (s.changeMasks m).masks = m := by
  have h : ClaimWork (s.setMasks m) (s.changeMasks m) := by
    refine ClaimWork.trans (ClaimWork.foldl (fun t n => ?_) allEight _) (judge_work _)
    split
    · exact becomeInhibited_work t n
    · exact .refl t
  exact h.frame.2.2.2.2.2.2.1

/-! ## Own-record events and the table's signals -/

theorem ownShed_work (s : State) (n : ChannelIx) : ClaimWork s (s.ownShed n) := by
  unfold State.ownShed
  repeat' split
  all_goals first | rfl | exact (switchOff_work s n).trans (requeue_work _ n _)

theorem ownExpired_work (s : State) (n : ChannelIx) : ClaimWork s (s.ownExpired n) := by
  unfold State.ownExpired
  repeat' split
  all_goals first
    | rfl
    | exact (setChannelState_work s n .off).trans ((beginRest_work _ n).trans (requeue_work _ n _))
    | exact (setChannelState_work s n .off).trans (requeue_work _ n _)

theorem ownReleased_work (s : State) (n : ChannelIx) : ClaimWork s (s.ownReleased n) := by
  unfold State.ownReleased
  repeat' split
  all_goals first | rfl | exact (setChannelState_work s n .off).trans (requeue_work _ n _)

theorem ownPromoted_work (s : State) (n : ChannelIx) : ClaimWork s (s.ownPromoted n) := by
  unfold State.ownPromoted
  repeat' split
  all_goals rfl

theorem dropIdleRenew_work (s : State) : ClaimWork s s.dropIdleRenew := by
  unfold State.dropIdleRenew; split <;> rfl
theorem holdClear_work (s : State) : ClaimWork s s.holdClear := rfl

theorem givePromotion_work (s : State) (r : Option Holding) : ClaimWork s (s.givePromotion r) := by
  unfold State.givePromotion
  repeat' split
  all_goals first | rfl | exact ownPromoted_work s _

theorem giveSheds_work (s : State) (victims : List (Nat × ChannelIx)) : ClaimWork s (s.giveSheds victims) := by
  refine ClaimWork.foldl (fun t v => ?_) victims s
  split
  · exact ownShed_work t v.2
  · exact .refl t

theorem giveExpiries_work (s : State) (gone : List Holding) : ClaimWork s (s.giveExpiries gone) := by
  refine ClaimWork.foldl (fun t r => ?_) gone s
  split
  · exact ownExpired_work t r.channel
  · exact .refl t

/-- Clearing the table empties it, clears every HOLD mark, and does claim work beside (R29). -/
theorem clearTable_work (s : State) : ClaimWork (s.setTable []) s.clearTable :=
  (dropIdleRenew_work _).trans (holdClear_work _)

theorem divergeChannel_work (s : State) (n : ChannelIx) : ClaimWork s (s.divergeChannel n) := by
  unfold State.divergeChannel
  repeat' split
  all_goals first
    | rfl
    | exact (switchOff_work s n).trans (requeue_work _ n _)
    | exact (enterStopping_work s n).trans (requeue_work _ n _)

theorem muteChannel_work (s : State) (n : ChannelIx) : ClaimWork s (s.muteChannel n) := by
  unfold State.muteChannel
  repeat' split
  all_goals first
    | rfl
    | exact (setChannelState_work s n .off).trans ((beginRest_work _ n).trans (requeue_work _ n _))
    | exact (setChannelState_work s n .off).trans (requeue_work _ n _)

/-! ## The schedule -/

theorem runAction_work (s : State) (a : ScheduleAction) : MaskWork s (s.runAction a) := by
  cases a
  · exact (start_work s _ _ _).maskWork
  · exact (stop_work s _).maskWork
  · exact changeMasks_work s _
  · exact changeMasks_work s _

theorem evaluateMinute_work (s : State) (minute : Nat) : MaskWork s (s.evaluateMinute minute) := by
  refine MaskWork.foldl (fun t e => ?_) _ s
  unfold State.runEntry
  repeat' split
  all_goals first | exact .refl t | exact runAction_work t _

theorem evaluateAfter_work (s : State) (last count : Nat) : MaskWork s (s.evaluateAfter last count) :=
  MaskWork.foldl (fun t _ => evaluateMinute_work t _) _ s

/-! ## Settling the outstanding claim -/

theorem settleEndedAttempt_work (s : State) (c : OutstandingClaim) (usedUp : Bool) :
    ClaimWork s (s.settleEndedAttempt c usedUp) := by
  unfold State.settleEndedAttempt
  repeat' split
  all_goals first
    | rfl
    | exact (dropClaim_work s c).trans (judge_work _)
    | exact (returnClaim_work s c _).trans (judge_work _)

theorem settleAdmitted_work (s : State) (o : OutstandingClaim) (promoted : Bool) :
    ClaimWork s (s.settleAdmitted o promoted) := by
  unfold State.settleAdmitted
  dsimp only
  repeat' split
  all_goals first
    | rfl
    | exact (setClaims_work s _).trans ((enterStopping_work _ _).trans (requeue_work _ _ _))

theorem settleRefused_work (s : State) (o : OutstandingClaim) : ClaimWork s (s.settleRefused o) := by
  unfold State.settleRefused; split <;> rfl

theorem sourceLost_work (s : State) (o : Offer) : ClaimWork s (s.sourceLost o) := by
  unfold State.sourceLost
  repeat' split
  all_goals first | rfl | exact settleEndedAttempt_work s _ _

end Sys2Proof.Machine
end

