-- ==== Sys2Proof/Laws/Frames.lean ====
section
/-! SUPPORT. Frames and their acceptance: when a transmitter's frame is correct, what an acceptance comes down to for
each part the station can have in the frame; and what the operations of the input unit and of the loader can
change. -/

namespace Sys2Proof.Machine

/-- A frame as its transmitter means it has the right check, so only its length, kind and reserved bits can make it
defective (R154). -/
theorem Frame.raw_defective (f : Frame) (h : f.payload.length ≤ 20) :
    f.raw.defective =
      (!allowedLength f.kind f.payload.length || (f.kind == kindRenew && renewReservedSet f.payload)) := by
  have hl : (BitVec.ofNat 5 f.payload.length).toNat = f.payload.length := by
    rw [BitVec.toNat_ofNat]
    omega
  have hd : decide (20 < f.payload.length) = false := by simpa using h
  simp [RawFrame.defective, Frame.raw, RawFrame.coveredBits, hl, hd]

/-- A station on the line that receives another station's frame of an allowed length hears it. -/
theorem State.hears_of {s : State} {f : Frame}
    (h : s.member.state.online = true ∧ s.line.activity = .receiving ∧ f.payload.length ≤ 20 ∧
      allowedLength f.kind f.payload.length = true ∧ (f.kind == kindRenew && renewReservedSet f.payload) = false ∧
      f.source.toNat ≠ s.ownId) : s.hears f := by
  obtain ⟨h1, h2, h3, h4, h5, h6⟩ := h
  refine ⟨h1, h2, ?_, h6⟩
  rw [Frame.raw_defective f h3, h4, h5]
  rfl

/-! ## An acceptance, by the station's part in it -/

/-- The buffer of a frame that reached its veto slot is its bits and the slot's (R168). -/
@[simp] theorem withVetoSlot_eq (bits : List Bool) (recessive : Bool) :
    withVetoSlot bits recessive = bits ++ [recessive] := rfl

theorem acceptFrame_offline {s : State} (f : Frame) (effects : Bool → State → State)
    (h : s.member.state.online = false) : s.acceptFrame f effects = s := by
  simp [State.acceptFrame, State.reception, h]

/-- A frame of the own profile and a defined kind passes the three judgements, which count nothing (R177). -/
theorem judgements_ofProfile {s : State} {f : Frame} (hp : s.ofProfile f) (hk : f.kind.toNat < 9) :
    s.passesJudgements f = true ∧ (s.lineAccepted f).countJudgements f = s.lineAccepted f := by
  obtain ⟨p1, p2, p3⟩ := hp
  refine ⟨by simpa [State.passesJudgements, p3, hk] using ⟨p1, p2⟩, ?_⟩
  unfold State.countJudgements
  rw [if_neg (by simpa using ⟨p1, p2⟩), if_neg (by simpa [State.lineAccepted] using p3), if_neg (Nat.not_le.2 hk)]

/-- Another station's correct frame that passes the judgements: its line effects, and then its kind's effects. -/
theorem acceptFrame_hears {s : State} {f : Frame} (effects : Bool → State → State) (h : s.hears f)
    (hp : s.ofProfile f) (hk : f.kind.toNat < 9) : s.acceptFrame f effects = effects false (s.lineAccepted f) := by
  obtain ⟨h1, h2, h3, h4⟩ := h
  obtain ⟨hj, hc⟩ := judgements_ofProfile hp hk
  unfold State.acceptFrame State.reception
  rw [if_pos h1, h2]
  dsimp only
  rw [h3, hc, if_neg (by simp), if_neg h4, if_pos hj]

/-- The station's own frame: the line effects, the counts, the end of the attempt, and its kind's effects where it
passes the judgements. -/
theorem acceptFrame_own {s : State} {f : Frame} {o : Offer} (effects : Bool → State → State)
    (h : s.member.state.online = true) (ht : s.line.activity = .transmitting o f) :
    s.acceptFrame f effects =
      if s.passesJudgements f then effects true (((s.lineAccepted f).countJudgements f).endOwnAttempt o)
      else (((s.lineAccepted f).countJudgements f).endOwnAttempt o).judge := by
  unfold State.acceptFrame State.reception
  rw [if_pos h, ht]
  dsimp only
  rw [if_pos rfl]

/-- An INHIBIT or a DEMAND has its effects on the station as its acceptance leaves it, at a receiver and at the sender
alike (R95, R143, R147). -/
theorem acceptFrame_command {s : State} {f : Frame} (effects : Bool → State → State) (hs : s.flightSound)
    (h : s.takesPart f) (hp : s.ofProfile f) (hk : f.kind = 4 ∨ f.kind = 6) :
    ∃ own, s.acceptFrame f effects = effects own (s.atAcceptance f) := by
  have h9 : f.kind.toNat < 9 := by rcases hk with hk | hk <;> rw [hk] <;> decide
  rcases h with h | ⟨h1, h2, o, ho⟩
  · refine ⟨false, (acceptFrame_hears effects h hp h9).trans ?_⟩
    rw [State.atAcceptance, h.2.1]
    rfl
  · have hc : o = .command := by
      have hsends := (hs o f ho).2.2.1
      rcases hk with hk | hk <;> cases o <;> simp [Offer.sends, hk] at hsends ⊢
    subst hc
    obtain ⟨hj, hcount⟩ := judgements_ofProfile hp h9
    refine ⟨true, (acceptFrame_own effects h1 ho).trans ?_⟩
    rw [if_pos hj, hcount, State.atAcceptance, ho]
    rfl

/-- A frame with the own ID that the station did not send halts it (R77). -/
theorem acceptFrame_duplicate {s : State} {f : Frame} (effects : Bool → State → State)
    (h : s.member.state.online = true) (hr : s.line.activity = .receiving) (hd : f.raw.defective = false)
    (hs : f.source.toNat = s.ownId) :
    s.acceptFrame f effects = ((s.lineAccepted f).countJudgements f).haltDuplicate := by
  unfold State.acceptFrame State.reception
  rw [if_pos h, hr]
  dsimp only
  rw [hd, if_neg (by simp), if_pos hs]

/-! ## The line's own operations -/

/-- The offers that compete are those that stand, the RELEASE of the lowest channel for all of them (R182). -/
theorem chosenOffer_mem {s : State} {o : Offer} (h : s.chosenOffer = some o) : o ∈ s.standingOffers := by
  have key : ∀ (l : List Offer) (best : Option Offer), l.foldl s.betterOffer best = some o →
      best = some o ∨ o ∈ l := by
    intro l
    induction l with
    | nil => exact fun best hb => .inl hb
    | cons x xs ih =>
      intro best hb
      rcases ih _ hb with hx | hx
      · unfold State.betterOffer at hx
        split at hx
        · split at hx
          · exact .inr (by simp_all)
          · exact .inl hx
        · exact .inr (by simp_all)
      · exact .inr (List.mem_cons_of_mem x hx)
  rcases key _ _ h with hn | hm
  · cases hn
  · exact hm

/-- Entering HALTED changes the membership state, the line and the report unit, and nothing else (R78). -/
theorem enterHalted_frame (s : State) (f : FaultSet) :
    s.enterHalted f =
      { s with
        member := { s.member with state := .halted, beaconTimer := .stopped }
        line := { s.line with activity := .apart, idleCount := 0, offers := OfferSet.empty }
        report := { s.report with faults := f, blink := 0 } } := rfl

/-- Raising a command touches the command queue, the offers and the report unit alone (R138, R140). -/
theorem raiseCommand_frame (s : State) (c : Command) :
    s.raiseCommand c =
      { s with
        commands := (s.raiseCommand c).commands
        line := { s.line with offers := (s.raiseCommand c).line.offers }
        report := (s.raiseCommand c).report } := by
  unfold State.raiseCommand
  repeat' split
  all_goals rfl

/-- From s to t only what an input can reach may differ: its debounce, the claim unit, the channels, the masks, the
command queue, the offers and the report unit (R135 to R140). -/
def InputWork (s t : State) : Prop :=
  { s with
    inputs := t.inputs, claims := t.claims, channels := t.channels, masks := t.masks, commands := t.commands
    line := { s.line with offers := t.line.offers }, report := t.report } = t

theorem InputWork.refl (s : State) : InputWork s s := rfl

theorem InputWork.trans {s t u : State} (h : InputWork s t) (k : InputWork t u) : InputWork s u := by
  unfold InputWork at *
  rw [← h] at k
  exact k

theorem MaskWork.inputWork {s t : State} (h : MaskWork s t) : InputWork s t := by
  unfold MaskWork at h
  unfold InputWork
  rw [← h]

theorem setInput_work (s : State) (n : InputIx) (i : InputState) : InputWork s (s.setInput n i) := rfl

theorem performEdge_work (s : State) (a : EdgeAction) : InputWork s (s.performEdge a) := by
  have raised (c : Command) : InputWork s (s.raiseCommand c) := by
    unfold InputWork
    rw [raiseCommand_frame s c]
  cases a with
  | act action n cls duration => exact (act_work s action n cls duration).maskWork.inputWork
  | send action target place cls duration => exact raised _
  | inhibitSet groups => exact raised _
  | inhibitClear groups => exact raised _

/-- An edge's action touches no input (R137, R138). -/
theorem performEdge_inputs (s : State) (a : EdgeAction) : (s.performEdge a).inputs = s.inputs := by
  have raised (c : Command) : (s.raiseCommand c).inputs = s.inputs := by rw [raiseCommand_frame s c]
  cases a with
  | act action n cls duration =>
    have h := act_work s action n cls duration
    unfold ClaimWork at h
    change (s.act action n cls duration).inputs = s.inputs
    rw [← h]
  | send action target place cls duration => exact raised _
  | inhibitSet groups => exact raised _
  | inhibitClear groups => exact raised _

theorem takeLevel_work (s : State) (n : InputIx) (high : Bool) : InputWork s (s.takeLevel n high) := by
  unfold State.takeLevel
  dsimp only
  split
  · exact .refl s
  · split
    · exact (setInput_work s n _).trans (performEdge_work _ _)
    · exact setInput_work s n _
  · exact (setInput_work s n _).trans (changeMasks_work _ _).inputWork

theorem readInput_work (s : State) (n : InputIx) (high : Bool) : InputWork s (s.readInput n high) := by
  unfold State.readInput
  repeat' split
  all_goals first | exact .refl s | exact takeLevel_work s n _ | exact setInput_work s n _

/-- A level command moves its pin, and beside it changes what a read of that input can reach (R135). -/
theorem execInputLevelChange_work (n : InputIx) (high : Bool) (s : State) :
    ∃ t, execInputLevelChange n high s = .next t ∧ InputWork (s.setPin n high) t := by
  refine ⟨_, rfl, ?_⟩
  split
  · unfold State.noticeLevel
    split
    · exact .refl _
    · exact readInput_work _ n high
  · exact .refl _

/-! ## The loader -/

/-- A byte's bits, most significant first, in front of others give that byte in front of theirs. -/
theorem imageOfBits_byte (b : Byte) (rest : List Bool) :
    imageOfBits (bitsMsb b ++ rest) = b :: imageOfBits rest := by
  have h : fieldAt 8 0 (bitsMsb b) = b := by revert b; decide +kernel
  exact congrArg (· :: imageOfBits rest) h

/-- What the end of a read can change. -/
theorem endRead_frame (s : State) (image : List Byte) :
    { s with
      settings := (s.endRead image).settings, imageTaken := (s.endRead image).imageTaken
      loader := (s.endRead image).loader, inputs := (s.endRead image).inputs, masks := (s.endRead image).masks
      member := (s.endRead image).member, line := (s.endRead image).line, report := (s.endRead image).report } =
      s.endRead image := by
  unfold State.endRead
  repeat' split
  all_goals rfl

/-- One period of the loader changes the loader alone, or ends a read. -/
theorem loaderPeriod_cases (s : State) :
    { s with loader := s.loaderPeriod.loader } = s.loaderPeriod ∨ ∃ image, s.loaderPeriod = s.endRead image := by
  unfold State.loaderPeriod
  repeat' split
  all_goals first
    | exact .inl rfl
    | exact .inr ⟨_, rfl⟩

end Sys2Proof.Machine
end

