-- ==== Sys2Proof/Laws/Table.lean ====
section
/-! SUPPORT. The holding table and the claim queue as ordered lists: what an insertion and a removal hold, and how the
derived quantities follow. -/

namespace Sys2Proof.Machine

/-! ## Keys and order -/

theorem Holding.keyed_iff (holder : Nat) (channel : ChannelIx) (r : Holding) :
    r.keyed holder channel = true ↔ r.holder = holder ∧ r.channel = channel := by
  simp [Holding.keyed]

theorem Holding.before_iff (a b : Holding) :
    a.before b = true ↔ a.holder < b.holder ∨ (a.holder = b.holder ∧ a.channel < b.channel) := by
  simp [Holding.before]

theorem Holding.before_trans {a b c : Holding} (h : a.before b = true) (k : b.before c = true) : a.before c = true := by
  simp only [Holding.before_iff, Fin.lt_def] at *
  omega

/-- Of two records with different keys one stands before the other. -/
theorem Holding.before_total {a b : Holding} (h : a.key ≠ b.key) (k : a.before b = false) : b.before a = true := by
  have hn : ¬ a.before b = true := by simp [k]
  have hk : ¬ (a.holder = b.holder ∧ a.channel.val = b.channel.val) :=
    fun hc => h (Prod.ext hc.1 (Fin.ext hc.2))
  simp only [Holding.before_iff, Fin.lt_def] at *
  omega

theorem findHolding_isSome (holder : Nat) (channel : ChannelIx) (t : List Holding) :
    (findHolding holder channel t).isSome = true ↔ ∃ r ∈ t, r.holder = holder ∧ r.channel = channel := by
  simp [findHolding, Holding.keyed_iff]

theorem findHolding_eq_none (holder : Nat) (channel : ChannelIx) (t : List Holding) :
    findHolding holder channel t = none ↔ ∀ r ∈ t, r.holder = holder → r.channel ≠ channel := by
  simp [findHolding, Holding.keyed]

theorem findHolding_some {holder : Nat} {channel : ChannelIx} {t : List Holding} {r : Holding}
    (h : findHolding holder channel t = some r) : r ∈ t ∧ r.holder = holder ∧ r.channel = channel :=
  ⟨List.mem_of_find?_eq_some h, (Holding.keyed_iff _ _ _).1 (List.find?_some h)⟩

/-! ## Insertion and removal -/

theorem insertHolding_perm (r : Holding) (t : List Holding) : (insertHolding r t).Perm (r :: t) := by
  induction t with
  | nil => exact .refl _
  | cons x xs ih =>
    unfold insertHolding
    split
    · exact .refl _
    · exact (ih.cons x).trans (.swap r x xs)

theorem mem_insertHolding (r x : Holding) (t : List Holding) : x ∈ insertHolding r t ↔ x = r ∨ x ∈ t := by
  rw [(insertHolding_perm r t).mem_iff, List.mem_cons]

theorem length_insertHolding (r : Holding) (t : List Holding) : (insertHolding r t).length = t.length + 1 :=
  (insertHolding_perm r t).length_eq

theorem mem_removeHolding (holder : Nat) (channel : ChannelIx) (x : Holding) (t : List Holding) :
    x ∈ removeHolding holder channel t ↔ x ∈ t ∧ ¬ (x.holder = holder ∧ x.channel = channel) := by
  rw [removeHolding, List.mem_filter, Bool.not_eq_true', ← Bool.not_eq_true, Holding.keyed_iff]

theorem findHolding_removeHolding (holder : Nat) (channel : ChannelIx) (t : List Holding) :
    findHolding holder channel (removeHolding holder channel t) = none := by
  rw [findHolding_eq_none]
  intro r hr hh hc
  exact ((mem_removeHolding holder channel r t).1 hr).2 ⟨hh, hc⟩

/-- Inserting a record whose key has none keeps the order (R2). -/
theorem insertHolding_ordered {r : Holding} {t : List Holding} (h : tableOrdered t)
    (hn : findHolding r.holder r.channel t = none) : tableOrdered (insertHolding r t) := by
  unfold tableOrdered at *
  induction t with
  | nil => exact List.pairwise_singleton _ _
  | cons x xs ih =>
    rw [List.pairwise_cons] at h
    have hk : x.key ≠ r.key := fun he => by
      have := (findHolding_eq_none _ _ _).1 hn x List.mem_cons_self
      exact this (congrArg Prod.fst he) (congrArg Prod.snd he)
    unfold insertHolding
    split
    · rename_i hb
      refine List.pairwise_cons.2 ⟨?_, List.pairwise_cons.2 h⟩
      intro y hy
      rcases List.mem_cons.1 hy with rfl | hy
      · exact hb
      · exact Holding.before_trans hb (h.1 y hy)
    · rename_i hb
      have hxr : x.before r = true := Holding.before_total (fun he => hk he.symm) (by simpa using hb)
      refine List.pairwise_cons.2 ⟨?_, ih h.2 ((findHolding_eq_none _ _ _).2 fun y hy =>
        (findHolding_eq_none _ _ _).1 hn y (List.mem_cons_of_mem x hy))⟩
      intro y hy
      rcases (mem_insertHolding r y xs).1 hy with rfl | hy
      · exact hxr
      · exact h.1 y hy

theorem removeHolding_ordered (holder : Nat) (channel : ChannelIx) {t : List Holding} (h : tableOrdered t) :
    tableOrdered (removeHolding holder channel t) := List.Pairwise.filter _ h

/-- Changing units, class, state and lease in place keeps the order. -/
theorem map_ordered {f : Holding → Holding} (hf : ∀ r, (f r).key = r.key) {t : List Holding} (h : tableOrdered t) :
    tableOrdered (t.map f) := by
  refine List.pairwise_map.2 (List.Pairwise.imp ?_ h)
  intro a b hab
  have ha := hf a
  have hb := hf b
  simp only [Holding.key, Prod.mk.injEq] at ha hb
  rw [Holding.before_iff] at *
  rw [ha.1, ha.2, hb.1, hb.2]
  exact hab

/-! ## Derived quantities -/

theorem unitsWhere_insertHolding (p : Holding → Bool) (r : Holding) (t : List Holding) :
    unitsWhere p (insertHolding r t) = unitsWhere p t + if p r then r.units else 0 := by
  have h := (((insertHolding_perm r t).filter p).map Holding.units).sum_eq
  unfold unitsWhere
  rw [h, List.filter_cons]
  split <;> simp [Nat.add_comm]

theorem unitsWhere_filter_le (p q : Holding → Bool) (t : List Holding) :
    unitsWhere p (t.filter q) ≤ unitsWhere p t := by
  unfold unitsWhere
  rw [List.filter_comm]
  induction t.filter p with
  | nil => simp
  | cons x xs ih =>
    rw [List.filter_cons]
    split <;> simp <;> omega

theorem reservedUnits_removeHolding_le (holder : Nat) (channel : ChannelIx) (t : List Holding) :
    reservedUnits (removeHolding holder channel t) ≤ reservedUnits t := unitsWhere_filter_le _ _ _

/-- The walk over candidates stops at the first at which the total reaches the units (R15). -/
theorem walkVictims_spec {units total : Nat} {t vs : List Holding} (h : walkVictims units total t = some vs) :
    vs <+: t ∧ units ≤ total + (vs.map Holding.units).sum := by
  induction t generalizing total vs with
  | nil => cases h
  | cons r rs ih =>
    unfold walkVictims at h
    split at h
    · cases h
      exact ⟨⟨rs, rfl⟩, by simpa⟩
    · obtain ⟨ws, hw, rfl⟩ := Option.map_eq_some_iff.1 h
      obtain ⟨hp, hu⟩ := ih hw
      refine ⟨List.prefix_cons_inj r |>.2 hp, ?_⟩
      simp only [List.map_cons, List.sum_cons]
      omega

/-- The walk ends short exactly when all candidates together do not reach the units. -/
theorem walkVictims_eq_none (units total : Nat) (t : List Holding) (ht : total < units) :
    walkVictims units total t = none ↔ total + (t.map Holding.units).sum < units := by
  induction t generalizing total with
  | nil => simpa [walkVictims]
  | cons r rs ih =>
    unfold walkVictims
    split
    · simp
      omega
    · rename_i hr
      rw [Option.map_eq_none_iff, ih _ (by omega)]
      simp [Nat.add_assoc]

/-! ## The claim queue -/

theorem insertEntry_perm (e : Entry) (q : List Entry) : (insertEntry e q).Perm (e :: q) := by
  induction q with
  | nil => exact .refl _
  | cons x xs ih =>
    unfold insertEntry
    split
    · exact .refl _
    · exact (ih.cons x).trans (.swap e x xs)

theorem mem_insertEntry (e x : Entry) (q : List Entry) : x ∈ insertEntry e q ↔ x = e ∨ x ∈ q := by
  rw [(insertEntry_perm e q).mem_iff, List.mem_cons]

theorem mem_removeEntry (n : ChannelIx) (x : Entry) (q : List Entry) :
    x ∈ removeEntry n q ↔ x ∈ q ∧ x.channel ≠ n := by
  simp [removeEntry]

theorem mem_clearHolds {q : List Entry} {x : Entry} (h : x ∈ clearHolds q) : x.hold = false := by
  obtain ⟨e, -, rfl⟩ := List.mem_map.1 h
  rfl

end Sys2Proof.Machine
end

