-- ==== Sys2Proof/Tests/Slice0.lean ====
section
/-! SUPPORT. The model's own tests: ill-formed commands refused, the manual's worked examples, small steps of each
family, and for each statement with hypotheses a state that meets them. Expected values come from the manual. -/

namespace Sys2Proof.Tests

set_option Elab.async false

open Sys2Proof Sys2Proof.Machine

/-! ## The example station -/

/-- Channel settings with this weight and group; URGENT ceiling, no limits. -/
def plainChannel (weight : Nat) (group : Option GroupIx) : ChannelSettings :=
  { weight := weight, activeLow := false, group := group, mayDisplace := true, ceiling := .urgent, maxRun := 0,
    rest := 1 }

/-- Station 1: B = 10, L = 4, T = 1; channels 0, 2, 3, 4, 5 of weight 2 (0 and 5 in group 0), the others exempt; input
0 an EDGE input that toggles channel 1, input 1 a LEVEL-INHIBIT input of group 2; one entry that starts channel 6 at
every 15th minute. -/
def site : Settings :=
  { stationId := 1, rateIndex := 0, budget := 10, lease := 4, period := 1, tag := 228#8
    channels := #v[plainChannel 2 (some 0), plainChannel 0 none, plainChannel 2 none, plainChannel 2 none,
      plainChannel 2 none, plainChannel 2 (some 0), plainChannel 0 none, plainChannel 0 none]
    inputs := #v[.edge .rising 2 (.act .toggle 1 .normal 0), .levelInhibit true 0 4#8, .unused, .unused, .unused,
      .unused, .unused, .unused]
    schedule := [some { select := .cyclic 15 0, months := 0xFFF#16, action := .start 6 .high 0 }] ++
      List.replicate 31 none }

/-- The station in LISTENING, right after it took its image. -/
def listening : State :=
  { State.reset with
    phase := .running, imageTaken := true, settings := site
    member := { Membership.reset with state := .listening, beaconTimer := .counting 0 }
    inputs := sampledInputs site.inputs State.reset.pins
    line := { LineInterface.reset with activity := .counting }
    report := { ReportUnit.reset with faults := { FaultSet.none with timeInvalid := true } } }

/-- A demand of class NORMAL with this allowance. -/
def normal (allowance : Option Nat) : Demand := { cls := .normal, allowance := allowance }

/-- The claim for channel 2. -/
def claim : OutstandingClaim :=
  { channel := 2, cls := .normal, allowance := some 64, number := 1, attempts := 0, inFlight := false,
    stopNote := false }

/-- The station at work in SYNCED: channel 0 ON under its record, channel 2 CLAIMING, channel 3 STOPPING, an entry for
channel 4, one command, and a LOW record of station 3. -/
def working : State :=
  { listening with
    member := { listening.member with state := .synced, epoch := 8#16 }
    table :=
      [{ holder := 1, channel := 0, units := 2, cls := .normal, state := .held, lease := 3 },
        { holder := 1, channel := 3, units := 2, cls := .normal, state := .shedding, lease := 2 },
        { holder := 3, channel := 1, units := 4, cls := .low, state := .held, lease := 1 }]
    channels := #v[{ state := .switchedOn (normal (some 64)), rest := 0 }, { state := .off, rest := 0 },
      { state := .claiming, rest := 0 }, { state := .stopping, rest := 5 }, { state := .off, rest := 0 },
      { state := .off, rest := 0 }, { state := .off, rest := 0 }, { state := .off, rest := 0 }]
    claims := { queue := [{ channel := 4, cls := .low, allowance := none, hold := false, number := 0 }],
                outstanding := some claim, enqueueCount := 2 }
    commands := { queue := [.inhibit 1#8 0#8], headAttempts := 0 }
    line := { listening.line with
      activity := .receiving
      offers := { OfferSet.empty with
        claim := true, command := true, releases := (Vector.replicate 8 false).set 3 true } } }

/-- The working station with the line idle for it. -/
def waiting : State := { working with line := { working.line with activity := .idle, idleCount := 11 } }

/-- The working station sending the frame of an offer. -/
def sending (o : Offer) : State := waiting.beginAttempt o

/-- The head of a frame of this source with the site's tag. -/
def headOf (cls : BitVec 2) (source : BitVec 6) : FrameHead := { cls := cls, source := source, tag := site.tag }

/-! ## Well-formed commands: each check refuses its ill-formed term -/

theorem test_illformed_read_short : (Instr.readEnd [0#8]).wellFormed = false := by decide
theorem test_illformed_renew_odd : (Instr.renewAccepted (headOf 1 3) [0x20#8, 1#8, 0#8]).wellFormed = false := by decide
theorem test_illformed_renew_reserved : (Instr.renewAccepted (headOf 1 3) [0x21#8, 1#8]).wellFormed = false := by decide
theorem test_illformed_undefined_long :
    (Instr.undefinedKindAccepted (headOf 1 3) 0 (List.replicate 21 0#8)).wellFormed = false := by decide
theorem test_illformed_vetoed_short : (Instr.frameVetoed [true]).wellFormed = false := by decide
theorem test_illformed_correct_vetoed :
    (Instr.vetoedFrameAcceptedByLine (frameOf (headOf 0 3) kindInhibit [1#8, 0#8]).bits).wellFormed = false := by
  decide +kernel
theorem test_wellformed_renew : (Instr.renewAccepted (headOf 1 3) [0x2C#8, 4#8]).wellFormed = true := by decide

/-! ## Formats (8.2, 8.5) -/

/-- R152: over the nine bytes 0x31 to 0x39 the check is 0x29B1. -/
theorem test_check_of_nine_bytes :
    crcBytes [0x31#8, 0x32#8, 0x33#8, 0x34#8, 0x35#8, 0x36#8, 0x37#8, 0x38#8, 0x39#8] = 0x29B1#16 := by decide +kernel

/-- The frame of 8.5: station 5 claims 6 units for channel 3 in class NORMAL. -/
def frame85 : Frame := frameOf { cls := 2, source := 5, tag := 7 } kindClaim (claimPayload 3 6 false)

theorem test_frame_layout :
    frame85.bits.take 33 =
      [true, false, false, false, true, false, false, false, false, true, false, true, false, false, false, true,
        false, false, false, false, false, false, false, true, true, false, false, false, false, false, true, true,
        false] := by decide +kernel
theorem test_frame_lengths : frame85.bits.length + 1 = 58 ∧ frame85.raw.coveredBits.length = 41 := by decide +kernel
theorem test_arbitration_value : natOfBits frame85.arbitrationBits = 2181 := by decide +kernel
theorem test_urgent_displacing :
    claimPayload 3 6 true = [0x83#8, 6#8] ∧ arbitrationValue 0 2 5 = 133 := by decide

/-- The schedule records of 8.5 at their image bytes. -/
def image85 : List Byte :=
  List.replicate 154 0#8 ++ [2#8, 0#8, 0x0F#8, 0#8, 0#8, 0x0F#8, 0xFF#8, 3#8, 8#8, 0x55#8, 0x55#8, 0x55#8] ++
    List.replicate 12 0#8 ++
    [1#8, 0x1E#8, 6#8, 1#8, 0x3E#8, 0x0F#8, 0xFF#8, 1#8, 2#8, 1#8, 0#8, 0#8] ++ List.replicate 326 0#8

theorem test_schedule_records :
    readScheduleRecord image85 4 =
        some (some { select := .calendar (some 30) (some 6) (.weekdays 0x3E#8), months := 0xFFF#16,
                     action := .start 2 .high 0 }) ∧
      readScheduleRecord image85 2 =
        some (some { select := .cyclic 15 0, months := 0xFFF#16, action := .inhibitOn 8#8 }) := by decide +kernel

/-! ## The holding table (1.11 to 1.13) -/

/-- The table of 1.12. -/
def table112 : List Holding :=
  [{ holder := 3, channel := 1, units := 10, cls := .high, state := .held, lease := 6 },
    { holder := 6, channel := 0, units := 8, cls := .low, state := .held, lease := 7 },
    { holder := 6, channel := 4, units := 6, cls := .urgent, state := .held, lease := 7 },
    { holder := 11, channel := 2, units := 9, cls := .normal, state := .held, lease := 5 },
    { holder := 14, channel := 7, units := 5, cls := .low, state := .held, lease := 3 }]

/-- The table of 1.12 after the DISPLACING acceptance. -/
def displaced112 : List Holding := (evaluateClaim 40 8 table112 6 5 12 .urgent true).table

theorem test_displacement :
    (evaluateClaim 40 8 table112 6 5 12 .urgent true).result = .displacing ∧
      (evaluateClaim 40 8 table112 6 5 12 .urgent true).victims = [(14, 7), (6, 0)] ∧
      (reservedUnits displaced112, onUnitsSum displaced112, sheddingCount displaced112) = (37, 38, 2) := by decide

theorem test_promotion_at_the_second_removal :
    (promotionCheck 40 (removeHolding 6 0 displaced112)).2 = none ∧
      ((promotionCheck 40 (removeHolding 14 7 (removeHolding 6 0 displaced112))).2.map Holding.key) = some (6, 5) := by
  decide

theorem test_first_come_refused :
    (evaluateClaim 40 8 table112 5 3 6 .normal false).result = .noBudget ∧
      (evaluateClaim 40 8 table112 6 0 1 .normal false).result = .duplicate := by decide

theorem test_renewal_matches :
    ((renewMatching 8 11 table112 { channel := 2, cls := .normal, pending := false, units := 9 }).map
      Holding.lease) = [6, 7, 7, 8, 3] := by decide

/-! ## Calendar and schedule (R103, 5.6, 6.6) -/

/-- 2024-03-15 at this time of day. -/
def friday (hour minute second fraction : Nat) : CalendarValue :=
  { year := 2024, month := 3, day := 15, hour := hour, minute := minute, second := second, fraction := fraction }

theorem test_day_numbers :
    dayNumber { CalendarValue.origin with month := 3 } = 60 ∧ dayNumber (friday 0 0 0 0) = 8840 ∧
      weekdayOf 8840 = 5 ∧
      dayNumber { year := 2099, month := 12, day := 31, hour := 0, minute := 0, second := 0, fraction := 0 } = 36524 ∧
      weekdayOf 36524 = 4 := by decide
theorem test_position : fractionPosition (friday 6 29 58 40) = 48883161512 := by decide
theorem test_delta :
    valueAt (adjustedPosition (fractionPosition { CalendarValue.origin with minute := 1, second := 35, fraction := 18 })
      48883161512 6096) = friday 6 29 58 42 := by decide +kernel
theorem test_wrap :
    stepFraction { year := 2099, month := 12, day := 31, hour := 23, minute := 59, second := 59, fraction := 63 } =
      CalendarValue.origin := by decide
theorem test_schedule_minutes :
    (MinuteSelect.calendar (some 30) (some 6) (.weekdays 0x3E#8)).selects 12729990 = true ∧
      (MinuteSelect.cyclic 15 0).selects 12729990 = true ∧ (MinuteSelect.cyclic 15 0).selects 12729991 = false := by
  decide +kernel
theorem test_forward_distance : forwardDistance 12729995 12729990 = 52595995 := by decide

/-! ## The example station meets every invariant -/

theorem working_tableInv : working.tableInv := by
  unfold State.tableInv tableSound tableOrdered State.startsInLoading Holding.inRange; decide +kernel

theorem working_claimsOneChannel : working.claimsOneChannel := by
  intro n
  refine ⟨fun h => ⟨claim, rfl, ?_⟩, ?_⟩
  · revert n; decide +kernel
  · rintro ⟨o, h, rfl⟩
    cases (Option.some.inj h : claim = o)
    decide +kernel

theorem working_runInv : working.runInv := by
  refine ⟨?_, by unfold State.restsInLoading; decide +kernel, by decide +kernel, by decide +kernel, ?_, ?_,
    by decide +kernel, by unfold State.startsInLoading; decide +kernel⟩
  · intro n hn hon
    refine .inr ?_
    have h : n = 0 := by revert n; decide +kernel
    subst h
    exact ⟨_, List.mem_cons_self, rfl, rfl, rfl⟩
  · intro o h
    cases (Option.some.inj h : claim = o)
    decide +kernel
  · intro o f h
    exact absurd h (by simp [working])

theorem working_inhibitInv : working.inhibitInv := by
  unfold State.inhibitInv State.restsInLoading State.startsInLoading; decide +kernel

theorem working_queueInv : working.queueInv := by
  refine ⟨by decide +kernel, by decide +kernel, by decide +kernel, by decide +kernel, by decide +kernel,
    by decide +kernel, working_claimsOneChannel, ?_, by unfold State.restsInLoading; decide +kernel,
    by unfold State.startsInLoading; decide +kernel⟩
  intro o h
  cases (Option.some.inj h : claim = o)
  decide +kernel

theorem working_offerInv : working.offerInv :=
  ⟨by decide +kernel, by decide +kernel, by decide +kernel, by decide +kernel, by decide +kernel,
    working_claimsOneChannel,
    by unfold State.restsInLoading; decide +kernel, by unfold State.startsInLoading; decide +kernel⟩

theorem working_boundsInv : working.boundsInv := by
  refine ⟨by unfold Counters.bounded; decide +kernel, by decide +kernel, ?_, by decide +kernel, by decide +kernel,
    by decide +kernel, by decide +kernel, ?_, by decide +kernel, by decide +kernel, by decide +kernel,
    by decide +kernel, by decide +kernel, by decide +kernel, ?_, ?_, by decide +kernel, by decide +kernel,
    by unfold State.startsInLoading; decide +kernel⟩
  · intro w h
    exact absurd h (by simp [working, listening, Membership.reset])
  · intro o h
    cases (Option.some.inj h : claim = o)
    decide +kernel
  · intro p bits h
    exact absurd h (by simp [working, listening, State.reset])
  · intro p h
    exact absurd h (by simp [working, listening, State.reset])

theorem working_timeInv : working.timeInv := by
  refine ⟨by decide +kernel, by decide +kernel, by decide +kernel, by decide +kernel, by decide +kernel, ?_,
    by unfold State.startsInLoading; decide +kernel⟩
  intro m h
  exact absurd h (by simp [working, listening, State.reset])

/-- The queue invariant of a state with this outstanding claim, from facts that can be decided. -/
theorem queueInv_of {s : State} {c : OutstandingClaim} (h : s.claims.outstanding = some c)
    (hd : (s.claims.queue.Pairwise (fun a b => a.before b = true) ∧ (s.claims.queue.map Entry.channel).Nodup ∧
      (∀ e ∈ s.claims.queue, (s.channelState e.channel).isEngaged = false) ∧ s.claims.numbers.Nodup) ∧
      (∀ k ∈ s.claims.numbers, k < s.claims.enqueueCount) ∧ s.claims.enqueueCount ≤ Config.enqueueMax ∧
      (∀ n, s.channelState n = .claiming ↔ c.channel = n) ∧ s.member.state = .synced ∧
      s.exempt c.channel = false ∧ s.phase = .running) : s.queueInv := by
  obtain ⟨⟨h1, h2, h3, h4⟩, h5, h6, h7, h8, h9, h10⟩ := hd
  refine ⟨h1, h2, h3, h4, h5, h6, fun n => ⟨fun hn => ⟨c, h, (h7 n).1 hn⟩, ?_⟩, ?_, ?_, ?_⟩
  · rintro ⟨o, ho, rfl⟩
    rw [h] at ho
    cases ho
    exact (h7 _).2 rfl
  · intro o ho
    rw [h] at ho
    cases ho
    exact ⟨h8, h9⟩
  · intro hl
    rw [h8] at hl
    cases hl
  · intro hp
    exact absurd h10 hp

/-- The queue invariant of a state without an outstanding claim, from facts that can be decided. -/
theorem queueInv_none {s : State} (h : s.claims.outstanding = none)
    (hd : (s.claims.queue.Pairwise (fun a b => a.before b = true) ∧ (s.claims.queue.map Entry.channel).Nodup ∧
      (∀ e ∈ s.claims.queue, (s.channelState e.channel).isEngaged = false) ∧ s.claims.numbers.Nodup) ∧
      (∀ k ∈ s.claims.numbers, k < s.claims.enqueueCount) ∧ s.claims.enqueueCount ≤ Config.enqueueMax ∧
      (∀ n, s.channelState n ≠ .claiming) ∧ s.member.state.working = true ∧ s.phase = .running) : s.queueInv := by
  obtain ⟨⟨h1, h2, h3, h4⟩, h5, h6, h7, h8, h9⟩ := hd
  refine ⟨h1, h2, h3, h4, h5, h6, fun n => ⟨fun hn => absurd hn (h7 n), ?_⟩, ?_, ?_, ?_⟩
  · rintro ⟨o, ho, -⟩
    rw [h] at ho
    cases ho
  · intro o ho
    rw [h] at ho
    cases ho
  · intro hl
    rw [hl] at h8
    cases h8
  · intro hp
    exact absurd h9 hp

/-- The frame in flight is sound, from facts that can be decided. -/
theorem flightSound_of {s : State} {o : Offer} {f : Frame} (h : s.line.activity = .transmitting o f)
    (hd : s.member.state.online = true ∧ f.source.toNat = s.ownId ∧ f.kind ≠ kindRelease) (hs : o.sends f.kind) :
    s.flightSound := by
  intro o' f' h'
  rw [h] at h'
  cases h'
  exact ⟨hd.1, hd.2.1, hs, fun hk => absurd hk hd.2.2⟩

/-- A station that receives has no frame in flight. -/
theorem flightSound_receiving {s : State} (h : s.line.activity = .receiving) : s.flightSound := by
  intro o f h'
  rw [h] at h'
  cases h'

/-! ## Steps of each family -/

/-- The state after a command; the state itself where the command gives none. -/
def after (c : Instr) (s : State) : State :=
  match exec c s with
  | .next t => t
  | _ => s

/-- The working station with other parts of its line interface and claim unit. -/
def withClaim (c : OutstandingClaim) : State := { working with claims := { working.claims with outstanding := some c } }

/-- The working station sending the CLAIM for channel 2. -/
def sendingClaim : State := sending .claim

/-- The acceptance of that CLAIM. -/
def ownClaim : Instr := .claimAccepted (headOf 2 1) #v[2#8, 2#8]

theorem test_reset_stops_everything :
    (after (.resetOnset .resetPin) working).table = [] ∧
      (after (.resetOnset .resetPin) working).outputLevel 0 = .undriven ∧
      (after (.resetOnset .resetPin) working).heldResets.resetPin = true := by decide +kernel

theorem test_overlapping_resets_end_with_the_last :
    (after (.resetEnd .resetPin) (after (.resetOnset .supplyDrop) (after (.resetOnset .resetPin) working))).phase =
      .inReset := by decide +kernel

/-- R48, R83, R89: GRANTED takes channel 2 ON under a HELD record with lease L. -/
theorem test_own_claim_granted :
    (after ownClaim sendingClaim).channelState 2 = .switchedOn (normal (some 64)) ∧
      (findHolding 1 2 (after ownClaim sendingClaim).table).map Holding.lease = some 4 ∧
      (after ownClaim sendingClaim).outputLevel 2 = .high := by decide +kernel

/-- R14, R15, R85: 4 free units, so an URGENT claim for 10 takes the LOW record first and then the own NORMAL one. -/
theorem test_foreign_claim_displaces :
    (after (.claimAccepted (headOf 0 5) #v[0x80#8, 10#8]) working).channelState 0 = .stopping ∧
      (after (.claimAccepted (headOf 0 5) #v[0x80#8, 10#8]) working).line.offers.releases[0] = true ∧
      pendingPresent (after (.claimAccepted (headOf 0 5) #v[0x80#8, 10#8]) working).table = true := by decide +kernel

/-- R21, R71: the record of lease 1 leaves, and the own record at L/2 places a RENEW offer. -/
theorem test_beacon_ages :
    ((after (.beaconAccepted (headOf 0 3) (Vector.replicate 14 0#8)) working).table.map Holding.key) =
        [(1, 0), (1, 3)] ∧
      (after (.beaconAccepted (headOf 0 3) (Vector.replicate 14 0#8)) working).line.offers.renew = true ∧
      (after (.beaconAccepted (headOf 0 3) (Vector.replicate 14 0#8)) working).member.epoch = 9#16 := by decide +kernel

/-- R168: the buffer ends with the veto slot as it was read, recessive at the acceptance and dominant at the veto. -/
theorem test_buffer_ends_with_the_veto_slot :
    (after (.inhibitAccepted (headOf 0 3) #v[1#8, 1#8]) working).line.buffer.drop 57 = [true] ∧
      (after (.frameVetoed frame85.bits) working).line.buffer.drop 57 = [false] := by decide +kernel

theorem test_release_makes_off :
    (after (.releaseAccepted (headOf 0 1) #v[3#8]) (sending (.release 3))).channelState 3 = .off ∧
      (after (.releaseAccepted (headOf 0 1) #v[3#8]) (sending (.release 3))).table.length = 2 := by decide +kernel

theorem test_inhibit_stops_group :
    (after (.inhibitAccepted (headOf 0 3) #v[1#8, 1#8]) working).masks.line = 1#8 ∧
      (after (.inhibitAccepted (headOf 0 3) #v[1#8, 1#8]) working).channelState 0 = .stopping ∧
      ((after (.inhibitAccepted (headOf 0 3) #v[1#8, 1#8]) working).entryOf 0).isSome = true := by decide +kernel

theorem test_demand_serves_exempt :
    (after (.demandAccepted (headOf 2 3) #v[1#8, 1#8, 1#8, 0#8, 3#8]) working).channelState 1 =
      .switchedOn (normal (some 192)) := by decide +kernel

theorem test_group_demand_stops :
    (after (.demandAccepted (headOf 2 3) #v[63#8, 0#8, 2#8, 0#8, 0#8]) working).channelState 0 = .stopping ∧
      (after (.demandAccepted (headOf 2 3) #v[63#8, 8#8, 2#8, 0#8, 0#8]) working).channelState 0 =
        .switchedOn (normal (some 64)) := by decide +kernel

theorem test_run_out_stops_and_rests :
    (after (.runAllowanceExpiry 0) working).channel 0 = { state := .stopping, rest := 64 } := by decide +kernel

theorem test_rise_starts_the_debounce_timer :
    (after (.inputLevelChange 0 true) working).inputs[0].debounce = 2 ∧
      (after (.inputLevelChange 1 true) working).masks.level = 4#8 := by decide +kernel

/-- R135 reads a line once at each tick: after a tick a command moves the level for the coming tick to read. -/
theorem test_level_waits_for_the_coming_tick :
    (after (.inputLevelChange 0 true) { working with ticked := true }).inputs[0].debounce = 0 ∧
      (after (.inputLevelChange 0 true) { working with ticked := true }).tick.inputs[0].debounce = 2 := by
  decide +kernel

theorem test_debounced_edge_toggles :
    (after (.debounceExpiry 0) (after (.inputLevelChange 0 true) working)).channelState 1 =
      .switchedOn (normal none) := by decide +kernel

/-- The working station one fraction before 06:30 on 2024-03-15, with valid time. -/
def beforeHalfPast : State :=
  { working with
    calendar := { Calendar.reset with value := friday 6 29 59 63, phase := 511, valid := true }
    lastMinute := some 12729989
    report := { working.report with faults := FaultSet.none } }

theorem test_minute_starts_channel :
    (after .fractionStep beforeHalfPast).calendar.value = friday 6 30 0 0 ∧
      (after .fractionStep beforeHalfPast).channelState 6 = .switchedOn { cls := .high, allowance := none } ∧
      (after .fractionStep beforeHalfPast).lastMinute = some 12729990 := by decide +kernel

/-- R182, 9.9: RELEASE 65, INHIBIT 257 and CLAIM 2,177 compete; the RELEASE is sent. -/
theorem test_lowest_value_is_sent :
    waiting.standingOffers.map waiting.offerValue = [65, 2177, 257] ∧ waiting.chosenOffer = some (.release 3) := by
  decide +kernel

theorem test_status_in_mute :
    (after (.frameVetoed (frame85.raw.coveredBits ++ List.replicate 16 false))
      { working with line := { working.line with vetoStreak := 7 } }).member.state = .mute ∧
      (after (.frameVetoed (frame85.raw.coveredBits ++ List.replicate 16 false))
        { working with line := { working.line with vetoStreak := 7 } }).statusAsserted = true := by decide +kernel

/-- R190: CLK rises in clock period 24 after 24 × 8 + 4 oscillator periods, and DI is sampled there. -/
theorem test_first_data_bit :
    { listening with
        member := { listening.member with state := .loading }, dataIn := false
        loader := { attempts := 1, activity := .reading 195 [], lastCheck := none } }.loaderPeriod.loader.activity =
      .reading 196 [false] := by decide +kernel

/-- R190: each byte is read most significant bit first. -/
theorem test_bytes_of_bits :
    imageOfBits [true, false, true, false, false, true, false, true, false, true, false, true, true, false, true,
      false] = [0xA5#8, 0x5A#8] := by decide +kernel

theorem test_report_bytes :
    working.reportPayload =
      [2#8, 0#8, 0x40#8, 0x30#8, 0x14#8, 0x80#8, 0#8, 1#8, 2#8, 6#8, 0#8, 0#8, 0#8, 0#8, 0#8, 0#8, 0#8, 0#8, 8#8] := by
  decide +kernel

/-! ## States that meet the statements' hypotheses -/

theorem witness_ExecLeavesTheQueue : ∃ t, exec .lineIdle listening = .next t := ⟨_, rfl⟩

theorem witness_StepKeepsTheTableSound : working.tableInv ∧ ∃ t, step working = .next t :=
  ⟨working_tableInv, _, rfl⟩
theorem witness_StepKeepsChannelsUnderHoldings : working.runInv ∧ ∃ t, step working = .next t :=
  ⟨working_runInv, _, rfl⟩
theorem witness_StepKeepsInhibitedChannelsOff : working.inhibitInv ∧ ∃ t, step working = .next t :=
  ⟨working_inhibitInv, _, rfl⟩
theorem witness_StepKeepsTheClaimQueueSound : working.queueInv ∧ ∃ t, step working = .next t :=
  ⟨working_queueInv, _, rfl⟩
theorem witness_StepKeepsOffersSound : working.offerInv ∧ ∃ t, step working = .next t :=
  ⟨working_offerInv, _, rfl⟩
theorem witness_StepKeepsCountsBounded : working.boundsInv ∧ ∃ t, step working = .next t :=
  ⟨working_boundsInv, _, rfl⟩
theorem witness_StepKeepsTimeSound : working.timeInv ∧ ∃ t, step working = .next t := ⟨working_timeInv, _, rfl⟩

theorem beforeHalfPast_timeInv : beforeHalfPast.timeInv := by
  refine ⟨by decide +kernel, by decide +kernel, by decide +kernel, by decide +kernel, by decide +kernel, ?_,
    by unfold State.startsInLoading; decide +kernel⟩
  intro m h
  cases (Option.some.inj h : 12729989 = m)
  decide

theorem witness_LastMinuteNeverMovesBack :
    beforeHalfPast.timeInv ∧ beforeHalfPast.lastMinute = some 12729989 ∧
      (∀ k rest, beforeHalfPast.pending ≠ .resetOnset k :: rest) ∧ ∃ t, step beforeHalfPast = .next t :=
  ⟨beforeHalfPast_timeInv, rfl, fun _ _ => by simp [beforeHalfPast, working, listening, State.reset], _, rfl⟩

/-- Station 7 with the same table, receiving. -/
def other : State := { working with settings := { site with stationId := 7 } }

theorem witness_ReplicasAgree :
    acceptedFrame ownClaim = some (frameOf (headOf 2 1) kindClaim [2#8, 2#8]) ∧
      sendingClaim.takesPart (frameOf (headOf 2 1) kindClaim [2#8, 2#8]) ∧
      other.takesPart (frameOf (headOf 2 1) kindClaim [2#8, 2#8]) ∧ sendingClaim.member.state = .synced ∧
      other.member.state = .synced ∧ sendingClaim.settings.budget = other.settings.budget ∧
      sendingClaim.settings.lease = other.settings.lease ∧ sendingClaim.settings.tag = other.settings.tag ∧
      sendingClaim.table = other.table := by
  refine ⟨by decide +kernel, .inr ⟨by decide +kernel, by decide +kernel, .claim, by decide +kernel⟩,
    .inl (by unfold State.hears; decide +kernel), ?_⟩
  decide +kernel

theorem witness_FrameBitsRoundTrip : frame85.raw.payload.length = frame85.raw.length.toNat := by decide

/-- A BEACON with every count at its bound. -/
def fullBeacon : BeaconFields :=
  { epoch := 0xFFFF#16, timeValid := true, authoritative := true
    digest := { count := 255, units := 255, shedding := 255, pending := true }, mask := 0xFF#8
    time := { year := 2099, month := 12, day := 31, hour := 23, minute := 59, second := 59, fraction := 63 } }

theorem witness_PayloadsRoundTrip :
    (#v[0xFF#8, 0xFF#8, 7#8, 99#8, 12#8, 31#8, 23#8, 59#8, 59#8, 63#8, 255#8, 255#8, 255#8, 0xFF#8] :
        Vector Byte 14).toList = beaconPayload fullBeacon ∧
      fullBeacon.time.inRange = true ∧
      ∀ e ∈ [({ channel := 7, cls := .low, pending := true, units := 255 } : RenewEntry)], e.units ≤ 255 := by
  decide +kernel

theorem witness_CalendarPositionsRoundTrip :
    fullBeacon.time.inRange = true ∧ fractionPosition fullBeacon.time = Config.cycleFractions - 1 := by decide +kernel

theorem witness_OwnFramesAreCorrect :
    working.tableInv ∧ Offer.claim ∈ working.standingOffers ∧ ownReserved working.ownId working.table ≠ [] :=
  ⟨working_tableInv, by decide +kernel, by decide +kernel⟩

theorem witness_LineReadsTheWiredAnd : 3 ≤ 3 := by decide

/-- The working station held in reset by two kinds. -/
def heldTwice : State := after (.resetOnset .supplyDrop) (after (.resetOnset .resetPin) working)

theorem witness_ResetsReturnEveryBlock :
    heldTwice.phase = .inReset ∧ heldTwice.heldResets.holds .resetPin = true ∧
      (heldTwice.heldResets.release .resetPin).any = true ∧
      ((after (.resetEnd .resetPin) heldTwice).heldResets.release .supplyDrop).any = false ∧
      (after (.resetEnd .resetPin) heldTwice).heldResets.holds .supplyDrop = true ∧
      (after (.resetEnd .resetPin) heldTwice).phase = .inReset := by decide +kernel

theorem witness_StartWaitEndsInLoading :
    State.reset.pending = [] ∧ State.reset.phase = .startWait ∧
      State.reset.startPeriods < Config.startWaitPeriods := by
  decide

/-- LOADING with the first read running, and with the second read due. -/
def loading : State := after .oscillatorStartWaitEnd State.reset
def retrying : State := { loading with loader := { loading.loader with activity := .retryWait 0 } }
/-- LOADING with the second read running. -/
def rereading : State := after .retryReadStart retrying

/-- LOADING after this many periods of a read. -/
def readingAt (periods : Nat) (bits : List Bool) : State :=
  { loading with loader := { loading.loader with activity := .reading periods bits } }

/-! ### Images -/

/-- The check with its register as a number, forced at each bit, so that a whole image is checked in the kernel. -/
def crcNat : List Bool → Nat → Nat
  | [], r => r
  | b :: bs, r =>
    match (crcStep (BitVec.ofNat 16 r) b).toNat with
    | 0 => crcNat bs 0
    | n + 1 => crcNat bs (n + 1)

theorem crcNat_eq (bs : List Bool) (r : BitVec 16) : crcNat bs r.toNat = (bs.foldl crcStep r).toNat := by
  induction bs generalizing r with
  | nil => rfl
  | cons b bs ih =>
    have h : crcNat (b :: bs) r.toNat = crcNat bs (crcStep r b).toNat := by
      simp only [crcNat, BitVec.ofNat_toNat, BitVec.setWidth_eq]
      split <;> simp_all
    rw [h, ih]
    rfl

theorem crcBytes_toNat (bytes : List Byte) : (crcBytes bytes).toNat = crcNat (bytes.flatMap bitsMsb) 65535 :=
  (crcNat_eq _ 0xFFFF#16).symm

/-- The first 514 bytes of an image of station 1 with this budget, every channel exempt, no input and no entry. -/
def plainImage (budget : Byte) : List Byte :=
  [0xA5#8, 0x5A#8, 1#8, 2#8, 4#8, 1#8, 0#8, budget, 4#8, 1#8] ++ List.replicate 504 0#8

theorem checkedBytes_append (bytes rest : List Byte) (h : bytes.length = 514) :
    checkedBytes (bytes ++ rest) = bytes := by
  refine List.ext_getElem (by simp [checkedBytes, h]) fun i h1 h2 => ?_
  simp [checkedBytes, imageByte, List.getElem?_append_left h2, h2]

theorem plainImage_length (budget : Byte) : (plainImage budget).length = 514 := by
  unfold plainImage
  rw [List.length_append, List.length_replicate]
  rfl

theorem plainImage_crc (budget : Byte) (rest : List Byte) (v : Nat)
    (h : crcNat ((plainImage budget).flatMap bitsMsb) 65535 = v) :
    (crcBytes (checkedBytes (plainImage budget ++ rest))).toNat = v := by
  rw [checkedBytes_append _ _ (plainImage_length budget), crcBytes_toNat, h]

theorem crc_of_budget_one : crcNat ((plainImage 1#8).flatMap bitsMsb) 65535 = 0x82E0 := by decide +kernel
theorem crc_of_budget_zero : crcNat ((plainImage 0#8).flatMap bitsMsb) 65535 = 0xE771 := by decide +kernel

/-- A sound image; one whose check is wrong; one whose B is 0; and one whose length field is wrong. -/
def soundImage : List Byte := plainImage 1#8 ++ [0x82#8, 0xE0#8]
def wrongCheck : List Byte := plainImage 1#8 ++ [0x82#8, 0xE1#8]
def wrongRange : List Byte := plainImage 0#8 ++ [0xE7#8, 0x71#8]
def wrongLength : List Byte := [0xA5#8, 0x5A#8, 1#8, 2#8, 5#8]

theorem soundImage_form : formFailure soundImage = none := by
  have h : imageWord soundImage 514 = (crcBytes (checkedBytes soundImage)).toNat := by
    rw [soundImage, plainImage_crc 1#8 _ _ crc_of_budget_one]; decide +kernel
  unfold formFailure
  rw [if_neg (by decide +kernel), if_neg (by decide +kernel), if_neg fun hn => hn h]

theorem wrongRange_form : formFailure wrongRange = none := by
  have h : imageWord wrongRange 514 = (crcBytes (checkedBytes wrongRange)).toNat := by
    rw [wrongRange, plainImage_crc 0#8 _ _ crc_of_budget_zero]; decide +kernel
  unfold formFailure
  rw [if_neg (by decide +kernel), if_neg (by decide +kernel), if_neg fun hn => hn h]

theorem wrongCheck_form : formFailure wrongCheck = some .checkFailure := by
  have h : imageWord wrongCheck 514 ≠ (crcBytes (checkedBytes wrongCheck)).toNat := by
    rw [wrongCheck, plainImage_crc 1#8 _ _ crc_of_budget_one]; decide +kernel
  unfold formFailure
  rw [if_neg (by decide +kernel), if_neg (by decide +kernel), if_pos h]

theorem witness_SecondReadStartsOneTickLater :
    (retrying.isLoading = true ∧ retrying.loader.activity.isRetryWait = true ∧
        retrying.loader.activity = .retryWait 0) ∧
      (∀ p ∈ [0, 195, 33214, 33215], (readingAt p []).isLoading = true ∧ (readingAt p []).phase = .running ∧
        (readingAt p []).loader.activity = .reading p [] ∧ p < 33216) ∧
      (loading.isLoading = true ∧ loading.loader.activity = .reading 0 [] ∧ soundImage.length = 516) ∧
      ∃ level : Nat → Bool, ∀ i, i < 4128 →
        level (8 * i + 195) = (soundImage.flatMap bitsMsb).getD i true :=
  ⟨by decide +kernel, by decide +kernel, by decide +kernel,
    fun k => (soundImage.flatMap bitsMsb).getD ((k - 195) / 8) true,
    fun i _ => congrArg (fun j => (soundImage.flatMap bitsMsb).getD j true) (by omega)⟩

theorem witness_SoundImageEntersListening :
    loading.isLoading = true ∧ loading.loader.activity.isReading = true ∧ formFailure soundImage = none ∧
      ∃ c, readSettings soundImage = some c :=
  ⟨by decide +kernel, by decide +kernel, soundImage_form, Option.isSome_iff_exists.1 (by decide +kernel)⟩

theorem checkImage_of_form {image : List Byte} {failure : ImageCheck} (h : formFailure image = some failure) :
    checkImage image = failure := by
  unfold checkImage
  rw [h]

theorem checkImage_of_settings {image : List Byte} (h : formFailure image = none) :
    checkImage image = if (readSettings image).isSome then .sound else .rangeFailure := by
  unfold checkImage
  rw [h]

theorem unwired_form : formFailure [] = some .markFailure := by decide +kernel
theorem wrongLength_form : formFailure wrongLength = some .lengthFailure := by decide +kernel
theorem wrongRange_range : checkImage wrongRange = .rangeFailure := by
  rw [checkImage_of_settings wrongRange_form]; decide +kernel
theorem soundImage_sound : checkImage soundImage = .sound := by
  rw [checkImage_of_settings soundImage_form]; decide +kernel

theorem witness_RefusedImageHalts :
    (loading.isLoading = true ∧ loading.loader.activity.isReading = true ∧ loading.loader.attempts = 1) ∧
      (rereading.isLoading = true ∧ rereading.loader.activity.isReading = true ∧ rereading.loader.attempts = 2) ∧
      (checkImage ([] : List Byte) = .markFailure ∧ checkImage wrongLength = .lengthFailure ∧
        checkImage wrongCheck = .checkFailure ∧ checkImage wrongRange = .rangeFailure ∧
        checkImage soundImage = .sound) :=
  ⟨by decide +kernel, by decide +kernel, checkImage_of_form unwired_form, checkImage_of_form wrongLength_form,
    checkImage_of_form wrongCheck_form, wrongRange_range, soundImage_sound⟩

/-- Images that fail each of the first three checks, and one that passes them. -/
theorem witness_FormChecks :
    ¬ imageMarked ([] : List Byte) ∧ (imageMarked wrongLength ∧ ¬ imageSized wrongLength) ∧
      (imageMarked wrongCheck ∧ imageSized wrongCheck ∧ ¬ imageChecked wrongCheck) ∧
      (imageMarked soundImage ∧ imageSized soundImage ∧ imageChecked soundImage) := by
  refine ⟨by unfold imageMarked; decide +kernel, by unfold imageMarked imageSized; decide +kernel,
    ⟨by unfold imageMarked; decide +kernel, by unfold imageSized; decide +kernel, fun h => ?_⟩,
    by unfold imageMarked; decide +kernel, by unfold imageSized; decide +kernel, ?_⟩
  · have hc := h.trans (plainImage_crc 1#8 [0x82#8, 0xE1#8] _ crc_of_budget_one)
    exact absurd hc (by decide +kernel)
  · exact Eq.trans (by decide +kernel) (plainImage_crc 1#8 [0x82#8, 0xE0#8] _ crc_of_budget_one).symm

theorem witness_RangeCheckIsTheTableOfR194 :
    loading.isLoading = true ∧ loading.loader.activity.isReading = true ∧ formFailure wrongRange = none ∧
      ¬ imageRanges wrongRange := by
  refine ⟨by decide +kernel, by decide +kernel, wrongRange_form, fun h => ?_⟩
  exact absurd h.1.2.2.2.1 (by decide +kernel)

/-! ### The line -/

theorem witness_ListeningToTheLine :
    listening.member.state.online = true ∧ listening.line.activity = .counting ∧
      waiting.member.state.online = true ∧ waiting.line.activity = .idle ∧
      { waiting with line := { waiting.line with courtesyGap := true } }.line.courtesyGap = true := by decide +kernel

/-- The working station waiting with the claim alone offered. -/
def waitingClaim : State :=
  { waiting with line := { waiting.line with offers := { OfferSet.empty with claim := true } } }

/-- The working station waiting with these offers. -/
def offering (offers : OfferSet) : State := { waiting with line := { waiting.line with offers := offers } }

theorem witness_OwnStartSendsTheLowestOffer :
    (waiting.member.state.online = true ∧ waiting.line.activity = .idle ∧ waiting.line.courtesyGap = false ∧
        waiting.chosenOffer = some (.release 3) ∧ (waiting.withdrawnAtSof (.release 3)).isNone = true) ∧
      (waitingClaim.chosenOffer = some .claim ∧ (waitingClaim.withdrawnAtSof .claim).isNone = true) ∧
      { waiting with line := { waiting.line with offers := OfferSet.empty } }.standingOffers = [] := by decide +kernel

/-- The waiting station with its budget used up. -/
def noRoom : State :=
  { waitingClaim with
    table := [{ holder := 3, channel := 1, units := 9, cls := .low, state := .held, lease := 1 }] }

/-- The waiting station whose URGENT claim must displace. -/
def displacingOffer : State :=
  { noRoom with claims := { noRoom.claims with outstanding := some { claim with cls := .urgent } } }

/-- A station with a sound table that starts the frame of each kind of offer, a displacing CLAIM among them. -/
theorem witness_SampledContent :
    (∀ p ∈ [(Offer.beacon, { OfferSet.empty with beacon := true }),
        (.release 3, { OfferSet.empty with releases := (Vector.replicate 8 false).set 3 true }),
        (.claim, { OfferSet.empty with claim := true }), (.renew, { OfferSet.empty with renew := true }),
        (.command, { OfferSet.empty with command := true }), (.report, { OfferSet.empty with report := true })],
      (offering p.2).chosenOffer = some p.1 ∧ ((offering p.2).withdrawnAtSof p.1).isNone = true) ∧
      (∀ offers, (offering offers).tableInv) ∧ displacingOffer.tableInv ∧
      displacingOffer.chosenOffer = some .claim ∧ (displacingOffer.withdrawnAtSof .claim).isNone = true ∧
      displacingOffer.fits 2 = false := by
  refine ⟨by decide +kernel, fun _ => working_tableInv, ?_, by decide +kernel⟩
  unfold State.tableInv tableSound tableOrdered State.startsInLoading Holding.inRange; decide +kernel

theorem witness_FailedRecheckReturnsTheDemandHeld :
    noRoom.queueInv ∧ noRoom.member.state.online = true ∧ noRoom.line.activity = .idle ∧
      noRoom.line.courtesyGap = false ∧ noRoom.chosenOffer = some .claim ∧
      noRoom.claims.outstanding = some claim ∧ noRoom.claimPasses claim = false :=
  ⟨queueInv_of rfl (by decide +kernel), by decide +kernel, by decide +kernel, by decide +kernel, by decide +kernel,
    rfl, by decide +kernel⟩

/-- The station sending its CLAIM with this outstanding claim. -/
def sendingClaimAs (c : OutstandingClaim) : State :=
  { sendingClaim with claims := { sendingClaim.claims with outstanding := some c } }

/-- The station sending a claim for channel 5 while its group is inhibited. -/
def inhibitedClaim : State :=
  { sendingClaimAs { claim with channel := 5, inFlight := true } with
    channels := (sendingClaim.channels.set 2 { state := .off, rest := 0 }).set 5 { state := .claiming, rest := 0 }
    masks := { line := 1#8, schedule := 0#8, level := 0#8 }
    line := { sendingClaim.line with
      activity := .transmitting .claim (frameOf (headOf 2 1) kindClaim [5#8, 2#8]) } }

theorem witness_LostArbitrationKeepsTheOffer :
    ((sending (.release 3)).member.state.online = true ∧
        (sending (.release 3)).line.activity = .transmitting (.release 3) (waiting.sampledFrame (.release 3)) ∧
        (waiting.sampledFrame (.release 3)).arbitrationBits.getD 11 false = true) ∧
      (sendingClaim.line.activity = .transmitting .claim (waiting.sampledFrame .claim) ∧
        (waiting.sampledFrame .claim).arbitrationBits.getD 0 false = true ∧
        sendingClaim.claims.outstanding = some { claim with inFlight := true } ∧
        sendingClaim.inhibited claim.channel = false) ∧
      (sendingClaimAs { claim with inFlight := true, stopNote := true }).queueInv ∧
      (inhibitedClaim.queueInv ∧ inhibitedClaim.member.state.online = true ∧
        inhibitedClaim.line.activity = .transmitting .claim (frameOf (headOf 2 1) kindClaim [5#8, 2#8]) ∧
        (frameOf (headOf 2 1) kindClaim [5#8, 2#8]).arbitrationBits.getD 0 false = true ∧
        inhibitedClaim.claims.outstanding = some { claim with channel := 5, inFlight := true } ∧
        inhibitedClaim.inhibited 5 = true) :=
  ⟨by decide +kernel, by decide +kernel, queueInv_of rfl (by decide +kernel), queueInv_of rfl (by decide +kernel),
    by decide +kernel⟩

theorem witness_FailedAttemptKeepsUnlimitedOffers :
    (sending (.release 3)).member.state.online = true ∧
      (sending (.release 3)).line.activity = .transmitting (.release 3) (waiting.sampledFrame (.release 3)) ∧
      (sending .beacon).line.activity = .transmitting .beacon (waiting.sampledFrame .beacon) ∧
      (sending .renew).line.activity = .transmitting .renew (waiting.sampledFrame .renew) ∧
      { (sending .beacon).line with sendStreak := 14 }.sendStreak + 1 < 16 ∧
      (waiting.sampledFrame (.release 3)).abortsAt 0 = true ∧ (waiting.sampledFrame .beacon).abortsAt 12 = true := by
  decide +kernel

/-- The station sending an offer at this attempt count of each source, its streak one below the limit's last step. -/
def sendingAt (o : Offer) (attempts : Nat) : State :=
  { sending o with
    claims := { (sending o).claims with outstanding := some { claim with attempts := attempts, inFlight := true } }
    commands := { (sending o).commands with headAttempts := attempts }
    report := { (sending o).report with attempts := attempts }
    line := { (sending o).line with sendStreak := 14 } }

theorem witness_ThirdFailureGivesUp :
    (∀ o ∈ [Offer.claim, .command, .report], ∀ k ∈ [1, 2],
      (sendingAt o k).member.state.online = true ∧
        (sendingAt o k).line.activity = .transmitting o (waiting.sampledFrame o) ∧
        (waiting.sampledFrame o).abortsAt 12 = true ∧
        (sendingAt o k).line.sendStreak + 1 < 16 ∧ (sendingAt o k).commands.headAttempts = k ∧
        (sendingAt o k).report.attempts = k ∧
        (sendingAt o k).claims.outstanding = some { claim with attempts := k, inFlight := true } ∧
        (sendingAt o k).inhibited claim.channel = false) ∧
      (sendingAt .claim 1).queueInv ∧ (sendingAt .claim 2).queueInv ∧
      (sendingClaimAs { claim with inFlight := true, stopNote := true }).queueInv ∧
      (inhibitedClaim.queueInv ∧ inhibitedClaim.inhibited 5 = true ∧ inhibitedClaim.line.sendStreak + 1 < 16) :=
  ⟨by decide +kernel, queueInv_of rfl (by decide +kernel), queueInv_of rfl (by decide +kernel),
    queueInv_of rfl (by decide +kernel), queueInv_of rfl (by decide +kernel), by decide +kernel⟩

/-- The bits of a frame whose check is wrong, and of a correct one. -/
def badBits : List Bool := frame85.raw.coveredBits ++ List.replicate 16 false
def goodBits : List Bool := frame85.bits

theorem witness_ReceiverJudgesTheFrame :
    working.member.state.online = true ∧ working.line.activity = .receiving ∧
      RawFrame.ofBits goodBits = some frame85.raw ∧ frame85.raw.defective = false ∧
      RawFrame.ofBits badBits = some { frame85.raw with check := 0 } ∧
      { frame85.raw with check := 0 }.defective = true ∧
      { working.line with vetoStreak := 6 }.vetoStreak + 1 < 8 ∧
      acceptedFrame (.renewAccepted (headOf 1 3) [0x21#8, 1#8]) = some (frameOf (headOf 1 3) kindRenew [0x21#8, 1#8]) ∧
      (frameOf (headOf 1 3) kindRenew [0x21#8, 1#8]).raw.defective = true := by
  decide +kernel

theorem witness_StreakLimitEntersMute :
    ({ working with line := { working.line with vetoStreak := 7 } }.queueInv ∧
        { working with line := { working.line with vetoStreak := 7 } }.line.activity = .receiving ∧
        readsDefective badBits = true) ∧
      (∀ o ∈ [Offer.command, .release 3],
        { sending o with line := { (sending o).line with sendStreak := 15 } }.line.sendStreak = 15 ∧
          (sending o).line.activity = .transmitting o (waiting.sampledFrame o) ∧
          (waiting.sampledFrame o).abortsAt 12 = true ∧ (sending o).commands.queue ≠ []) ∧
      { sending .command with line := { (sending .command).line with sendStreak := 15 } }.queueInv :=
  ⟨⟨queueInv_of rfl (by decide +kernel), rfl, by decide +kernel⟩, by decide +kernel,
    queueInv_of rfl (by decide +kernel)⟩

/-- The station in MUTE with one tick of its mute period left. -/
def muted : State :=
  { working with member := { working.member with state := .mute, beaconTimer := .stopped, muteTimer := 1 } }

theorem witness_MuteEndsInListening : muted.member.state = .mute ∧ muted.member.muteTimer = 0 + 1 := ⟨rfl, rfl⟩

theorem witness_BeaconTimerPlacesTheOffer :
    listening.member.state.online = true ∧ listening.member.beaconTimer = .counting 0 ∧
      65 = 64 * listening.settings.period + listening.settings.stationId := by decide +kernel

/-! ### Acceptance -/

theorem witness_FramesPassAnOfflineStation :
    acceptedFrame ownClaim = some (frameOf (headOf 2 1) kindClaim [2#8, 2#8]) ∧
      muted.member.state.online = false := by
  decide +kernel

theorem witness_DuplicateIdHalts :
    acceptedFrame ownClaim = some (frameOf (headOf 2 1) kindClaim [2#8, 2#8]) ∧
      working.member.state.online = true ∧ working.line.activity = .receiving ∧
      (frameOf (headOf 2 1) kindClaim [2#8, 2#8]).raw.defective = false ∧
      (frameOf (headOf 2 1) kindClaim [2#8, 2#8]).source.toNat = working.ownId ∧
      working.claims.outstanding = some claim ∧
      { working with claims := { working.claims with outstanding := none } }.claims.outstanding = none := by
  decide +kernel

theorem witness_UnappliedFramesHaveLineEffectsOnly :
    (working.hears (frameOf (headOf 0 0) kindInhibit [1#8, 0#8]) ∧
        working.hears (frameOf (headOf 0 63) kindInhibit [1#8, 0#8])) ∧
      (working.hears (frameOf { headOf 0 3 with tag := 229#8 } kindInhibit [1#8, 0#8]) ∧
        229#8 ≠ working.settings.tag) ∧
      (working.hears (frameOf (headOf 0 3) (BitVec.ofNat 4 (9 + 6)) []) ∧
        working.ofProfile (frameOf (headOf 0 3) (BitVec.ofNat 4 (9 + 6)) [])) ∧
      working.hears (frameOf (headOf 3 3) kindReport (List.replicate 19 0#8)) ∧
      working.ofProfile (frameOf (headOf 3 3) kindReport (List.replicate 19 0#8)) := by
  unfold State.hears State.ofProfile; decide +kernel

/-- A BEACON that agrees with the working station, one of another epoch, and one that is not authoritative. -/
def agreeing : Vector Byte 14 :=
  #v[0#8, 9#8, 2#8, 0#8, 0#8, 0#8, 0#8, 0#8, 0#8, 0#8, 2#8, 6#8, 1#8, 0#8]
def disagreeing : Vector Byte 14 := agreeing.set 1 10#8
def unauthoritative : Vector Byte 14 := agreeing.set 2 0#8

/-- The station in LISTENING, receiving, after this many beacons, with the working station's table. -/
def joining (heard : Nat) (authHeard : Bool) : State :=
  { listening with
    table := working.table.filter Holding.reserved
    member := { listening.member with beaconsHeard := heard, authHeard := authHeard, joinRetries := 2 }
    line := { listening.line with activity := .receiving } }

theorem witness_OwnAcceptanceEndsTheAttempt :
    (acceptedFrame (.releaseAccepted (headOf 0 1) #v[3#8]) = some (waiting.sampledFrame (.release 3)) ∧
        (waiting.sampledFrame (.release 3)).payload = releasePayload 3 ∧
        (sending (.release 3)).ofProfile (waiting.sampledFrame (.release 3)) ∧
        (sending (.release 3)).channelState 3 = .stopping) ∧
      (acceptedFrame (.beaconAccepted (headOf 0 1) agreeing) = some (waiting.sampledFrame .beacon) ∧
        acceptedFrame (.renewAccepted (headOf 1 1) [16#8, 2#8]) = some (waiting.sampledFrame .renew) ∧
        acceptedFrame (.inhibitAccepted (headOf 0 1) #v[1#8, 0#8]) = some (waiting.sampledFrame .command) ∧
        acceptedFrame ownClaim = some (waiting.sampledFrame .claim) ∧
        (after ownClaim sendingClaim).line.offers.claim = true ∧
        acceptedFrame (.reportAccepted (headOf 3 1)
          #v[2#8, 0#8, 64#8, 48#8, 20#8, 128#8, 0#8, 1#8, 2#8, 6#8, 0#8, 0#8, 0#8, 0#8, 0#8, 0#8, 0#8, 0#8, 8#8]) =
            some (waiting.sampledFrame .report)) ∧
      (∀ o ∈ [Offer.beacon, .release 3, .renew, .command, .report, .claim],
        (sending o).member.state.online = true ∧
          (sending o).line.activity = .transmitting o (waiting.sampledFrame o)) ∧
      ((sending .beacon).member.state = .synced ∧ (sending .beacon).ofProfile (waiting.sampledFrame .beacon)) ∧
      ∀ k ∈ [2, 3, 6, 7], ∀ auth, (joining k auth).member.state = .listening ∧
        (joining k auth).member.beaconsHeard + 1 = k + 1 ∧ (joining k auth).member.authHeard = auth ∧
        (joining k auth).settings.lease = 4 := by
  unfold State.ofProfile; decide +kernel

/-! ### The holding table -/

theorem witness_ClaimIsEvaluatedByCases :
    (findHolding 6 0 table112 ≠ none) ∧
      (findHolding 5 3 (List.replicate 48
        ({ holder := 3, channel := 1, units := 1, cls := .low, state := .held, lease := 1 } : Holding)) = none) ∧
      (findHolding 5 3 table112 = none ∧ table112.length < 48 ∧ 2 ≤ freeUnits 40 table112) ∧
      (freeUnits 40 table112 < 34 ∧ pendingPresent table112 = false ∧
        34 ≤ freeUnits 40 table112 + displaceableUnits table112) ∧
      ¬ 35 ≤ freeUnits 40 table112 + displaceableUnits table112 ∧ reservedUnits table112 ≤ 40 := by
  decide +kernel

theorem witness_VictimOrderIsR14 : tableOrdered table112 := by unfold tableOrdered; decide +kernel

theorem witness_DisplacementMarksTheShortestPrefix :
    tableOrdered table112 ∧ reservedUnits table112 ≤ 40 ∧
      (evaluateClaim 40 8 table112 6 5 12 .urgent true).result = .displacing :=
  ⟨witness_VictimOrderIsR14, by decide, by decide⟩

/-- The own record of channel 0 is among the victims of an URGENT claim for 10 units. -/
theorem witness_ForeignClaimIsApplied :
    (working.hears (frameOf (headOf 0 5) kindClaim [0x80#8, 10#8]) ∧
        working.ofProfile (frameOf (headOf 0 5) kindClaim [0x80#8, 10#8]) ∧ working.member.state = .synced) ∧
      (((1, 0) : Nat × ChannelIx) ∈ (evaluateClaim 10 4 working.table 5 0 10 .urgent true).victims ∧
        working.exempt 0 = false ∧ working.channelState 0 = .switchedOn (normal (some 64)) ∧
        working.entryOf 0 = none) ∧
      (working.hears (frameOf (headOf 0 5) kindClaim [0#8, 1#8]) ∧
        working.hears (frameOf (headOf 0 5) kindClaim [0#8, 250#8]) ∧
        working.hears (frameOf (headOf 0 5) kindClaim [0#8, 0#8]) ∧
        working.hears (frameOf (headOf 0 5) kindClaim [0#8, 251#8])) ∧
      { listening with line := { listening.line with activity := .receiving } }.hears
        (frameOf (headOf 0 5) kindClaim [0#8, 1#8]) := by
  unfold State.hears State.ofProfile; decide +kernel

/-- Own records stand for channel 0, which is ON, and for channel 4, which is OFF with an entry. -/
def recordedOff : List Holding :=
  [{ holder := 1, channel := 0, units := 4, cls := .normal, state := .held, lease := 3 },
    { holder := 1, channel := 4, units := 5, cls := .low, state := .held, lease := 3 }]

/-- An URGENT claim of station 5 for 9 units takes both own records, ON channel 0's and OFF channel 4's. -/
theorem witness_ForeignClaimShedsAnOffChannel :
    { working with table := recordedOff }.hears (frameOf (headOf 0 5) kindClaim [0x80#8, 9#8]) ∧
      { working with table := recordedOff }.ofProfile (frameOf (headOf 0 5) kindClaim [0x80#8, 9#8]) ∧
      (evaluateClaim 10 4 recordedOff 5 0 9 .urgent true).victims = [(1, 4), (1, 0)] ∧
      working.channelState 4 = .off ∧ working.exempt 4 = false ∧ (working.entryOf 4).isSome = true := by
  unfold State.hears State.ofProfile; decide +kernel

/-- The station sending an URGENT claim for channel 2 that displaces station 3's record. -/
def displacingClaim : State :=
  { sendingClaimAs { claim with cls := .urgent, inFlight := true } with
    table := [{ holder := 3, channel := 1, units := 9, cls := .low, state := .held, lease := 1 }]
    line := { sendingClaim.line with
      activity := .transmitting .claim (frameOf (headOf 0 1) kindClaim [0x82#8, 2#8]) } }

/-- The same with both own records in the way of a claim for 9 units. -/
def sheddingClaim : State :=
  { displacingClaim with
    table := recordedOff
    line := { sendingClaim.line with
      activity := .transmitting .claim (frameOf (headOf 0 1) kindClaim [0x82#8, 9#8]) } }

theorem witness_OwnClaimShedsItsOwn :
    sheddingClaim.queueInv ∧ sheddingClaim.ofProfile (frameOf (headOf 0 1) kindClaim [0x82#8, 9#8]) ∧
      (evaluateClaim 10 4 sheddingClaim.table 1 2 9 .urgent true).result = .displacing ∧
      (evaluateClaim 10 4 sheddingClaim.table 1 2 9 .urgent true).victims = [(1, 4), (1, 0)] ∧
      sheddingClaim.channelState 0 = .switchedOn (normal (some 64)) ∧ sheddingClaim.channelState 4 = .off :=
  ⟨queueInv_of rfl (by decide +kernel), by unfold State.ofProfile; decide +kernel, by decide +kernel⟩

theorem witness_OwnClaimAdmittedMovesTheChannel :
    (sendingClaim.queueInv ∧ sendingClaim.ofProfile (frameOf (headOf 2 1) kindClaim [2#8, 2#8]) ∧
        sendingClaim.line.activity = .transmitting .claim (frameOf (headOf 2 1) kindClaim [2#8, 2#8]) ∧
        channelLow 2#8 = claim.channel ∧ sendingClaim.inhibited 2 = false ∧
        (evaluateClaim 10 4 sendingClaim.table 1 2 2 .normal false).result = .granted) ∧
      (displacingClaim.queueInv ∧ displacingClaim.ofProfile (frameOf (headOf 0 1) kindClaim [0x82#8, 2#8]) ∧
        channelLow 0x82#8 = 2 ∧
        (evaluateClaim 10 4 displacingClaim.table 1 2 2 .urgent true).result = .displacing) ∧
      (sendingClaimAs { claim with inFlight := true, stopNote := true }).queueInv ∧
      inhibitedClaim.queueInv ∧ inhibitedClaim.inhibited 5 = true ∧ channelLow 5#8 = 5 ∧
      (evaluateClaim 10 4 inhibitedClaim.table 1 5 2 .normal false).result = .granted := by
  refine ⟨⟨queueInv_of rfl (by decide +kernel), by unfold State.ofProfile; decide +kernel, by decide +kernel,
    by decide +kernel⟩, ⟨queueInv_of rfl (by decide +kernel), by unfold State.ofProfile; decide +kernel,
    by decide +kernel⟩, queueInv_of rfl (by decide +kernel), queueInv_of rfl (by decide +kernel), by decide +kernel⟩

/-- The station whose claim finds no room, or a record of its own key. -/
def refusedClaim (records : List Holding) : State := { sendingClaim with table := records }

theorem witness_OwnClaimRefusedWaitsHeld :
    ((refusedClaim noRoom.table).queueInv ∧
        (refusedClaim noRoom.table).ofProfile (frameOf (headOf 2 1) kindClaim [2#8, 2#8]) ∧
        (refusedClaim noRoom.table).line.activity = .transmitting .claim (frameOf (headOf 2 1) kindClaim [2#8, 2#8]) ∧
        (evaluateClaim 10 4 noRoom.table 1 2 2 .normal false).result = .noBudget) ∧
      (evaluateClaim 10 4 [{ holder := 1, channel := 2, units := 2, cls := .low, state := .held, lease := 1 }] 1 2 2
        .normal false).result = .duplicate ∧
      { sendingClaimAs { claim with inFlight := true, stopNote := true } with table := noRoom.table }.queueInv := by
  refine ⟨⟨queueInv_of rfl (by decide +kernel), by unfold State.ofProfile; decide +kernel, by decide +kernel,
    by decide +kernel⟩, by decide +kernel, queueInv_of rfl (by decide +kernel)⟩

/-- An own PENDING record for channel 4 waits for station 3's victim to leave. -/
def promotable : State :=
  { working with
    table :=
      [{ holder := 1, channel := 0, units := 2, cls := .normal, state := .held, lease := 3 },
        { holder := 1, channel := 4, units := 8, cls := .urgent, state := .pending, lease := 3 },
        { holder := 3, channel := 1, units := 4, cls := .low, state := .shedding, lease := 1 }]
    channels := working.channels.set 4 { state := .pending (normal none), rest := 0 }
    claims := { working.claims with queue := [] } }

theorem witness_ReleaseRemovesTheRecord :
    promotable.hears (frameOf (headOf 0 3) kindRelease [1#8]) ∧
      promotable.ofProfile (frameOf (headOf 0 3) kindRelease [1#8]) ∧
      findHolding 3 1 promotable.table ≠ none ∧ promotable.member.state = .synced ∧
      (promotionCheck 10 (removeHolding 3 1 promotable.table)).2 =
        some { holder := 1, channel := 4, units := 8, cls := .urgent, state := .pending, lease := 3 } ∧
      promotable.exempt 4 = false ∧ promotable.channelState 4 = .pending (normal none) ∧
      promotable.hears (frameOf (headOf 0 3) kindRelease [2#8]) ∧ findHolding 3 2 promotable.table = none ∧
      { promotable with member := { promotable.member with state := .listening } }.hears
        (frameOf (headOf 0 3) kindRelease [1#8]) := by
  unfold State.hears State.ofProfile; decide +kernel

theorem witness_PromotionFollowsTheLastVictim :
    (tableSound 10 4 promotable.table ∧ pendingRecord promotable.table =
        some { holder := 1, channel := 4, units := 8, cls := .urgent, state := .pending, lease := 3 } ∧
        10 < onUnitsSum promotable.table + 8) ∧
      tableSound 10 4 (removeHolding 3 1 promotable.table) ∧
      onUnitsSum (removeHolding 3 1 promotable.table) + 8 ≤ 10 ∧
      sheddingCount (removeHolding 3 1 promotable.table) = 0 := by
  unfold tableSound tableOrdered Holding.inRange; decide +kernel

theorem witness_RenewWritesLeasesOrLearns :
    (working.hears (frameOf (headOf 1 3) kindRenew [0x38#8, 4#8]) ∧
        working.ofProfile (frameOf (headOf 1 3) kindRenew [0x38#8, 4#8])) ∧
      table112[4]? = some { holder := 14, channel := 7, units := 5, cls := .low, state := .held, lease := 3 } ∧
      (tableOrdered table112 ∧ reservedUnits (removeHolding 6 1 table112) + 2 ≤ 40 ∧
        40 < reservedUnits (removeHolding 6 1 table112) + 3 ∧ findHolding 6 1 table112 = none) ∧
      (tableOrdered displaced112 ∧ pendingPresent (removeHolding 6 1 displaced112) = true) ∧
      tableOrdered ((List.range 48).map fun k =>
        { holder := 7 + k / 8, channel := Fin.ofNat 8 k, units := 1, cls := .low, state := .held, lease := 1 }) := by
  unfold State.hears State.ofProfile tableOrdered; decide +kernel

/-! ### Beacons -/

/-- The working station with a witness record. -/
def doubting (sender count : Nat) : State :=
  { working with member := { working.member with witness := some { sender := sender, count := count } } }

theorem forall_three {α : Type} {P : α → Prop} {a b c : α} (ha : P a) (hb : P b) (hc : P c) :
    ∀ p ∈ [a, b, c], P p := by
  simp [ha, hb, hc]

/-- The working station with channel 4 PENDING and every own record at its last lease. -/
def expiring : State :=
  { promotable with
    table :=
      [{ holder := 1, channel := 0, units := 2, cls := .normal, state := .held, lease := 1 },
        { holder := 1, channel := 3, units := 2, cls := .normal, state := .shedding, lease := 1 },
        { holder := 1, channel := 4, units := 2, cls := .normal, state := .pending, lease := 1 }] }

/-- The working station with its own record of channel 0 at its full lease. -/
def renewed : State :=
  { working with table := [{ holder := 1, channel := 0, units := 2, cls := .normal, state := .held, lease := 4 }] }

/-- A BEACON with the time one fraction before 06:30 on 2024-03-15, and one with a day out of range. -/
def timed : Vector Byte 14 :=
  #v[0#8, 9#8, 3#8, 24#8, 3#8, 15#8, 6#8, 29#8, 59#8, 63#8, 2#8, 6#8, 1#8, 0#8]
def illTimed : Vector Byte 14 := ((timed.set 3 23#8).set 4 2#8).set 5 29#8

/-- The station one fraction before 06:30 whose frame began this many fractions before the beacon's time. -/
def timedAt (sof : Nat) : State :=
  { beforeHalfPast with calendar := { beforeHalfPast.calendar with sofPosition := sof, sofValid := true } }

theorem timedAt_timeInv (sof : Nat) (h : sof < Config.cycleFractions) : (timedAt sof).timeInv := by
  obtain ⟨h1, -, h3, h4, h5, h6, h7⟩ := beforeHalfPast_timeInv
  exact ⟨h1, h, h3, h4, h5, h6, h7⟩

theorem witness_BeaconCarriesTime :
    ((beaconFields timed).timeValid = true ∧ (beaconFields timed).time = friday 6 29 59 63 ∧
        (beaconFields timed).time.inRange = true ∧ (beaconFields illTimed).timeValid = true ∧
        (beaconFields illTimed).time.inRange = false ∧ fractionPosition (friday 6 29 59 63) = 48883161599) ∧
      (timedAt 48883161599).timeInv ∧ (timedAt 48883161598).timeInv ∧ working.timeInv ∧
      (timedAt 48883161599).hears (frameOf (headOf 0 3) kindBeacon timed.toList) ∧
      minuteNumber (after (.beaconAccepted (headOf 0 3) timed) (timedAt 48883161599)).calendar.value = 12729989 ∧
      minuteNumber (after (.beaconAccepted (headOf 0 3) timed) (timedAt 48883161598)).calendar.value = 12729990 :=
  ⟨by decide +kernel, timedAt_timeInv _ (by decide), timedAt_timeInv _ (by decide), working_timeInv,
    State.hears_of (by decide +kernel), by decide +kernel⟩

theorem witness_BeaconExpiresAndPromotes :
    (expiring.queueInv ∧ tableOrdered expiring.table ∧
        expiring.hears (frameOf (headOf 0 3) kindBeacon agreeing.toList) ∧
        (expiredRecords (ageTable expiring.table)).map Holding.key = [(1, 0), (1, 3), (1, 4)] ∧
        expiring.channelState 0 = .switchedOn (normal (some 64)) ∧ expiring.channelState 3 = .stopping ∧
        expiring.channelState 4 = .pending (normal none) ∧ (expiring.channelSettings 0).rest ≠ 0) ∧
      (promotable.queueInv ∧ tableOrdered promotable.table ∧
        promotable.hears (frameOf (headOf 0 3) kindBeacon agreeing.toList) ∧
        (promotionCheck 10 (liveRecords (ageTable promotable.table))).2 =
          some { holder := 1, channel := 4, units := 8, cls := .urgent, state := .pending, lease := 2 } ∧
        promotable.channelState 4 = .pending (normal none)) ∧
      (∃ r ∈ (after (.beaconAccepted (headOf 0 3) agreeing) working).table,
        r.holder = 1 ∧ r.state ≠ .shedding ∧ r.lease ≤ 2) ∧
      (∀ r ∈ (after (.beaconAccepted (headOf 0 3) agreeing) noRoom).table, r.holder = 1 → r.state = .shedding) ∧
      (∃ r ∈ (after (.beaconAccepted (headOf 0 3) agreeing) renewed).table, r.holder = 1 ∧ 2 < r.lease) := by
  refine ⟨⟨queueInv_of rfl (by decide +kernel), by unfold tableOrdered; decide +kernel,
    State.hears_of (by decide +kernel), by decide +kernel⟩, ⟨queueInv_of rfl (by decide +kernel),
    by unfold tableOrdered; decide +kernel, State.hears_of (by decide +kernel), by decide +kernel⟩, ?_⟩
  decide +kernel

theorem witness_BeaconInSyncedAgesAndCounts :
    (∀ p ∈ [agreeing, disagreeing, unauthoritative],
      working.hears (frameOf (headOf 0 3) kindBeacon p.toList) ∧
        working.ofProfile (frameOf (headOf 0 3) kindBeacon p.toList)) ∧
      (working.member.state = .synced ∧ working.member.witness = none ∧
        (beaconFields agreeing).authoritative = true ∧ (beaconFields unauthoritative).authoritative = false ∧
        (beaconFields agreeing).timeValid = false ∧
        working.member.epoch + 1 = (beaconFields agreeing).epoch ∧
        tableDigest working.table = (beaconFields agreeing).digest ∧
        working.masks.line = (beaconFields agreeing).mask ∧
        working.member.epoch + 1 ≠ (beaconFields disagreeing).epoch) ∧
      (doubting 3 2).hears (frameOf (headOf 0 3) kindBeacon disagreeing.toList) ∧
      (doubting 3 2).member.witness = some { sender := 3, count := 2 } :=
  ⟨forall_three ⟨State.hears_of (by decide +kernel), by unfold State.ofProfile; decide +kernel⟩
      ⟨State.hears_of (by decide +kernel), by unfold State.ofProfile; decide +kernel⟩
      ⟨State.hears_of (by decide +kernel), by unfold State.ofProfile; decide +kernel⟩,
    by decide +kernel, State.hears_of (by decide +kernel), by decide +kernel⟩

/-- A station with this witness record. -/
def doubtful (s : State) (sender count : Nat) : State :=
  { s with member := { s.member with witness := some { sender := sender, count := count } } }

/-- The working station with channel 4 PENDING, under leases that last, and an own record for OFF channel 5. -/
def recorded : State :=
  { promotable with
    table :=
      [{ holder := 1, channel := 0, units := 2, cls := .normal, state := .held, lease := 3 },
        { holder := 1, channel := 4, units := 2, cls := .normal, state := .pending, lease := 2 },
        { holder := 1, channel := 5, units := 2, cls := .normal, state := .held, lease := 2 }] }

/-- Channel by channel, the states whose records live on and those whose records the beacon's expiry takes. -/
theorem witness_DivergenceGivesUpTheTable :
    ((doubtful recorded 3 3).queueInv ∧ (doubtful expiring 5 1).queueInv) ∧
      (∀ s ∈ [doubtful recorded 3 3, doubtful expiring 5 1],
        s.member.state.online = true ∧ s.line.activity = .receiving ∧ s.member.state = .synced ∧
          s.member.epoch + 1 ≠ (beaconFields disagreeing).epoch ∧
          s.channelState 0 = .switchedOn (normal (some 64)) ∧ s.channelState 4 = .pending (normal none) ∧
          s.claims.outstanding = some claim ∧ s.channelState 3 = .stopping ∧ s.channelState 5 = .off ∧
          (s.channelSettings 0).rest ≠ 0 ∧ s.exempt 0 = false ∧ s.exempt 4 = false ∧ s.exempt 5 = false) ∧
      (doubtful recorded 3 3).hears (frameOf (headOf 0 3) kindBeacon disagreeing.toList) ∧
      (doubtful expiring 5 1).hears (frameOf (headOf 0 3) kindBeacon disagreeing.toList) ∧
      working.ofProfile (frameOf (headOf 0 3) kindBeacon disagreeing.toList) ∧
      (beaconFields disagreeing).authoritative = true ∧ tableOrdered recorded.table ∧ tableOrdered expiring.table ∧
      (expiredRecords (ageTable recorded.table)).length = 0 ∧
      (liveRecords (ageTable recorded.table)).map Holding.key = [(1, 0), (1, 4), (1, 5)] ∧
      (expiredRecords (ageTable expiring.table)).map Holding.key = [(1, 0), (1, 3), (1, 4)] :=
  ⟨⟨queueInv_of rfl (by decide +kernel), queueInv_of rfl (by decide +kernel)⟩, by decide +kernel,
    State.hears_of (by decide +kernel), State.hears_of (by decide +kernel),
    by unfold State.ofProfile; decide +kernel, by decide +kernel, by unfold tableOrdered; decide +kernel,
    by unfold tableOrdered; decide +kernel, by decide +kernel⟩

/-- A BEACON whose digest is that of the joining station's table. -/
def joinable : Vector Byte 14 := agreeing.set 12 0#8

theorem witness_BeaconInListeningJoins :
    (∀ k ∈ [2, 3, 6, 7], ∀ p ∈ [joinable, disagreeing, unauthoritative],
      (joining k false).hears (frameOf (headOf 0 3) kindBeacon p.toList) ∧
        (joining k false).ofProfile (frameOf (headOf 0 3) kindBeacon p.toList) ∧
        (joining k false).member.state = .listening) ∧
      (tableDigest (joining 3 false).table = (beaconFields joinable).digest ∧
        (beaconFields joinable).digest.shedding = 0 ∧ (beaconFields joinable).digest.pending = false) ∧
      tableDigest (joining 7 false).table ≠ (beaconFields disagreeing).digest ∧
      (joining 7 false).settings.lease = 4 :=
  ⟨fun k hk => forall_three
      ⟨State.hears_of (by revert k; decide +kernel), by revert k; unfold State.ofProfile; decide +kernel,
        by revert k; decide +kernel⟩
      ⟨State.hears_of (by revert k; decide +kernel), by revert k; unfold State.ofProfile; decide +kernel,
        by revert k; decide +kernel⟩
      ⟨State.hears_of (by revert k; decide +kernel), by revert k; unfold State.ofProfile; decide +kernel,
        by revert k; decide +kernel⟩,
    by decide +kernel, by decide +kernel, by decide +kernel⟩

/-- The joining station with STOPPING channel 3's record at its last lease, an entry for channel 4, and exempt channel 6
ON in group 0, with time valid or not. -/
def joiningTimed (valid : Bool) : State :=
  { joining 1 false with
    settings := { site with channels := site.channels.set 6 (plainChannel 0 (some 0)) }
    table := [{ holder := 1, channel := 3, units := 2, cls := .normal, state := .held, lease := 1 }]
    channels := ((joining 1 false).channels.set 3 { state := .stopping, rest := 5 }).set 6
      { state := .switchedOn (normal (some 64)), rest := 0 }
    claims := { queue := [{ channel := 4, cls := .low, allowance := none, hold := true, number := 0 }]
                outstanding := none, enqueueCount := 1 }
    calendar := { beforeHalfPast.calendar with sofPosition := 48883161598, sofValid := valid, valid := valid }
    lastMinute := if valid then some 12729989 else none
    report := { working.report with faults := { FaultSet.none with timeInvalid := !valid } } }

theorem joiningTimed_timeInv (valid : Bool) : (joiningTimed valid).timeInv := by
  refine ⟨by revert valid; decide +kernel, by revert valid; decide +kernel, by revert valid; decide +kernel,
    by revert valid; decide +kernel, by revert valid; decide +kernel, ?_,
    by unfold State.startsInLoading; revert valid; decide +kernel⟩
  intro m h
  cases valid
  · cases h
  · cases (Option.some.inj h : 12729989 = m)
    decide

/-- The first adjustment of a joining station, and a later one into the next minute, while its STOPPING channel's record
expires and the adopted mask inhibits group 0. -/
theorem witness_JoiningTakesTheTime :
    (∀ valid, (joiningTimed valid).hears (frameOf (headOf 0 3) kindBeacon (timed.set 13 1#8).toList) ∧
        (joiningTimed valid).ofProfile (frameOf (headOf 0 3) kindBeacon (timed.set 13 1#8).toList) ∧
        (joiningTimed valid).member.state = .listening ∧ (joiningTimed valid).queueInv ∧
        tableOrdered (joiningTimed valid).table ∧ (joiningTimed valid).timeInv ∧
        (joiningTimed valid).calendar.valid = valid) ∧
      (expiredRecords (ageTable (joiningTimed true).table)).map Holding.key = [(1, 3)] ∧
      (joiningTimed true).channelState 3 = .stopping ∧ (joiningTimed true).inhibited 6 = false ∧
      (after (.beaconAccepted (headOf 0 3) (timed.set 13 1#8)) (joiningTimed true)).inhibited 6 = true ∧
      minuteNumber (after (.beaconAccepted (headOf 0 3) (timed.set 13 1#8)) (joiningTimed true)).calendar.value =
        12729990 := by
  refine ⟨fun valid => ⟨State.hears_of (by revert valid; decide +kernel),
    by revert valid; unfold State.ofProfile; decide +kernel, rfl, queueInv_none rfl (by revert valid; decide +kernel),
    by unfold tableOrdered; revert valid; decide +kernel, joiningTimed_timeInv valid, rfl⟩, by decide +kernel⟩

/-! ### Inhibits, time, demands and queries -/

theorem witness_InhibitStopsItsGroups :
    working.hears (frameOf (headOf 0 3) kindInhibit [1#8, 1#8]) ∧
      working.ofProfile (frameOf (headOf 0 3) kindInhibit [1#8, 1#8]) ∧ working.inhibitInv ∧
      working.inhibited 0 = false ∧
      (after (.inhibitAccepted (headOf 0 3) #v[1#8, 1#8]) working).inhibited 0 = true ∧ working.exempt 0 = false ∧
      working.channelState 0 = .switchedOn (normal (some 64)) ∧ working.entryOf 0 = none :=
  ⟨State.hears_of (by decide +kernel), by unfold State.ofProfile; decide +kernel, working_inhibitInv,
    by decide +kernel⟩

/-- The working station with every channel in group 0, each in another row of R97, its claim in flight or not. -/
def grouped (inFlight : Bool) : State :=
  { working with
    settings := { site with channels := site.channels.map fun c => { c with group := some 0 } }
    channels := #v[{ state := .switchedOn (normal (some 64)), rest := 0 },
      { state := .switchedOn (normal none), rest := 0 }, { state := .claiming, rest := 0 },
      { state := .stopping, rest := 5 }, { state := .pending (normal none), rest := 0 }, { state := .off, rest := 0 },
      { state := .switchedOn (normal (some 0)), rest := 3 }, { state := .off, rest := 0 }]
    claims := { queue := [{ channel := 5, cls := .low, allowance := none, hold := false, number := 0 }]
                outstanding := some { claim with inFlight := inFlight }, enqueueCount := 2 } }

theorem witness_InhibitTakesEachRow :
    ∀ flying, ((grouped flying).hears (frameOf (headOf 0 3) kindInhibit [1#8, 0#8]) ∧
        (grouped flying).ofProfile (frameOf (headOf 0 3) kindInhibit [1#8, 0#8]) ∧ (grouped flying).inhibitInv ∧
        (grouped flying).queueInv) ∧
      ∀ n, (grouped flying).inhibited n = false ∧
        (after (.inhibitAccepted (headOf 0 3) #v[1#8, 0#8]) (grouped flying)).inhibited n = true := by
  have h : ∀ flying, ((grouped flying).hears (frameOf (headOf 0 3) kindInhibit [1#8, 0#8]) ∧
      (grouped flying).ofProfile (frameOf (headOf 0 3) kindInhibit [1#8, 0#8]) ∧ (grouped flying).inhibitInv) ∧
      ∀ n, (grouped flying).inhibited n = false ∧
        (after (.inhibitAccepted (headOf 0 3) #v[1#8, 0#8]) (grouped flying)).inhibited n = true := by
    unfold State.hears State.ofProfile State.inhibitInv State.restsInLoading State.startsInLoading; decide +kernel
  intro flying
  refine ⟨⟨(h flying).1.1, (h flying).1.2.1, (h flying).1.2.2, ?_⟩, (h flying).2⟩
  cases flying <;> exact queueInv_of rfl (by decide +kernel)

/-- A station at its eighth veto with a channel in each row of R74, and one whose claim's own attempt with a stop note
is its sixteenth failure. -/
theorem witness_MuteTakesEachRow :
    ({ grouped false with line := { working.line with vetoStreak := 7 } }.queueInv ∧
        (grouped false).exempt 0 = false ∧ (grouped false).channelState 0 = .switchedOn (normal (some 64)) ∧
        (grouped false).channelState 4 = .pending (normal none) ∧ (grouped false).channelState 3 = .stopping ∧
        ((grouped false).entryOf 5).isSome = true ∧ (grouped false).claims.outstanding = some claim) ∧
      { sendingClaimAs { claim with inFlight := true, stopNote := true } with
        line := { sendingClaim.line with sendStreak := 15 } }.queueInv ∧
      sendingClaim.line.activity = .transmitting .claim (waiting.sampledFrame .claim) ∧
      (waiting.sampledFrame .claim).abortsAt 12 = true :=
  ⟨⟨queueInv_of rfl (by decide +kernel), by decide +kernel⟩, queueInv_of rfl (by decide +kernel), by decide +kernel⟩

/-- The station sends its own INHIBIT of group 0, and its own DEMAND that stops its channel 0. -/
def sendingDemand : State :=
  { sending .command with
    line := { (sending .command).line with
      activity := .transmitting .command (frameOf (headOf 2 1) kindDemand [1#8, 0#8, 2#8, 0#8, 0#8]) } }

theorem witness_OwnCommandsApply :
    ((sending .command).flightSound ∧ (sending .command).takesPart (frameOf (headOf 0 1) kindInhibit [1#8, 0#8]) ∧
        (sending .command).ofProfile (frameOf (headOf 0 1) kindInhibit [1#8, 0#8]) ∧ (sending .command).inhibitInv ∧
        (after (.inhibitAccepted (headOf 0 1) #v[1#8, 0#8]) (sending .command)).inhibited 0 = true) ∧
      (sendingDemand.flightSound ∧
        sendingDemand.takesPart (frameOf (headOf 2 1) kindDemand [1#8, 0#8, 2#8, 0#8, 0#8]) ∧
        sendingDemand.ofProfile (frameOf (headOf 2 1) kindDemand [1#8, 0#8, 2#8, 0#8, 0#8])) ∧
      (sending .renew).flightSound ∧ (sending .renew).takesPart (frameOf (headOf 1 1) kindRenew [16#8, 2#8]) ∧
      working.flightSound := by
  refine ⟨⟨flightSound_of (o := .command) (f := frameOf (headOf 0 1) kindInhibit [1#8, 0#8]) (by decide +kernel)
      (by decide +kernel) (.inl (by decide)), .inr ⟨by decide +kernel, by decide +kernel, .command, by decide +kernel⟩,
      by unfold State.ofProfile; decide +kernel, ?_, by decide +kernel⟩,
    ⟨flightSound_of (o := .command) rfl (by decide +kernel) (.inr (by decide)),
      .inr ⟨by decide +kernel, by decide +kernel, .command, by decide +kernel⟩,
      by unfold State.ofProfile; decide +kernel⟩,
    flightSound_of (o := .renew) (f := frameOf (headOf 1 1) kindRenew [16#8, 2#8]) (by decide +kernel)
      (by decide +kernel) (by unfold Offer.sends; decide),
    .inr ⟨by decide +kernel, by decide +kernel, .renew, by decide +kernel⟩, flightSound_receiving rfl⟩
  unfold State.inhibitInv State.restsInLoading State.startsInLoading; decide +kernel

/-- A TIMESET that leaves the minute, and one that leads into the next: what its SOF record holds decides. -/
theorem witness_LaterTimesets :
    (∀ sof ∈ [48883161599, 48883161598],
      (timedAt sof).hears (frameOf (headOf 1 60) kindTimeset [24#8, 3#8, 15#8, 6#8, 29#8, 59#8, 63#8]) ∧
        (timedAt sof).ofProfile (frameOf (headOf 1 60) kindTimeset [24#8, 3#8, 15#8, 6#8, 29#8, 59#8, 63#8]) ∧
        (timedAt sof).timeInv ∧ (timedAt sof).calendar.valid = true) ∧
      (calendarOfBytes 24#8 3#8 15#8 6#8 29#8 59#8 63#8).inRange = true ∧
      minuteNumber (after (.timesetAccepted (headOf 1 60) #v[24#8, 3#8, 15#8, 6#8, 29#8, 59#8, 63#8])
        (timedAt 48883161599)).calendar.value = 12729989 ∧
      minuteNumber (after (.timesetAccepted (headOf 1 60) #v[24#8, 3#8, 15#8, 6#8, 29#8, 59#8, 63#8])
        (timedAt 48883161598)).calendar.value = 12729990 := by
  refine ⟨fun sof hs => ⟨State.hears_of (by revert sof; decide +kernel),
    by revert sof; unfold State.ofProfile; decide +kernel, timedAt_timeInv sof (by revert sof; decide),
    by revert sof; decide +kernel⟩, by decide +kernel⟩

theorem witness_TimesetMovesTheCalendar :
    (working.hears (frameOf (headOf 1 60) kindTimeset [24#8, 3#8, 15#8, 6#8, 32#8, 10#8, 0#8]) ∧
        working.ofProfile (frameOf (headOf 1 60) kindTimeset [24#8, 3#8, 15#8, 6#8, 32#8, 10#8, 0#8]) ∧
        (calendarOfBytes 24#8 3#8 15#8 6#8 32#8 10#8 0#8).inRange = true ∧ working.calendar.valid = false) ∧
      working.hears (frameOf (headOf 1 60) kindTimeset [23#8, 2#8, 29#8, 0#8, 0#8, 0#8, 0#8]) ∧
      (calendarOfBytes 23#8 2#8 29#8 0#8 0#8 0#8 0#8).inRange = false ∧ working.timeInv :=
  ⟨by unfold State.hears State.ofProfile; decide +kernel, State.hears_of (by decide +kernel), by decide +kernel,
    working_timeInv⟩

/-- The working station with exempt channel 1 ON. -/
def exemptOn : State :=
  { working with channels := working.channels.set 1 { state := .switchedOn (normal (some 1)), rest := 0 } }

/-- The working station whose next append takes the enqueue count past 65,535. -/
def numbered : State := { working with claims := { working.claims with enqueueCount := 65535 } }

theorem witness_AppendRenumbers :
    numbered.queueInv ∧ numbered.claims.enqueueCount = 65535 ∧ numbered.channelState 5 = .off ∧
      numbered.entryOf 5 = none ∧ numbered.claims.numbers = [0, 1] :=
  ⟨queueInv_of rfl (by decide +kernel), by decide +kernel⟩

/-- R34: the entry of number 0 and the outstanding claim keep their places, and the new entry comes after them. -/
theorem test_renumbering :
    ((numbered.claims.append 5 (normal none)).queue.map Entry.number,
        (numbered.claims.append 5 (normal none)).enqueueCount) = ([2, 0], 3) := by decide +kernel

theorem witness_DemandStartsAndStops :
    (working.hears (frameOf (headOf 2 3) kindDemand [1#8, 0#8, 2#8, 0#8, 0#8]) ∧
        working.ofProfile (frameOf (headOf 2 3) kindDemand [1#8, 0#8, 2#8, 0#8, 0#8]) ∧ working.exempt 0 = false ∧
        working.channelState 0 = .switchedOn (normal (some 64)) ∧ (site.channels[0]).rest ≠ 0) ∧
      ((joining 0 false).hears (frameOf (headOf 2 3) kindDemand [1#8, 5#8, 1#8, 0#8, 0#8]) ∧
        (joining 0 false).channelState 5 = .off ∧ (joining 0 false).entryOf 5 = none ∧
        (joining 0 false).claims.enqueueCount < 65535) ∧
      (working.hears (frameOf (headOf 2 3) kindDemand [62#8, 0#8, 1#8, 0#8, 0#8]) ∧
        working.hears (frameOf (headOf 2 3) kindDemand [1#8, 8#8, 1#8, 0#8, 0#8]) ∧
        working.hears (frameOf (headOf 2 3) kindDemand [1#8, 7#8, 0#8, 0#8, 0#8]) ∧
        working.hears (frameOf (headOf 2 3) kindDemand [1#8, 7#8, 4#8, 0#8, 0#8]) ∧
        working.hears (frameOf (headOf 2 3) kindDemand [63#8, 0#8, 3#8, 0#8, 0#8])) ∧
      (working.queueInv ∧ working.claims.enqueueCount < 65535 ∧ working.channelState 5 = .off ∧
        working.entryOf 5 = none ∧ working.channelState 3 = .stopping ∧ (working.entryOf 4).isSome = true ∧
        working.claims.outstanding = some claim ∧ claim.inFlight = false) ∧
      (sendingClaim.queueInv ∧ sendingClaim.claims.outstanding = some { claim with inFlight := true }) ∧
      (promotable.queueInv ∧ promotable.channelState 4 = .pending (normal none)) ∧
      exemptOn.queueInv ∧ exemptOn.channelState 1 = .switchedOn (normal (some 1)) ∧ exemptOn.exempt 1 = true := by
  refine ⟨by unfold State.hears State.ofProfile; decide +kernel, by unfold State.hears; decide +kernel,
    by unfold State.hears; decide +kernel, ⟨working_queueInv, by decide +kernel⟩,
    ⟨queueInv_of rfl (by decide +kernel), by decide +kernel⟩, ⟨queueInv_of rfl (by decide +kernel), by decide +kernel⟩,
    queueInv_of rfl (by decide +kernel), by decide +kernel⟩

theorem witness_QueryIsAnswered :
    working.hears (frameOf (headOf 3 60) kindQuery [1#8, 3#8]) ∧
      working.ofProfile (frameOf (headOf 3 60) kindQuery [1#8, 3#8]) ∧ (1#8).toNat = working.ownId ∧
      working.hears (frameOf (headOf 3 60) kindQuery [2#8, 3#8]) ∧ (2#8).toNat ≠ working.ownId := by
  unfold State.hears State.ofProfile; decide +kernel

/-! ### Timers, inputs, calendar, STATUS -/

/-- The working station with no claim outstanding and this claim queue. -/
def queued (entries : List Entry) : State :=
  { working with
    channels := working.channels.set 2 { state := .off, rest := 0 }
    claims := { queue := entries, outstanding := none, enqueueCount := 3 } }

/-- An entry of class LOW for this channel. -/
def low (channel : ChannelIx) (hold : Bool) (number : Nat) : Entry :=
  { channel := channel, cls := .low, allowance := none, hold := hold, number := number }

/-- The first entry in queue order that meets R41 fits; does not fit; or is displacement-eligible; or there is none. -/
theorem witness_RunAndRestTimersExpire :
    (working.queueInv ∧ working.member.state.working = true ∧
        working.channelState 0 = .switchedOn (normal (some 64)) ∧ working.exempt 0 = false) ∧
      (exemptOn.queueInv ∧ exemptOn.channelState 1 = .switchedOn (normal (some 1)) ∧ exemptOn.exempt 1 = true) ∧
      (working.channel 3).rest ≠ 0 ∧
      ((queued [low 1 false 0, low 2 true 1, low 4 false 2]).queueInv ∧
        ¬ (queued [low 1 false 0, low 2 true 1, low 4 false 2]).meetsR41 (low 1 false 0) ∧
        ¬ (queued [low 1 false 0, low 2 true 1, low 4 false 2]).meetsR41 (low 2 true 1) ∧
        (queued [low 1 false 0, low 2 true 1, low 4 false 2]).meetsR41 (low 4 false 2) ∧
        (queued [low 1 false 0, low 2 true 1, low 4 false 2]).meetsR43 (low 4 false 2) ∧
        (queued [low 1 false 0, low 2 true 1, low 4 false 2]).meetsR42 (low 1 false 0) ∧
        (queued []).weight 1 = 0) ∧
      ({ queued [low 4 false 2] with table := noRoom.table }.queueInv ∧
        { queued [low 4 false 2] with table := noRoom.table }.meetsR41 (low 4 false 2) ∧
        ¬ { queued [low 4 false 2] with table := noRoom.table }.meetsR43 (low 4 false 2) ∧
        { queued [low 4 false 2] with table := noRoom.table }.meetsR43 { low 4 false 2 with cls := .urgent }) ∧
      ((queued [low 3 false 0]).queueInv ∧ ¬ (queued [low 3 false 0]).meetsR41 (low 3 false 0)) ∧
      { queued [low 1 false 0] with
        channels := (queued []).channels.set 1 { state := .off, rest := 1 } }.queueInv ∧
      ¬ { queued [low 1 false 0] with
        channels := (queued []).channels.set 1 { state := .off, rest := 1 } }.meetsR42 (low 1 false 0) := by
  refine ⟨⟨working_queueInv, by decide +kernel⟩, ⟨queueInv_of rfl (by decide +kernel), by decide +kernel⟩,
    by decide +kernel, ⟨queueInv_none rfl (by decide +kernel), ?_⟩, ⟨queueInv_none rfl (by decide +kernel), ?_⟩,
    ⟨queueInv_none rfl (by decide +kernel), ?_⟩, queueInv_none rfl (by decide +kernel), ?_⟩
  · unfold State.meetsR41 State.meetsR43 State.meetsR42 State.fitsR43 State.displacesR43; decide +kernel
  · unfold State.meetsR41 State.meetsR43 State.meetsR42 State.fitsR43 State.displacesR43; decide +kernel
  · unfold State.meetsR41 State.meetsR42; decide +kernel
  · unfold State.meetsR42; decide +kernel

/-- Quiet inputs, with the ON channels at allowances none, two ticks and one tick, and a rest at its last tick. -/
def ticking : State :=
  { working with
    channels := ((working.channels.set 0 { state := .switchedOn (normal (some 1)), rest := 0 }).set 1
      { state := .switchedOn (normal (some 2)), rest := 3 }).set 6 { state := .switchedOn (normal none), rest := 1 } }

theorem witness_TicksCountRunAndRest :
    ticking.queueInv ∧ ticking.member.state.working = true ∧ loading.member.state = .loading ∧
      (∀ (n : InputIx) (level : Bool), ticking.inputs[n].taken = some level → ticking.pins[n] = level) ∧
      ticking.exempt 0 = false ∧ ticking.channelState 1 = .switchedOn (normal (some (0 + 2))) ∧
      (ticking.channel 6).rest = 1 :=
  ⟨queueInv_of rfl (by decide +kernel), by decide +kernel⟩

/-- R89, R90, R92: one tick runs channel 0 out, takes channel 1 one down and ends channel 6's rest. -/
theorem test_tick_counts :
    (ticking.tick.channel 0, ticking.tick.channel 1, ticking.tick.channel 6) =
      ({ state := .stopping, rest := 64 }, { state := .switchedOn (normal (some 1)), rest := 2 },
        { state := .switchedOn (normal none), rest := 0 }) := by decide +kernel

/-- The working station whose input 0 has stood high for some reads. -/
def bouncing (left : Nat) : State :=
  { working with
    pins := working.pins.set 0 true
    inputs := working.inputs.set 0 { taken := some false, debounce := left } }

theorem witness_InputsAreDebounced :
    (working.member.state.working = true ∧ (working.inputSettings 0).debounce? = some 2 ∧
        working.inputs[0].taken = some false ∧ (working.inputSettings 1).debounce? = some 0 ∧
        working.inputs[1].taken = some false ∧ working.tickDivider = 0 ∧ working.ticked = false ∧
        working.inputs[0].debounce = 0) ∧
      ((bouncing 1).inputs[0].debounce ≠ 0 ∧ (bouncing 1).inputs[0].taken = some false ∧
        (bouncing 1).pins[0] ≠ false) ∧
      (bouncing 2).inputs[0].debounce ≠ 0 ∧
      { working with ticked := true }.ticked = true ∧ { working with tickDivider := 511 }.tickDivider ≠ 0 ∧
      { working with tickDivider := 510 }.tickDivider < 511 ∧
      EdgeSelect.rising.selectsChange true ∧ ¬ EdgeSelect.rising.selectsChange false ∧
      working.inputSettings 0 = .edge .rising 2 (.act .toggle 1 .normal 0) ∧
      working.inputSettings 1 = .levelInhibit true 0 4#8 := by
  unfold EdgeSelect.selectsChange; decide +kernel

theorem witness_CommandsQueueOrDrop :
    working.member.state.online = true ∧
      (List.replicate 3 (Command.inhibit 1#8 0#8)).length < 4 ∧ listening.commands.queue = [] ∧
      4 ≤ ({ queue := List.replicate 4 (Command.inhibit 1#8 0#8), headAttempts := 0 } : CommandQueue).queue.length ∧
      muted.member.state = .mute := by decide +kernel

theorem witness_FractionStepCounts :
    (working.timeInv ∧ working.phase = .running ∧ working.calendar.valid = false) ∧
      beforeHalfPast.timeInv ∧ beforeHalfPast.phase = .running ∧ beforeHalfPast.member.state ≠ .halted ∧
      beforeHalfPast.calendar.valid = true ∧ beforeHalfPast.member.state.working = true ∧
      beforeHalfPast.lastMinute = some 12729989 ∧ forwardDistance 12729989 12729990 = 1 ∧
      minuteNumber (after .fractionStep beforeHalfPast).calendar.value = 12729990 ∧
      minuteNumber beforeHalfPast.calendar.value ≠ 12729990 ∧ beforeHalfPast.calendar.phase = 511 ∧
      working.calendar.phase = 0 ∧ State.reset.phase ≠ .running :=
  ⟨⟨working_timeInv, by decide +kernel⟩, beforeHalfPast_timeInv, by decide +kernel⟩

theorem witness_MinuteEventsCatchUpOrSkip :
    { working with lastMinute := some 52595999 }.lastMinute = some 52595999 ∧
      (((0 : Nat) : Int) - 52595999) % 52596000 = 1 ∧ (((1 : Nat) : Int) - 52595999) % 52596000 = 2 ∧
      (((2 : Nat) : Int) - 52595999) % 52596000 = 3 ∧ (((3 : Nat) : Int) - 52595999) % 52596000 = 4 ∧
      (((26297998 : Nat) : Int) - 52595999) % 52596000 = 26297999 ∧
      (((26297999 : Nat) : Int) - 52595999) % 52596000 = 26298000 ∧
      (((52595999 : Nat) : Int) - 52595999) % 52596000 = 0 ∧ working.inhibitInv ∧
      (working.runAction (.inhibitOn 1#8)).inhibited 0 = true := by
  refine ⟨by decide +kernel, by decide +kernel, by decide +kernel, by decide +kernel, by decide +kernel,
    by decide +kernel, by decide +kernel, by decide +kernel, working_inhibitInv, by decide +kernel⟩

/-- The working station halted by a frame with its ID, in the last tick of the blink code's cycle. -/
def halted : State :=
  { after ownClaim working with report := { (after ownClaim working).report with blink := 191 } }

theorem witness_StatusFollowsTheState :
    halted.phase = .running ∧ halted.member.state = .halted ∧ halted.report.faults.haltCode = 4 ∧
      halted.report.blink < blinkCycle halted.report.faults.haltCode ∧ halted.report.blink + 1 = 192 := by
  decide +kernel

theorem witness_OutputsFollowTheState :
    working.runInv ∧ working.outputActive 0 = true ∧ working.exempt 0 = false ∧ working.outputActive 3 = false ∧
      working.imageTaken = true :=
  ⟨working_runInv, by decide +kernel⟩

end Sys2Proof.Tests
end

section
/-! PROOFS. The victim order of a displacement (R14): which records it lists, in which order, and their units. -/

namespace Sys2Proof.Machine

/-! ## One class of candidates -/

theorem mem_candidatesOf (cls : Class) (r : Holding) (t : List Holding) :
    r ∈ candidatesOf cls t ↔ r ∈ t ∧ r.state = .held ∧ r.cls = cls := by
  simp [candidatesOf]

/-- The candidates of one class stand in descending table order. -/
theorem candidatesOf_pairwise (cls : Class) {t : List Holding} (h : tableOrdered t) :
    (candidatesOf cls t).Pairwise fun a b => b.before a = true :=
  (List.pairwise_reverse.2 h).filter _

/-! ## The victim order -/

theorem mem_victimOrder (r : Holding) (t : List Holding) :
    r ∈ victimOrder t ↔ r ∈ t ∧ r.state = .held ∧ (r.cls = .high ∨ r.cls = .normal ∨ r.cls = .low) := by
  simp only [victimOrder, List.mem_append, mem_candidatesOf]
  tauto

theorem Holding.displaceable_iff (r : Holding) :
    r.displaceable = true ↔ r.state = .held ∧ (r.cls = .high ∨ r.cls = .normal ∨ r.cls = .low) := by
  cases hc : r.cls <;> simp [Holding.displaceable, hc]

/-- Record a is a victim ahead of record b: it is of a lower class, or of the same class and after b in the table. -/
def Holding.victimBefore (a b : Holding) : Prop :=
  b.cls.number < a.cls.number ∨
    (a.cls = b.cls ∧ (b.holder < a.holder ∨ (a.holder = b.holder ∧ b.channel < a.channel)))

theorem Holding.victimBefore_of_before {a b : Holding} (hc : a.cls = b.cls) (h : b.before a = true) :
    a.victimBefore b := by
  rw [Holding.before_iff, eq_comm (a := b.holder)] at h
  exact .inr ⟨hc, h⟩

theorem Holding.not_victimBefore_self (r : Holding) : ¬ r.victimBefore r := by
  simp [Holding.victimBefore]

/-- Within one class the victims go down the table. -/
theorem candidatesOf_victimBefore (cls : Class) {t : List Holding} (h : tableOrdered t) :
    (candidatesOf cls t).Pairwise Holding.victimBefore := by
  refine (candidatesOf_pairwise cls h).imp_of_mem fun {a b} ha hb hba => ?_
  obtain ⟨-, -, hac⟩ := (mem_candidatesOf _ _ _).1 ha
  obtain ⟨-, -, hbc⟩ := (mem_candidatesOf _ _ _).1 hb
  exact Holding.victimBefore_of_before (hac.trans hbc.symm) hba

/-- Every candidate of a lower class goes ahead of every candidate of a higher one. -/
theorem victimBefore_of_mem_candidatesOf {c d : Class} (hcd : d.number < c.number) {t : List Holding} {a b : Holding}
    (ha : a ∈ candidatesOf c t) (hb : b ∈ candidatesOf d t) : a.victimBefore b := by
  obtain ⟨-, -, rfl⟩ := (mem_candidatesOf _ _ _).1 ha
  obtain ⟨-, -, rfl⟩ := (mem_candidatesOf _ _ _).1 hb
  exact .inl hcd

theorem victimOrder_pairwise {t : List Holding} (h : tableOrdered t) :
    (victimOrder t).Pairwise Holding.victimBefore := by
  have lowNormal : (candidatesOf .low t ++ candidatesOf .normal t).Pairwise Holding.victimBefore :=
    List.pairwise_append.2 ⟨candidatesOf_victimBefore .low h, candidatesOf_victimBefore .normal h,
      fun _ ha _ hb => victimBefore_of_mem_candidatesOf (by decide) ha hb⟩
  refine List.pairwise_append.2 ⟨lowNormal, candidatesOf_victimBefore .high h, fun a ha b hb => ?_⟩
  obtain ha | ha := List.mem_append.1 ha
  · exact victimBefore_of_mem_candidatesOf (by decide) ha hb
  · exact victimBefore_of_mem_candidatesOf (by decide) ha hb

/-! ## The units of the victims -/

theorem tableOrdered.nodup {t : List Holding} (h : tableOrdered t) : t.Nodup := by
  refine List.Pairwise.imp (fun {a b} hab => ?_) h
  rintro rfl
  simp [Holding.before_iff] at hab

theorem victimOrder_nodup {t : List Holding} (h : tableOrdered t) : (victimOrder t).Nodup := by
  refine (victimOrder_pairwise h).imp fun {a b} hab => ?_
  rintro rfl
  exact a.not_victimBefore_self hab

/-- The victim order lists each displaceable record once: neither list repeats a record, and both hold the same. -/
theorem victimOrder_perm {t : List Holding} (h : tableOrdered t) :
    (victimOrder t).Perm (t.filter Holding.displaceable) := by
  refine (List.perm_ext_iff_of_nodup (victimOrder_nodup h) (h.nodup.filter _)).2 fun r => ?_
  rw [mem_victimOrder, List.mem_filter, Holding.displaceable_iff]

theorem sum_units_victimOrder {t : List Holding} (h : tableOrdered t) :
    ((victimOrder t).map Holding.units).sum = displaceableUnits t :=
  ((victimOrder_perm h).map Holding.units).sum_eq

/-- Settles O39: the victim order is three runs of candidates, each in descending table order, and a rearrangement of
the displaceable records. -/
theorem victimOrderIsR14 : Obligations.VictimOrderIsR14 := fun t h =>
  ⟨fun r => mem_victimOrder r t, victimOrder_pairwise h, sum_units_victimOrder h⟩

end Sys2Proof.Machine
end

section
/-! PROOFS. The range check of R194: when each reader of the image answers, from the fields of a record up to the whole
image. -/

namespace Sys2Proof.Machine

/-! ## Fields -/

theorem word16_toNat (high low : Byte) : (word16 high low).toNat = 256 * high.toNat + low.toNat := by
  rw [word16, BitVec.toNat_append, ← Nat.shiftLeft_add_eq_or_of_lt low.isLt, Nat.shiftLeft_eq, Nat.mul_comm]

theorem placeOf?_isSome_iff (b : Byte) : (placeOf? b).isSome = true ↔ b.toNat ≤ 7 := by
  unfold placeOf?
  split <;> simp <;> omega

theorem Class.ofByte?_isSome_iff (b : Byte) : (Class.ofByte? b).isSome = true ↔ b.toNat ≤ 3 := by
  have hle : b.toNat ≤ 3 ↔ b = 0 ∨ b = 1 ∨ b = 2 ∨ b = 3 := by
    simp only [← BitVec.toNat_inj, BitVec.ofNat_eq_ofNat, BitVec.toNat_ofNat]
    omega
  unfold Class.ofByte?
  split_ifs <;> simp_all

@[simp] theorem inSet_isSome {α : Type} (ok : Bool) (a : α) : (inSet ok a).isSome = ok := by
  cases ok <;> rfl

/-! ## Parts: eight or thirty-two records in a row -/

theorem readRecords_succ {α : Type} (read : Nat → Option α) (k n : Nat) :
    readRecords read k (n + 1) = (read k).bind fun a => (readRecords read (k + 1) n).map (a :: ·) := by
  rw [readRecords]
  cases read k <;> cases readRecords read (k + 1) n <;> rfl

theorem readRecords_isSome_iff {α : Type} (read : Nat → Option α) (k n : Nat) :
    (readRecords read k n).isSome = true ↔ ∀ i, i < n → (read (k + i)).isSome = true := by
  induction n generalizing k with
  | zero => simp [readRecords]
  | succ n ih =>
    have hrest : (readRecords read (k + 1) n).isSome = true ↔ ∀ i, i < n → (read (k + (i + 1))).isSome = true := by
      rw [ih]
      simp only [Nat.add_assoc, Nat.add_comm 1]
    rw [readRecords_succ, Nat.forall_lt_succ_left, ← hrest, Nat.add_zero]
    cases read k <;> simp

theorem length_of_readRecords {α : Type} {read : Nat → Option α} {k n : Nat} {as : List α}
    (h : readRecords read k n = some as) : as.length = n := by
  induction n generalizing k as with
  | zero => cases h; rfl
  | succ n ih =>
    rw [readRecords_succ] at h
    obtain ⟨a, -, hmap⟩ := Option.bind_eq_some_iff.1 h
    obtain ⟨rest, hrest, rfl⟩ := Option.map_eq_some_iff.1 hmap
    rw [List.length_cons, ih hrest]

theorem eightOf_isSome_iff {α : Type} (as : List α) : (eightOf as).isSome = true ↔ as.length = 8 := by
  unfold eightOf
  split <;> simp [*]

/-- Eight records that can be read are eight in number, so they make a vector. -/
theorem readEight_isSome_iff {α : Type} (read : Nat → Option α) :
    ((readRecords read 0 8).bind eightOf).isSome = true ↔ ∀ k, k < 8 → (read k).isSome = true := by
  have hrecords := readRecords_isSome_iff read 0 8
  simp only [Nat.zero_add] at hrecords
  rw [← hrecords]
  cases h : readRecords read 0 8 with
  | none => simp
  | some as => simp [eightOf_isSome_iff, length_of_readRecords h]

/-! ## Channel and input records (R162, R163) -/

theorem readChannel_isSome_iff (image : List Byte) (k : Nat) :
    (readChannel image (imageByte image 7).toNat k).isSome = true ↔ channelRange image k := by
  have hnone : (imageByte image (10 + 7 * k + 1)).toNat = 255 ↔ imageByte image (10 + 7 * k + 1) = 0xFF#8 :=
    BitVec.toNat_inj (y := 0xFF#8)
  unfold readChannel channelRange
  rw [show 11 + 7 * k = 10 + 7 * k + 1 by omega, hnone]
  simp [Nat.lt_succ_iff]

/-- What R194 asks of an EDGE input's action code, target station, target and class. -/
def edgeActionRange (code station place cls : Nat) : Prop :=
  1 ≤ code ∧ code ≤ 8 ∧ (4 ≤ code ∧ code ≤ 6 → 1 ≤ station ∧ station ≤ 63) ∧ (code ≤ 6 → place ≤ 7) ∧
    (code ≤ 6 ∧ code ≠ 2 → cls ≤ 3)

theorem readEdgeAction_isSome_iff (action station place cls : Byte) (duration : Nat) :
    (readEdgeAction action station place cls duration).isSome = true ↔
      edgeActionRange action.toNat station.toNat place.toNat cls.toNat := by
  unfold readEdgeAction edgeActionRange
  rw [← placeOf?_isSome_iff, ← Class.ofByte?_isSome_iff]
  dsimp only
  generalize action.toNat = code
  split_ifs with stop start send sendStop set clear
  · cases placeOf? place <;> simp <;> omega
  · cases placeOf? place <;> cases Class.ofByte? cls <;> simp <;> omega
  · cases placeOf? place <;> cases Class.ofByte? cls <;> simp <;> omega
  · cases placeOf? place <;> cases Class.ofByte? cls <;> simp <;> omega
  all_goals simp; omega

/-- The condition of an input record, its action's fields taken together. -/
theorem inputRange_iff (image : List Byte) (k : Nat) :
    inputRange image k ↔
      (imageByte image (66 + 8 * k)).toNat % 4 ≤ 2 ∧
        ((imageByte image (66 + 8 * k)).toNat % 4 = 1 → (imageByte image (66 + 8 * k)).toNat / 4 % 4 ≤ 2 ∧
          edgeActionRange (imageByte image (66 + 8 * k + 2)).toNat (imageByte image (66 + 8 * k + 3)).toNat
            (imageByte image (66 + 8 * k + 4)).toNat (imageByte image (66 + 8 * k + 5)).toNat) := by
  have haddr : ∀ j, 66 + 8 * k + j = 66 + j + 8 * k := fun j => Nat.add_right_comm _ _ _
  rw [haddr 2, haddr 3, haddr 4, haddr 5]
  rfl

theorem readInputRecord_isSome_iff (image : List Byte) (k : Nat) :
    (readInputRecord image k).isSome = true ↔ inputRange image k := by
  rw [inputRange_iff, ← readEdgeAction_isSome_iff _ _ _ _ (imageWord image (66 + 8 * k + 6))]
  unfold readInputRecord
  simp only [← BitVec.toNat_inj, BitVec.extractLsb'_toNat, BitVec.ofNat_eq_ofNat, BitVec.toNat_ofNat,
    Nat.shiftRight_eq_div_pow, Nat.reducePow, Nat.reduceMod, Nat.div_one]
  generalize readEdgeAction _ _ _ _ _ = action
  split_ifs with unused edge rising falling both levelInhibit
  · simp; omega
  · cases action <;> simp <;> omega
  · cases action <;> simp <;> omega
  · cases action <;> simp <;> omega
  · cases action <;> simp <;> omega
  all_goals simp; omega

/-! ## Schedule records (R164) -/

theorem readOrAny_isSome_iff (last : Nat) (b : Byte) :
    (readOrAny (last + 1) b).isSome = true ↔ b.toNat ≤ last ∨ b.toNat = 255 := by
  have hany : b.toNat = 255 ↔ b = 255#8 := BitVec.toNat_inj (y := 255#8)
  unfold readOrAny
  rw [hany]
  split <;> simp [*]

theorem readDay_isSome_iff (mode value : Byte) :
    (readDay mode value).isSome = true ↔
      mode.toNat ≤ 2 ∧ (mode.toNat = 1 → value.toNat % 128 ≠ 0) ∧
        (mode.toNat = 2 → 1 ≤ value.toNat ∧ value.toNat ≤ 31) := by
  have hset : (value &&& 0x7F#8).toNat = value.toNat % 128 := by
    rw [BitVec.toNat_and]
    exact Nat.and_two_pow_sub_one_eq_mod value.toNat 7
  unfold readDay
  simp only [bne, beq_eq_decide, ← BitVec.toNat_inj, hset, BitVec.ofNat_eq_ofNat, BitVec.toNat_ofNat]
  split_ifs with any weekdays date
  all_goals simp; omega

theorem readScheduleAction_isSome_iff (action target cls : Byte) (duration : Nat) :
    (readScheduleAction action target cls duration).isSome = true ↔
      1 ≤ action.toNat ∧ action.toNat ≤ 4 ∧ (action.toNat ≤ 2 → target.toNat ≤ 7) ∧
        (action.toNat = 1 → cls.toNat ≤ 3) := by
  unfold readScheduleAction
  rw [← placeOf?_isSome_iff, ← Class.ofByte?_isSome_iff]
  simp only [← BitVec.toNat_inj, BitVec.ofNat_eq_ofNat, BitVec.toNat_ofNat]
  split_ifs with start stop on off
  · cases placeOf? target <;> cases Class.ofByte? cls <;> simp <;> omega
  · cases placeOf? target <;> simp <;> omega
  all_goals simp; omega

/-- What R194 asks of the minute selection of a schedule record of kind 1 or 2 at an address. -/
def selectRange (image : List Byte) (base : Nat) : Prop :=
  let kind := (imageByte image base).toNat
  let minute := (imageByte image (base + 1)).toNat
  let hour := (imageByte image (base + 2)).toNat
  let mode := (imageByte image (base + 3)).toNat
  let value := (imageByte image (base + 4)).toNat
  (kind = 1 ∨ kind = 2) ∧
    (kind = 1 →
      (minute ≤ 59 ∨ minute = 255) ∧ (hour ≤ 23 ∨ hour = 255) ∧ mode ≤ 2 ∧ (mode = 1 → value % 128 ≠ 0) ∧
        (mode = 2 → 1 ≤ value ∧ value ≤ 31)) ∧
    (kind = 2 →
      1 ≤ imageWord image (base + 1) ∧ imageWord image (base + 1) ≤ 1440 ∧
        imageWord image (base + 3) < imageWord image (base + 1))

theorem readSelect_isSome_iff (image : List Byte) (base : Nat) :
    (readSelect image base).isSome = true ↔ selectRange image base := by
  unfold readSelect selectRange
  dsimp only
  rw [← readDay_isSome_iff, ← readOrAny_isSome_iff 59, ← readOrAny_isSome_iff 23]
  simp only [← BitVec.toNat_inj, BitVec.ofNat_eq_ofNat, BitVec.toNat_ofNat]
  split_ifs with calendar cyclic
  · rw [calendar]
    cases readOrAny 60 (imageByte image (base + 1)) <;> cases readOrAny 24 (imageByte image (base + 2)) <;>
      cases readDay (imageByte image (base + 3)) (imageByte image (base + 4)) <;> simp
  · simp [cyclic]
  · simp; omega

/-- A schedule record's condition: a NONE entry has none, and any other answers for its selection, its months and its
action. -/
theorem scheduleRange_iff (image : List Byte) (k : Nat) :
    scheduleRange image k ↔ imageByte image (130 + 12 * k) = 0 ∨
      selectRange image (130 + 12 * k) ∧ imageWord image (130 + 12 * k + 5) % 4096 ≠ 0 ∧
        (readScheduleAction (imageByte image (130 + 12 * k + 7)) (imageByte image (130 + 12 * k + 8))
          (imageByte image (130 + 12 * k + 9)) (imageWord image (130 + 12 * k + 10))).isSome = true := by
  have hzero : imageByte image (130 + 12 * k) = 0 ↔ (imageByte image (130 + 12 * k)).toNat = 0 :=
    BitVec.toNat_inj.symm
  rw [hzero, readScheduleAction_isSome_iff]
  unfold scheduleRange selectRange
  dsimp only
  by_cases hnone : (imageByte image (130 + 12 * k)).toNat = 0
  · simp [hnone]
  · have hkind : (imageByte image (130 + 12 * k)).toNat ≤ 2 ↔
        (imageByte image (130 + 12 * k)).toNat = 1 ∨ (imageByte image (130 + 12 * k)).toNat = 2 := by omega
    rw [or_iff_right hnone, forall_prop_of_true hnone, hkind, and_assoc, and_assoc]

theorem readScheduleRecord_isSome_iff (image : List Byte) (k : Nat) :
    (readScheduleRecord image k).isSome = true ↔ scheduleRange image k := by
  have hmonths : ∀ w : BitVec 16, (w &&& 0x0FFF#16 != 0) = decide (w.toNat % 4096 ≠ 0) := fun w => by
    have hlow : (w &&& 0x0FFF#16).toNat = w.toNat % 4096 := by
      rw [BitVec.toNat_and]
      exact Nat.and_two_pow_sub_one_eq_mod w.toNat 12
    simp [bne, beq_eq_decide, ← BitVec.toNat_inj, hlow]
  rw [scheduleRange_iff, ← readSelect_isSome_iff]
  unfold readScheduleRecord
  simp only [hmonths]
  split_ifs with hnone
  · simp [hnone]
  · rw [or_iff_right hnone]
    cases readSelect image (130 + 12 * k) <;>
      cases readScheduleAction (imageByte image (130 + 12 * k + 7)) (imageByte image (130 + 12 * k + 8))
        (imageByte image (130 + 12 * k + 9)) (imageWord image (130 + 12 * k + 10)) <;> simp [imageWord]

/-! ## The image -/

/-- The range check passes exactly when every condition of the table of R194 holds. -/
theorem readSettings_isSome_iff (image : List Byte) : (readSettings image).isSome = true ↔ imageRanges image := by
  have hchannels : ((readRecords (readChannel image (imageByte image 7).toNat) 0 8).bind eightOf).isSome = true ↔
      ∀ k, k < 8 → channelRange image k := by
    simp only [readEight_isSome_iff, readChannel_isSome_iff]
  have hinputs : ((readRecords (readInputRecord image) 0 8).bind eightOf).isSome = true ↔
      ∀ k, k < 8 → inputRange image k := by
    simp only [readEight_isSome_iff, readInputRecord_isSome_iff]
  have hschedule : (readRecords (readScheduleRecord image) 0 32).isSome = true ↔
      ∀ k, k < 32 → scheduleRange image k := by
    simp only [readRecords_isSome_iff, readScheduleRecord_isSome_iff, Nat.zero_add]
  unfold imageRanges readSettings
  rw [← hchannels, ← hinputs, ← hschedule]
  dsimp only
  split_ifs with profile
  · have hprofile : profileRange image := profile
    cases (readRecords (readChannel image (imageByte image 7).toNat) 0 8).bind eightOf <;>
      cases (readRecords (readInputRecord image) 0 8).bind eightOf <;>
      cases readRecords (readScheduleRecord image) 0 32 <;> simp [hprofile]
  · have hprofile : ¬ profileRange image := profile
    simp [hprofile]

end Sys2Proof.Machine
end

section
/-! PROOFS. The end of a read (R192, R193): the outcome of the checks is that of the first that fails, and what the
station does at each outcome. -/

namespace Sys2Proof.Machine

/-! ## The checks -/

theorem imageWord_eq (image : List Byte) (i : Nat) :
    imageWord image i = 256 * (imageByte image i).toNat + (imageByte image (i + 1)).toNat :=
  word16_toNat _ _

theorem imageSized_iff (image : List Byte) : imageSized image ↔ imageWord image 3 = Config.imageLength := by
  rw [imageWord_eq]
  rfl

theorem imageChecked_iff (image : List Byte) :
    imageChecked image ↔ imageWord image 514 = (crcBytes (checkedBytes image)).toNat := by
  rw [imageWord_eq]
  rfl

theorem formFailure_unmarked {image : List Byte} (hm : ¬ imageMarked image) :
    formFailure image = some .markFailure := if_pos hm

theorem formFailure_unsized {image : List Byte} (hm : imageMarked image) (hs : ¬ imageSized image) :
    formFailure image = some .lengthFailure := by
  rw [imageSized_iff] at hs
  exact (if_neg (not_not.2 hm)).trans (if_pos hs)

theorem formFailure_unchecked {image : List Byte} (hm : imageMarked image) (hs : imageSized image)
    (hc : ¬ imageChecked image) : formFailure image = some .checkFailure := by
  rw [imageSized_iff] at hs
  rw [imageChecked_iff] at hc
  exact (if_neg (not_not.2 hm)).trans ((if_neg (not_not.2 hs)).trans (if_pos hc))

theorem formFailure_of_checked {image : List Byte} (hm : imageMarked image) (hs : imageSized image)
    (hc : imageChecked image) : formFailure image = none := by
  rw [imageSized_iff] at hs
  rw [imageChecked_iff] at hc
  exact (if_neg (not_not.2 hm)).trans ((if_neg (not_not.2 hs)).trans (if_neg (not_not.2 hc)))

/-- The outcomes of the first three checks, each with what holds of the image in it (R192). -/
theorem formFailure_cases (image : List Byte) :
    (¬ imageMarked image ∧ formFailure image = some .markFailure) ∨
      (¬ imageSized image ∧ formFailure image = some .lengthFailure) ∨
      (¬ imageChecked image ∧ formFailure image = some .checkFailure) ∨
      ((imageMarked image ∧ imageSized image ∧ imageChecked image) ∧ formFailure image = none) := by
  by_cases hm : imageMarked image
  case neg => exact .inl ⟨hm, formFailure_unmarked hm⟩
  by_cases hs : imageSized image
  case neg => exact .inr (.inl ⟨hs, formFailure_unsized hm hs⟩)
  by_cases hc : imageChecked image
  case neg => exact .inr (.inr (.inl ⟨hc, formFailure_unchecked hm hs hc⟩))
  exact .inr (.inr (.inr ⟨⟨hm, hs, hc⟩, formFailure_of_checked hm hs hc⟩))

theorem formFailure_eq_none_iff (image : List Byte) :
    formFailure image = none ↔ imageMarked image ∧ imageSized image ∧ imageChecked image := by
  obtain ⟨hn, h⟩ | ⟨hn, h⟩ | ⟨hn, h⟩ | ⟨hn, h⟩ := formFailure_cases image <;> simp [hn, h]

/-- The three checks of an image's form answer neither soundness nor a range failure. -/
theorem formFailure_ne_sound_and_ne_rangeFailure {image : List Byte} {failure : ImageCheck}
    (hf : formFailure image = some failure) : failure ≠ .sound ∧ failure ≠ .rangeFailure := by
  obtain ⟨-, h⟩ | ⟨-, h⟩ | ⟨-, h⟩ | ⟨-, h⟩ := formFailure_cases image <;> cases hf.symm.trans h <;> decide

theorem checkImage_of_formFailure {image : List Byte} {failure : ImageCheck} (h : formFailure image = some failure) :
    checkImage image = failure := by
  rw [checkImage, h]

theorem checkImage_of_ranges {image : List Byte} (h : formFailure image = none) (hr : imageRanges image) :
    checkImage image = .sound := by
  rw [checkImage, h]
  exact if_pos ((readSettings_isSome_iff image).2 hr)

theorem checkImage_of_not_ranges {image : List Byte} (h : formFailure image = none) (hr : ¬ imageRanges image) :
    checkImage image = .rangeFailure := by
  rw [checkImage, h]
  exact if_neg (mt (readSettings_isSome_iff image).1 hr)

/-! ## The end of a read -/

theorem exec_readEnd_of_reading (bytes : List Byte) {s : State} (hl : s.isLoading = true)
    (hr : s.loader.activity.isReading = true) : exec (.readEnd bytes) s = .next (s.endRead bytes) := by
  have hreading : (s.isLoading && s.loader.activity.isReading) = true := by rw [hl, hr]; rfl
  exact congrArg Host.Outcome.next (if_pos hreading)

theorem endRead_retry {s : State} {bytes : List Byte} {failure : ImageCheck} (h : formFailure bytes = some failure)
    (h1 : s.loader.attempts = 1) : s.endRead bytes = s.readChecked failure (.retryWait 0) := by
  rw [State.endRead, h]
  exact if_pos h1

/-- The state a refused image halts the station in (R193, R195). -/
def State.refuseImage (s : State) (outcome : ImageCheck) : State :=
  (s.readChecked outcome .idle).enterHalted (s.report.faults.withConfig outcome)

/-- A range failure halts after either read, a failure of form after any but the first. -/
theorem endRead_refused {s : State} {bytes : List Byte} (h : checkImage bytes ≠ .sound)
    (h1 : checkImage bytes ≠ .rangeFailure → s.loader.attempts ≠ 1) :
    s.endRead bytes = s.refuseImage (checkImage bytes) := by
  cases hf : formFailure bytes with
  | some failure =>
    rw [checkImage_of_formFailure hf] at h1 ⊢
    rw [State.endRead, hf]
    exact if_neg (h1 (formFailure_ne_sound_and_ne_rangeFailure hf).2)
  | none =>
    have hr : ¬ imageRanges bytes := fun hr => h (checkImage_of_ranges hf hr)
    have hnone : readSettings bytes = none :=
      Option.not_isSome_iff_eq_none.1 (mt (readSettings_isSome_iff bytes).1 hr)
    rw [checkImage_of_not_ranges hf hr, State.endRead, hf]
    dsimp only
    rw [hnone]
    rfl

theorem endRead_sound {s : State} {bytes : List Byte} (h : checkImage bytes = .sound) :
    ∃ c, s.endRead bytes = (s.readChecked .sound .idle).takeImage c := by
  cases hf : formFailure bytes with
  | some failure =>
    exact absurd ((checkImage_of_formFailure hf).symm.trans h) (formFailure_ne_sound_and_ne_rangeFailure hf).1
  | none =>
    have hr : imageRanges bytes := by
      by_contra hr
      simp [checkImage_of_not_ranges hf hr] at h
    obtain ⟨c, hc⟩ := Option.isSome_iff_exists.1 ((readSettings_isSome_iff bytes).2 hr)
    refine ⟨c, ?_⟩
    rw [State.endRead, hf]
    dsimp only
    rw [hc]

theorem State.outputLevel_of_no_image {s : State} (h : s.imageTaken = false) (n : ChannelIx) :
    s.outputLevel n = .undriven :=
  if_neg fun ⟨_, htaken⟩ => Bool.false_ne_true (h.symm.trans htaken)

/-- Settles O23: each reader answers exactly when its record meets the condition of R194. -/
theorem rangeCheckIsTheTableOfR194 : Obligations.RangeCheckIsTheTableOfR194 := by
  refine ⟨readSettings_isSome_iff, fun image s hl hreading hform hranges => ?_⟩
  have hcheck : checkImage image = .rangeFailure := checkImage_of_not_ranges hform hranges
  have hend : s.endRead image = s.refuseImage .rangeFailure := by
    rw [← hcheck]
    exact endRead_refused (by simp [hcheck]) fun hne => absurd hcheck hne
  refine ⟨s.refuseImage .rangeFailure, ?_, rfl, rfl, rfl, rfl⟩
  rw [exec_readEnd_of_reading image hl hreading, hend]

/-- Settles O22: the outcome of the checks by the first that fails, and the end of a read by that outcome. -/
theorem refusedImageHalts : Obligations.RefusedImageHalts := by
  refine ⟨fun image => ⟨?_, ?_, ?_, ?_, ?_⟩, fun bytes s hl hreading => ⟨?_, ?_, ?_⟩⟩
  · exact fun hm => checkImage_of_formFailure (formFailure_unmarked hm)
  · exact fun hm hs => checkImage_of_formFailure (formFailure_unsized hm hs)
  · exact fun hm hs hc => checkImage_of_formFailure (formFailure_unchecked hm hs hc)
  · intro hm hs hc
    have hform := formFailure_of_checked hm hs hc
    exact ⟨hform, checkImage_of_not_ranges hform, checkImage_of_ranges hform⟩
  · intro hform
    rw [← formFailure_eq_none_iff] at hform
    obtain ⟨failure, hf⟩ := Option.ne_none_iff_exists'.1 hform
    rw [hf, checkImage_of_formFailure hf]
  · intro failure hf h1
    rw [exec_readEnd_of_reading bytes hl hreading, endRead_retry hf h1]
    rfl
  · rintro outcome rfl hne h1
    refine ⟨s.refuseImage (checkImage bytes), ?_, rfl, ?_, rfl, rfl, rfl, rfl, rfl,
      fun htaken => State.outputLevel_of_no_image htaken⟩
    · rw [exec_readEnd_of_reading bytes hl hreading, endRead_refused hne h1]
    · cases hc : checkImage bytes
      case sound => exact absurd hc hne
      all_goals rfl
  · intro hsound
    obtain ⟨c, hc⟩ := endRead_sound (s := s) hsound
    refine ⟨(s.readChecked .sound .idle).takeImage c, ?_, rfl, rfl, rfl⟩
    rw [exec_readEnd_of_reading bytes hl hreading, hc]

end Sys2Proof.Machine
end

section
/-! PROOFS. Claim work, move by move: every shared operation of the claim unit and the channel controller is a chain of
a few elementary moves, so an invariant that each move keeps is kept by all of them. -/

namespace Sys2Proof.Machine

/-- One elementary move of the claim unit and the channel controller, with the condition it is made under. -/
inductive Move (s : State) : State → Prop where
  /-- A demand joins the queue of a channel that is OFF or STOPPING (R36). -/
  | enqueue (n : ChannelIx) (d : Demand) (h : (s.channelState n).isEngaged = false) :
      Move s (s.setClaims (s.claims.enqueue n d))
  /-- A channel's entry leaves the queue (R38). -/
  | forget (n : ChannelIx) : Move s (s.setClaims { s.claims with queue := removeEntry n s.claims.queue })
  /-- Every HOLD mark is cleared (R50). -/
  | holdClear : Move s s.holdClear
  /-- An exempt entry is served (R42). -/
  | serve (e : Entry) (he : s.exempt e.channel = true) (hr : s.ready e.channel = true)
      (hw : s.member.state.working = true) : Move s (s.serveEntry e)
  /-- The candidate is taken up (R45). -/
  | takeUp (e : Entry) (hm : e ∈ s.claims.queue) (hq : s.qualifies e = true) (hs : s.member.state = .synced)
      (ho : s.claims.outstanding = none) : Move s (s.takeUp e)
  /-- The outstanding claim ceases to exist (R45). -/
  | dropClaim (o c : OutstandingClaim) (h : s.claims.outstanding = some o) (hc : c.channel = o.channel) :
      Move s (s.dropClaim c)
  /-- The outstanding claim's demand returns to the queue (R50). -/
  | returnClaim (o c : OutstandingClaim) (hold : Bool) (h : s.claims.outstanding = some o)
      (hc : c.channel = o.channel) (hn : c.number = o.number) : Move s (s.returnClaim c hold)
  /-- The outstanding claim changes, its channel and its number standing and its attempts within their limit. -/
  | amend (o c : OutstandingClaim) (h : s.claims.outstanding = some o) (hc : c.channel = o.channel)
      (hn : c.number = o.number) (ha : o.attempts < Config.attemptLimit → c.attempts < Config.attemptLimit) :
      Move s (s.setClaims { s.claims with outstanding := some c })
  /-- A PENDING channel's allowance is extended (R37). -/
  | extendPending (n : ChannelIx) (d e : Demand) (h : s.channelState n = .pending d) :
      Move s (s.setChannelState n (.pending e))
  /-- An ON channel's allowance is extended (R37). -/
  | extendOn (n : ChannelIx) (d e : Demand) (h : s.channelState n = .switchedOn d) :
      Move s (s.setChannelState n (.switchedOn e))
  /-- A PENDING channel enters STOPPING (R84). -/
  | stopPending (n : ChannelIx) (d : Demand) (h : s.channelState n = .pending d) : Move s (s.enterStopping n)
  /-- A budgeted channel that is ON, or on the line OFF, enters STOPPING (R85, R87). -/
  | stopBudgeted (n : ChannelIx) (he : s.exempt n = false)
      (h : (s.channelState n).isOn = true ∨ (s.channelState n = .off ∧ s.member.state.online = true)) :
      Move s (s.enterStopping n)
  /-- A PENDING or ON channel goes OFF (R84, R85, R88). -/
  | goOff (n : ChannelIx) (h : (∃ d, s.channelState n = .pending d) ∨ (s.channelState n).isOn = true) :
      Move s (s.setChannelState n .off)
  /-- A STOPPING channel goes OFF while no frame is in flight (R86). -/
  | endStopping (n : ChannelIx) (h : s.channelState n = .stopping) (hl : s.drivesLine = false) :
      Move s (s.endStopping n)
  /-- A rest timer changes (R92). -/
  | rest (n : ChannelIx) (r : Nat) : Move s (s.setChannel n { s.channel n with rest := r })
  /-- The RENEW offer is withdrawn, or on the line placed (R71). -/
  | renew (b : Bool) (h : b = true → s.member.state.online = true) : Move s (s.setOffers { s.line.offers with renew := b })

/-- A chain of moves. -/
abbrev Moves : State → State → Prop := Relation.ReflTransGen Move

theorem Move.moves {s t : State} (h : Move s t) : Moves s t := .single h

/-- A predicate that every move keeps is kept by a chain of moves. -/
theorem Moves.keeps {P : State → Prop} (hP : ∀ s t, Move s t → P s → P t) {s t : State} (h : Moves s t) (hs : P s) :
    P t := by
  induction h with
  | refl => exact hs
  | tail _ hm ih => exact hP _ _ hm ih

/-- A fold of operations that are chains of moves is a chain of moves. -/
theorem Moves.foldl {α : Type} {f : State → α → State} (hf : ∀ s a, Moves s (f s a)) (l : List α) (s : State) :
    Moves s (l.foldl f s) := by
  induction l generalizing s with
  | nil => exact .refl
  | cons a l ih => exact (hf s a).trans (ih _)

theorem Move.work {s t : State} (h : Move s t) : ClaimWork s t := by
  cases h with
  | serve e => exact serveEntry_work s e
  | _ => rfl

theorem Moves.work {s t : State} (h : Moves s t) : ClaimWork s t := by
  induction h with
  | refl => exact .refl s
  | tail _ hm ih => exact ih.trans hm.work

/-- A fold of operations that are chains of moves under a condition that chains of moves keep. -/
theorem Moves.foldl_of {α : Type} {f : State → α → State} {Q : State → Prop} (hf : ∀ s a, Q s → Moves s (f s a))
    (hQ : ∀ s t, Moves s t → Q s → Q t) (l : List α) (s : State) (hs : Q s) : Moves s (l.foldl f s) := by
  induction l generalizing s with
  | nil => exact .refl
  | cons a l ih => exact (hf s a hs).trans (ih _ (hQ _ _ (hf s a hs) hs))

/-! ## Channel states -/

@[simp] theorem State.channelState_setClaims (s : State) (u : ClaimUnit) (k : ChannelIx) :
    (s.setClaims u).channelState k = s.channelState k := rfl
@[simp] theorem State.channelState_setOffers (s : State) (o : OfferSet) (k : ChannelIx) :
    (s.setOffers o).channelState k = s.channelState k := rfl

theorem State.channelState_setChannelState (s : State) (n k : ChannelIx) (c : ChannelState) :
    (s.setChannelState n c).channelState k = if k = n then c else s.channelState k := by
  split
  · subst k; simp
  · rename_i h; exact State.channelState_setChannelState_ne s n k c h

@[simp] theorem State.channelState_setRest (s : State) (n k : ChannelIx) (r : Nat) :
    (s.setChannel n { s.channel n with rest := r }).channelState k = s.channelState k := by
  by_cases h : k = n
  · subst k; simp [State.channelState]
  · simp [State.channelState, h]

@[simp] theorem State.exempt_setChannelState (s : State) (n k : ChannelIx) (c : ChannelState) :
    (s.setChannelState n c).exempt k = s.exempt k := rfl

/-- Claim work leaves the settings, so it leaves which channels are exempt. -/
theorem ClaimWork.exempt {s t : State} (h : ClaimWork s t) (n : ChannelIx) : t.exempt n = s.exempt n := by
  rw [← h]; rfl

theorem ClaimWork.inhibited {s t : State} (h : ClaimWork s t) (n : ChannelIx) : t.inhibited n = s.inhibited n := by
  rw [← h]; rfl

theorem ClaimWork.ownId {s t : State} (h : ClaimWork s t) : t.ownId = s.ownId := by rw [← h]; rfl

theorem ClaimWork.member {s t : State} (h : ClaimWork s t) : t.member = s.member := by rw [← h]

theorem ClaimWork.phase {s t : State} (h : ClaimWork s t) : t.phase = s.phase := by rw [← h]

theorem ClaimWork.table {s t : State} (h : ClaimWork s t) : t.table = s.table := by rw [← h]

theorem ClaimWork.activity {s t : State} (h : ClaimWork s t) : t.line.activity = s.line.activity := by rw [← h]

theorem ClaimWork.drivesLine {s t : State} (h : ClaimWork s t) : t.drivesLine = s.drivesLine := by
  rw [← h]; rfl

/-! ## The operations as chains of moves -/

theorem beginRest_moves (s : State) (n : ChannelIx) : Moves s (s.beginRest n) := by
  unfold State.beginRest
  split
  · exact .refl
  · exact (Move.rest n _).moves

@[simp] theorem State.channelState_beginRest (s : State) (n k : ChannelIx) :
    (s.beginRest n).channelState k = s.channelState k := by
  unfold State.beginRest
  split
  · rfl
  · exact State.channelState_setRest s n k _

theorem State.channelState_enterStopping (s : State) (n k : ChannelIx) :
    (s.enterStopping n).channelState k = if k = n then .stopping else s.channelState k :=
  s.channelState_setChannelState n k .stopping

theorem State.channelState_endStopping (s : State) (n k : ChannelIx) :
    (s.endStopping n).channelState k = if k = n then .off else s.channelState k :=
  s.channelState_setChannelState n k .off

theorem State.channelState_switchOff (s : State) (n k : ChannelIx) :
    (s.switchOff n).channelState k =
      if k = n then (if s.exempt n then .off else .stopping) else s.channelState k := by
  unfold State.switchOff
  rw [State.channelState_beginRest]
  split
  · exact s.channelState_setChannelState n k .off
  · exact s.channelState_enterStopping n k

theorem switchOff_moves {s : State} {n : ChannelIx} (h : (s.channelState n).isOn = true) :
    Moves s (s.switchOff n) := by
  unfold State.switchOff
  refine Relation.ReflTransGen.trans ?_ (beginRest_moves _ n)
  split
  · exact (Move.goOff n (.inr h)).moves
  · rename_i he
    exact (Move.stopBudgeted n (by simpa using he) (.inl h)).moves

theorem requeue_moves {s : State} {n : ChannelIx} (d : Demand) (h : (s.channelState n).isEngaged = false) :
    Moves s (s.requeue n d) := by
  unfold State.requeue
  split
  · exact .refl
  · exact (Move.enqueue n d h).moves

/-- An ON channel leaves ON and hands its demand back. -/
theorem switchOff_requeue_moves {s : State} {n : ChannelIx} {d : Demand} (h : s.channelState n = .switchedOn d) :
    Moves s ((s.switchOff n).requeue n d) := by
  refine (switchOff_moves (by simp [h, ChannelState.isOn])).trans (requeue_moves d ?_)
  rw [State.channelState_switchOff, if_pos rfl]
  split <;> rfl

/-- A PENDING channel enters STOPPING and hands its demand back. -/
theorem enterStopping_requeue_moves {s : State} {n : ChannelIx} {d : Demand} (h : s.channelState n = .pending d) :
    Moves s ((s.enterStopping n).requeue n d) := by
  refine (Move.stopPending n d h).moves.trans (requeue_moves d ?_)
  rw [State.channelState_enterStopping, if_pos rfl]
  rfl

/-- A PENDING channel goes OFF and hands its demand back. -/
theorem goOff_requeue_moves {s : State} {n : ChannelIx} {d : Demand} (h : s.channelState n = .pending d) :
    Moves s ((s.setChannelState n .off).requeue n d) := by
  refine (Move.goOff n (.inl ⟨d, h⟩)).moves.trans (requeue_moves d ?_)
  rw [State.channelState_setChannelState_self]
  rfl

/-- An ON channel whose record is gone goes OFF, its rest begins, and it hands its demand back. -/
theorem goOff_rest_requeue_moves {s : State} {n : ChannelIx} {d : Demand} (h : s.channelState n = .switchedOn d) :
    Moves s (((s.setChannelState n .off).beginRest n).requeue n d) := by
  refine ((Move.goOff n (.inr (by simp [h, ChannelState.isOn]))).moves.trans (beginRest_moves _ n)).trans
    (requeue_moves d ?_)
  rw [State.channelState_beginRest, State.channelState_setChannelState_self]
  rfl

theorem serveEntry_moves (s : State) (e : Entry) : Moves s (s.serveEntry e) := by
  by_cases h : s.exempt e.channel = true ∧ s.ready e.channel = true ∧ s.member.state.working = true
  · exact (Move.serve e h.1 h.2.1 h.2.2).moves
  · have : s.serveEntry e = s := by
      unfold State.serveEntry
      exact if_neg (by simpa [and_assoc] using h)
    rw [this]

theorem offerClaim_moves (s : State) : Moves s s.offerClaim := by
  unfold State.offerClaim
  split
  · rename_i h
    obtain ⟨hs, ho⟩ := h
    split
    · rename_i e he
      split
      · exact (Move.takeUp e (List.mem_of_find?_eq_some he) (List.find?_some he) hs ho).moves
      · exact .refl
    · exact .refl
  · exact .refl

theorem judge_moves (s : State) : Moves s s.judge :=
  (Moves.foldl serveEntry_moves _ s).trans (offerClaim_moves _)

theorem start_moves (s : State) (n : ChannelIx) (cls : Class) (allowance : Option Nat) :
    Moves s (s.start n cls allowance) := by
  unfold State.start
  dsimp only
  split
  · rename_i h
    exact (Move.enqueue n _ (by rw [h]; rfl)).moves.trans (judge_moves _)
  · rename_i h
    exact (Move.enqueue n _ (by rw [h]; rfl)).moves.trans (judge_moves _)
  · split
    · rename_i o ho
      split
      · exact (Move.amend o
          { o with
            cls := o.cls.higher (Class.lowered (s.channelSettings n).ceiling cls)
            allowance := s.extended n o.allowance allowance
            stopNote := false } ho rfl rfl id).moves
      · exact .refl
    · exact .refl
  · rename_i d h
    exact (Move.extendPending n d _ h).moves
  · rename_i d h
    exact (Move.extendOn n d _ h).moves

theorem stopChannel_moves (s : State) (n : ChannelIx) : Moves s (s.stopChannel n) := by
  unfold State.stopChannel
  split
  · exact .refl
  · exact .refl
  · rename_i d h
    exact (Move.stopPending n d h).moves
  · rename_i d h
    exact switchOff_moves (by simp [h, ChannelState.isOn])
  · split
    · rename_i o ho
      split
      · split
        · exact (Move.amend o { o with stopNote := true } ho rfl rfl id).moves
        · exact (Move.dropClaim o o ho rfl).moves
      · exact .refl
    · exact .refl

theorem stop_moves (s : State) (n : ChannelIx) : Moves s (s.stop n) :=
  (Move.forget n).moves.trans ((stopChannel_moves _ n).trans (judge_moves _))

theorem toggle_moves (s : State) (n : ChannelIx) (cls : Class) (allowance : Option Nat) :
    Moves s (s.toggle n cls allowance) := by
  unfold State.toggle
  split
  · exact stop_moves s n
  · exact start_moves s n cls allowance

theorem act_moves (s : State) (a : DemandAction) (n : ChannelIx) (cls : Class) (duration : Nat) :
    Moves s (s.act a n cls duration) := by
  cases a with
  | start => exact start_moves s n cls _
  | stop => exact stop_moves s n
  | toggle => exact toggle_moves s n cls _

theorem actOnGroup_moves (s : State) (a : DemandAction) (g : GroupIx) (cls : Class) (duration : Nat) :
    Moves s (s.actOnGroup a g cls duration) := by
  refine Moves.foldl (fun t n => ?_) _ s
  split
  · exact act_moves t a n cls duration
  · exact .refl

theorem becomeInhibited_moves (s : State) (n : ChannelIx) : Moves s (s.becomeInhibited n) := by
  unfold State.becomeInhibited
  split
  · exact .refl
  · exact .refl
  · rename_i d h
    exact enterStopping_requeue_moves h
  · rename_i d h
    exact switchOff_requeue_moves h
  · split
    · rename_i o ho
      split
      · exact (Move.returnClaim o o false ho rfl rfl).moves
      · exact .refl
    · exact .refl

/-- After the masks have been written, a change of the masks is a chain of moves. -/
theorem changeMasks_moves (s : State) (m : InhibitMasks) : Moves (s.setMasks m) (s.changeMasks m) := by
  refine (Moves.foldl (fun t n => ?_) allEight _).trans (judge_moves _)
  split
  · exact becomeInhibited_moves t n
  · exact .refl

theorem ownShed_moves {s : State} (n : ChannelIx) (ho : s.member.state.online = true) : Moves s (s.ownShed n) := by
  unfold State.ownShed
  split
  · exact .refl
  · rename_i he
    split
    · rename_i d h
      exact switchOff_requeue_moves h
    · rename_i h
      exact (Move.stopBudgeted n (by simpa using he) (.inr ⟨h, ho⟩)).moves
    · exact .refl

theorem ownExpired_moves {s : State} (n : ChannelIx) (hl : s.drivesLine = false) : Moves s (s.ownExpired n) := by
  unfold State.ownExpired
  split
  · exact .refl
  · split
    · rename_i d h
      exact goOff_rest_requeue_moves h
    · rename_i d h
      exact goOff_requeue_moves h
    · rename_i h
      exact (Move.endStopping n h hl).moves
    · exact .refl

theorem ownReleased_moves (s : State) (n : ChannelIx) : Moves s (s.ownReleased n) := by
  unfold State.ownReleased
  split
  · exact .refl
  · split
    · rename_i d h
      exact goOff_requeue_moves h
    · exact .refl

theorem divergeChannel_moves {s : State} (n : ChannelIx) (ho : s.member.state.online = true) : Moves s (s.divergeChannel n) := by
  unfold State.divergeChannel
  split
  · exact .refl
  · rename_i he
    split
    · rename_i d h
      exact switchOff_requeue_moves h
    · rename_i d h
      exact enterStopping_requeue_moves h
    · exact .refl
    · rename_i h
      split
      · exact (Move.stopBudgeted n (by simpa using he) (.inr ⟨h, ho⟩)).moves
      · exact .refl
    · split
      · rename_i o ho
        split
        · exact (Move.returnClaim o o false ho rfl rfl).moves
        · exact .refl
      · exact .refl

theorem giveSheds_moves {s : State} (victims : List (Nat × ChannelIx)) (ho : s.member.state.online = true) :
    Moves s (s.giveSheds victims) := by
  refine Moves.foldl_of (Q := fun t => t.member.state.online = true) (fun t v ht => ?_)
    (fun t u h => by rw [h.work.member]; exact id) victims s ho
  split
  · exact ownShed_moves v.2 ht
  · exact .refl

theorem giveExpiries_moves {s : State} (gone : List Holding) (hl : s.drivesLine = false) :
    Moves s (s.giveExpiries gone) := by
  refine Moves.foldl_of (Q := fun t => t.drivesLine = false) (fun t r ht => ?_)
    (fun t u h => h.work.drivesLine.trans) gone s hl
  split
  · exact ownExpired_moves r.channel ht
  · exact .refl

theorem divergeChannels_moves {s : State} (ho : s.member.state.online = true) :
    Moves s (allEight.foldl State.divergeChannel s) :=
  Moves.foldl_of (Q := fun t => t.member.state.online = true) (fun _ n ht => divergeChannel_moves n ht)
    (fun t u h => by rw [h.work.member]; exact id) allEight s ho

theorem dropIdleRenew_moves (s : State) : Moves s s.dropIdleRenew := by
  unfold State.dropIdleRenew
  split
  · exact (Move.renew false nofun).moves
  · exact .refl

theorem placeRenew_moves {s : State} (ho : s.member.state.online = true) : Moves s s.placeRenew := by
  unfold State.placeRenew
  split
  · exact (Move.renew true fun _ => ho).moves
  · exact .refl

/-- After the table has been emptied, clearing it is a chain of moves. -/
theorem clearTable_moves (s : State) : Moves (s.setTable []) s.clearTable :=
  (dropIdleRenew_moves _).trans Move.holdClear.moves

/-- An ended attempt of the outstanding claim (R47, R52 (4)). -/
theorem settleEndedAttempt_moves {s : State} {o c : OutstandingClaim} (usedUp : Bool)
    (h : s.claims.outstanding = some o) (hc : c.channel = o.channel) (hn : c.number = o.number)
    (ha : usedUp = false → o.attempts < Config.attemptLimit → c.attempts < Config.attemptLimit) :
    Moves s (s.settleEndedAttempt c usedUp) := by
  unfold State.settleEndedAttempt
  split
  · exact (Move.dropClaim o c h hc).moves.trans (judge_moves _)
  · split
    · exact (Move.returnClaim o c true h hc hn).moves.trans (judge_moves _)
    · rename_i hu
      split
      · exact (Move.returnClaim o c false h hc hn).moves.trans (judge_moves _)
      · exact (Move.amend o c h hc hn (ha (by simpa using hu))).moves

theorem sourceLost_moves (s : State) (o : Offer) : Moves s (s.sourceLost o) := by
  unfold State.sourceLost
  split
  · split
    · rename_i c hc
      exact settleEndedAttempt_moves false hc rfl rfl fun _ => id
    · exact .refl
  · exact .refl

theorem settleRefused_moves {s : State} {o : OutstandingClaim} (h : s.claims.outstanding = some o) :
    Moves s (s.settleRefused o) := by
  unfold State.settleRefused
  split
  · exact (Move.dropClaim o o h rfl).moves
  · exact (Move.returnClaim o o true h rfl rfl).moves

theorem setInFlight_moves (s : State) (flag : Bool) : Moves s (s.setInFlight flag) := by
  unfold State.setInFlight
  cases h : s.claims.outstanding with
  | none =>
    have : s.setClaims { s.claims with outstanding := none } = s := by rw [← h]; rfl
    exact this.symm ▸ .refl
  | some o => exact (Move.amend o { o with inFlight := flag } h rfl rfl id).moves

end Sys2Proof.Machine
end

section
/-! PROOFS. What a step can do, said once: a predicate that each operation of the model keeps, under the condition the
model makes it under, is kept by every step. -/

namespace Sys2Proof.Machine

theorem MemberState.working_of_online {m : MemberState} (h : m.online = true) : m.working = true := by
  cases m <;> first | rfl | cases h

/-! ## The accepted frame -/

/-- The station takes part in a frame up to its veto slot: as its transmitter (with this offer), or as a receiver. -/
def State.partakes (s : State) (f : Frame) (part : Option Offer) : Prop :=
  s.member.state.online = true ∧
    match part with
    | some o => s.line.activity = .transmitting o f
    | none => s.line.activity = .receiving

/-- The station once a frame that it partakes in has been accepted, before what the frame's kind orders. -/
def State.afterFrame (s : State) (f : Frame) (part : Option Offer) : State :=
  match part with
  | some o => ((s.lineAccepted f).countJudgements f).endOwnAttempt o
  | none => (s.lineAccepted f).countJudgements f

/-- What an acceptance comes down to. -/
theorem acceptFrame_cases (s : State) (f : Frame) (effects : Bool → State → State) :
    s.acceptFrame f effects = s ∨
      (s.member.state.online = true ∧ s.line.activity = .receiving ∧ f.raw.defective = true ∧
        s.acceptFrame f effects = s.castVeto (withVetoSlot f.bits true)) ∨
      (s.member.state.online = true ∧ s.line.activity = .receiving ∧
        s.acceptFrame f effects = ((s.lineAccepted f).countJudgements f).haltDuplicate) ∨
      ∃ part, s.partakes f part ∧ (part = none → f.source.toNat ≠ s.ownId) ∧
        (s.acceptFrame f effects = s.afterFrame f part ∨ s.acceptFrame f effects = (s.afterFrame f part).judge ∨
          (s.passesJudgements f = true ∧ s.acceptFrame f effects = effects part.isSome (s.afterFrame f part))) := by
  by_cases ho : s.member.state.online = true
  case neg => exact .inl (acceptFrame_offline f effects (by simpa using ho))
  cases ha : s.line.activity with
  | transmitting o g =>
    by_cases hg : g = f
    · subst hg
      refine .inr (.inr (.inr ⟨some o, ⟨ho, ha⟩, nofun, ?_⟩))
      rw [acceptFrame_own effects ho ha]
      split
      · exact .inr (.inr ⟨‹_›, rfl⟩)
      · exact .inr (.inl rfl)
    · exact .inl (by simp [State.acceptFrame, State.reception, ho, ha, hg])
  | receiving =>
    by_cases hd : f.raw.defective = true
    · exact .inr (.inl ⟨ho, rfl, hd, by simp [State.acceptFrame, State.reception, ho, ha, hd]⟩)
    · rw [Bool.not_eq_true] at hd
      by_cases hs : f.source.toNat = s.ownId
      · exact .inr (.inr (.inl ⟨ho, rfl, acceptFrame_duplicate effects ho ha hd hs⟩))
      · refine .inr (.inr (.inr ⟨none, ⟨ho, ha⟩, fun _ => hs, ?_⟩))
        by_cases hj : s.passesJudgements f = true
        · exact .inr (.inr ⟨hj, by simp [State.acceptFrame, State.reception, ho, ha, hd, hs, hj, State.afterFrame]⟩)
        · exact .inl (by simp [State.acceptFrame, State.reception, ho, ha, hd, hs, hj, State.afterFrame])
  | apart => exact .inl (by simp [State.acceptFrame, State.reception, ho, ha])
  | counting => exact .inl (by simp [State.acceptFrame, State.reception, ho, ha])
  | idle => exact .inl (by simp [State.acceptFrame, State.reception, ho, ha])

/-- A frame that passes the judgements comes from a station, whose ID lies in 1..62 (R177). -/
theorem source_of_passesJudgements {s : State} {f : Frame} (h : s.passesJudgements f = true) :
    1 ≤ f.source.toNat ∧ f.source.toNat ≤ 62 := by
  simp only [State.passesJudgements, Bool.and_eq_true, bne_iff_ne] at h
  obtain ⟨⟨⟨h0, h63⟩, -⟩, -⟩ := h
  have h1 : f.source.toNat ≠ 0 := fun he => h0 (BitVec.eq_of_toNat_eq he)
  have h2 : f.source.toNat ≠ 63 := fun he => h63 (BitVec.eq_of_toNat_eq he)
  have := f.source.isLt
  omega

/-- Counting the judgements changes the report unit alone, and of its faults PROFILE-CLASH alone. -/
theorem countJudgements_frame (s : State) (f : Frame) :
    s.countJudgements f = { s with report := (s.countJudgements f).report } ∧
      (s.countJudgements f).report =
        { s.report with
          counters := (s.countJudgements f).report.counters
          faults := { s.report.faults with profileClash := (s.countJudgements f).report.faults.profileClash } } := by
  unfold State.countJudgements
  repeat' split
  all_goals exact ⟨rfl, rfl⟩

/-- The end of an own attempt changes the claim unit, the channels, the line, the command queue and the report unit's
attempt count alone. -/
theorem endOwnAttempt_frame (s : State) (o : Offer) :
    s.endOwnAttempt o =
      { s with
        claims := (s.endOwnAttempt o).claims, channels := (s.endOwnAttempt o).channels
        commands := (s.endOwnAttempt o).commands
        line := { s.line with sendStreak := 0, courtesyGap := true, offers := (s.endOwnAttempt o).line.offers }
        report := { s.report with attempts := (s.endOwnAttempt o).report.attempts } } := by
  cases o <;> first | rfl | (unfold State.endOwnAttempt; dsimp only; split <;> rfl)

/-- What an accepted frame leaves as it was, before what its kind orders. -/
theorem afterFrame_frame (s : State) (f : Frame) (part : Option Offer) :
    s.afterFrame f part =
      { s with
        claims := (s.afterFrame f part).claims, channels := (s.afterFrame f part).channels
        commands := (s.afterFrame f part).commands
        line := { s.line with
          activity := .counting, idleCount := 0, buffer := withVetoSlot f.bits true, vetoStreak := 0
          sendStreak := (s.afterFrame f part).line.sendStreak
          courtesyGap := (s.afterFrame f part).line.courtesyGap, offers := (s.afterFrame f part).line.offers }
        report := (s.afterFrame f part).report } := by
  have hc := (countJudgements_frame (s.lineAccepted f) f).1
  cases part with
  | none => unfold State.afterFrame; dsimp only; rw [hc]; rfl
  | some o =>
    have he := endOwnAttempt_frame ((s.lineAccepted f).countJudgements f) o
    unfold State.afterFrame
    dsimp only
    rw [he, hc]
    rfl

theorem afterFrame_member (s : State) (f : Frame) (part : Option Offer) :
    (s.afterFrame f part).member = s.member := by rw [afterFrame_frame]

theorem afterFrame_activity (s : State) (f : Frame) (part : Option Offer) :
    (s.afterFrame f part).line.activity = .counting := by rw [afterFrame_frame]

/-! ## The BEACON, up to the calendar's part -/

/-- What an applied BEACON does before the calendar takes its time (R60). -/
def State.beaconSettled (b : BeaconFields) (sender : Nat) (own : Bool) (s : State) : State :=
  let synced := s.member.state == .synced
  let witness := if synced then s.witnessUpdate b sender own else some s.member.witness
  let renewed := ((s.beaconTable witness.isNone).restartBeacon.dropIdleRenew).placeRenew
  (if synced then renewed.beaconSynced b own witness
    else renewed.beaconListening b own (tableDigest s.table)).judge

theorem applyBeacon_eq (b : BeaconFields) (sender : Nat) (own : Bool) (s : State) :
    State.applyBeacon b sender own s =
      if b.timeValid && !own then (s.beaconSettled b sender own).adjustTime b.time false
      else s.beaconSettled b sender own := rfl

/-- The table after a beacon's ageing, expiries and promotion check (R21), and the record the check promoted. -/
def State.agedTable (s : State) : List Holding × Option Holding :=
  if s.member.state = .synced then promotionCheck s.settings.budget (liveRecords (ageTable s.table))
  else (liveRecords (ageTable s.table), none)

/-- The table's part of a beacon writes the aged table and does claim work beside. -/
theorem beaconTable_work (s : State) (divergence : Bool) :
    ClaimWork (s.setTable s.agedTable.1) (s.beaconTable divergence) := by
  have he := giveExpiries_work (s.setTable s.agedTable.1) (expiredRecords (ageTable s.table))
  have hs : ClaimWork (s.setTable s.agedTable.1)
      (if expiredRecords (ageTable s.table) = [] then
        (s.setTable s.agedTable.1).giveExpiries (expiredRecords (ageTable s.table))
      else ((s.setTable s.agedTable.1).giveExpiries (expiredRecords (ageTable s.table))).holdClear) := by
    split
    · exact he
    · exact he.trans (holdClear_work _)
  unfold State.beaconTable
  dsimp only
  split
  · exact hs
  · exact hs.trans (givePromotion_work _ _)

theorem beaconTable_member (s : State) (divergence : Bool) : (s.beaconTable divergence).member = s.member :=
  (beaconTable_work s divergence).member

/-- A confirmed divergence leaves the station in LISTENING (R63). -/
theorem confirmDivergence_state (s : State) : s.confirmDivergence.member.state = .listening := rfl

theorem completeJoin_state (s : State) : s.completeJoin.member.state = .synced := rfl

theorem clearTable_member (s : State) : s.clearTable.member = s.member := (clearTable_work s).member

theorem restartJoin_state (s : State) : s.restartJoin.member.state = s.member.state := by
  change s.clearTable.member.state = s.member.state
  rw [clearTable_member]

theorem changeMasks_member (s : State) (m : InhibitMasks) : (s.changeMasks m).member = s.member :=
  (changeMasks_moves s m).work.member

/-- A station on the line is on the line after a BEACON (R54, R63, R69, R70). -/
theorem beaconSettled_online {s : State} (b : BeaconFields) (sender : Nat) (own : Bool)
    (h : s.member.state.online = true) : (s.beaconSettled b sender own).member.state.online = true := by
  have renewed (d : Bool) : ((s.beaconTable d).restartBeacon.dropIdleRenew).placeRenew.member.state = s.member.state := by
    have hw := (dropIdleRenew_work (s.beaconTable d).restartBeacon).trans
      (t := (s.beaconTable d).restartBeacon.dropIdleRenew) (u := ((s.beaconTable d).restartBeacon.dropIdleRenew).placeRenew)
      (by unfold State.placeRenew; split <;> rfl)
    rw [hw.member, ← beaconTable_member s d]
    rfl
  unfold State.beaconSettled
  dsimp only
  rw [(judge_work _).member]
  split
  · unfold State.beaconSynced
    dsimp only
    split
    · exact (congrArg MemberState.online (renewed _)).trans h
    · rfl
  · have adopted : ∀ (t : State) (a : Bool) (m : InhibitMasks),
        (if a then t.changeMasks m else t).member = t.member := by
      intro t a m
      split
      · exact changeMasks_member t m
      · rfl
    unfold State.beaconListening
    dsimp only
    split
    · rfl
    · split
      · rw [restartJoin_state, adopted]
        exact (congrArg MemberState.online (renewed _)).trans h
      · rw [adopted]
        exact (congrArg MemberState.online (renewed _)).trans h

/-- A RELEASE's payload byte gives its channel back. -/
theorem channelLow_of_releasePayload {p : Vector Byte 1} {n : ChannelIx} (h : p.toList = releasePayload n) :
    channelLow p[0] = n := by
  have hp : p[0] = byteOf n.val := by
    have := congrArg (fun l => l[0]?) h
    simpa [releasePayload] using this
  rw [hp]
  clear h hp
  revert n
  decide

theorem nextBlinkChange_lt (code tick : Nat) : nextBlinkChange code tick < blinkCycle code := by
  simp only [nextBlinkChange, blinkCycle, Config.blinkHalf, Config.blinkGap]
  split <;> omega

/-! ## The operations of a step -/

/-- A loader within its bounds: at most two attempts, a read within its length with one bit for each rising edge of CLK
past the 24th, and a retry wait within its length. -/
def Loader.bounded (l : Loader) : Prop :=
  l.attempts ≤ 2 ∧
    (∀ p bits, l.activity = .reading p bits → p < Config.readPeriods ∧ bits.length = (p + 4) / 8 - 24) ∧
    ∀ p, l.activity = .retryWait p → p < Config.retryWaitPeriods

/-- The predicate is kept by every operation a step is made of, resets and the calendar's movement apart. -/
structure KeepsEvents (P : State → Prop) : Prop where
  releases : ∀ s h, P s → s.phase = .inReset → P { s with heldResets := h }
  starts : ∀ s h, P s → s.phase = .inReset → P { s with heldResets := h, phase := .startWait, startPeriods := 0 }
  waits : ∀ s n, P s → s.phase = .startWait → n < Config.startWaitPeriods → P { s with startPeriods := n }
  waitEnds : ∀ s, P s → s.phase = .startWait → P s.endStartWait
  loads : ∀ s l, P s → s.isLoading = true → (s.loader.bounded → l.bounded) → P { s with loader := l }
  readEnds : ∀ s image, P s → s.isLoading = true → P (s.endRead image)
  quiet : ∀ s a n b g, P s → s.member.state.online = true → (a = .counting ∨ a = .idle ∨ a = .receiving) →
    P (s.setLine { s.line with activity := a, idleCount := n, buffer := b, courtesyGap := g })
  records : ∀ s, P s → s.member.state.online = true → P s.recordSof
  begins : ∀ s o, P s → s.member.state.online = true → o ∈ s.standingOffers → P (s.beginAttempt o)
  counts : ∀ s c, P s → (s.report.counters.bounded → c.bounded) → P (s.setCounters c)
  fails : ∀ s o f a b, P s → s.member.state.online = true → s.line.activity = .transmitting o f →
    (a = .receiving ∨ a = .counting) → P (s.failAttempt o a b)
  vetoes : ∀ s b, P s → s.member.state.online = true → P (s.castVeto b)
  accepts : ∀ s f part, P s → s.partakes f part → P (s.afterFrame f part)
  halts : ∀ s f, P s → s.member.state.online = true → s.claims.outstanding = none →
    f.timeInvalid = s.report.faults.timeInvalid → P (s.enterHalted f)
  move : ∀ s t, P s → s.member.state.working = true → Move s t → P t
  masks : ∀ s m, P s → s.member.state.working = true → P (s.changeMasks m)
  beacon : ∀ s b sender own, P s → s.member.state.online = true → s.line.activity = .counting →
    P (s.beaconSettled b sender own)
  claim : ∀ s f part c u d, P s → s.partakes f part → (part = none → f.source.toNat ≠ s.ownId) →
    s.passesJudgements f = true → f.kind = kindClaim →
    P (State.applyClaim f.source.toNat (Class.ofBits f.cls) c u d part.isSome (s.afterFrame f part))
  release : ∀ s f part c, P s → s.partakes f part → (part = none → f.source.toNat ≠ s.ownId) →
    s.passesJudgements f = true → f.kind = kindRelease → (∀ n, f.payload = releasePayload n → c = n) →
    P (State.applyRelease f.source.toNat c part.isSome (s.afterFrame f part))
  renew : ∀ s source payload own, P s → s.member.state.online = true → 1 ≤ source → source ≤ 62 →
    P (State.applyRenew source payload own s)
  query : ∀ s target flags own, P s → s.member.state.online = true → P (State.applyQuery target flags own s)
  beaconTimer : ∀ s b, P s → s.member.state.online = true → P (s.setMember { s.member with beaconTimer := b })
  beaconOffer : ∀ s, P s → s.member.state.online = true → P (s.setOffers { s.line.offers with beacon := true })
  muteCounts : ∀ s n, P s → s.member.state = .mute → P (s.setMember { s.member with muteTimer := n })
  muteEnds : ∀ s, P s → s.member.state = .mute →
    P ((s.setMember { s.member.listening with muteTimer := 0 }).setLine s.line.joined)
  counted : ∀ s, P s → s.member.state.working = true → P { s with channels := s.channels.map Channel.counted }
  pin : ∀ s n h, P s → P (s.setPin n h)
  input : ∀ s n i, P s → s.member.state.working = true → P (s.setInput n i)
  raises : ∀ s c, P s → s.member.state.working = true → P (s.raiseCommand c)
  blink : ∀ s b, P s → s.member.state = .halted → b < blinkCycle s.report.faults.haltCode →
    P (s.setReport { s.report with blink := b })
  phases : ∀ s p, P s → p < Config.dividerPeriods → P (s.setCalendar { s.calendar with phase := p })
  divides : ∀ s d k, P s → d < Config.dividerPeriods → (k = true → d = 0) → P { s with tickDivider := d, ticked := k }

/-- The predicate is kept by these operations, and whatever commands wait. -/
structure Keeps (P : State → Prop) : Prop extends KeepsEvents P where
  pending : ∀ s q, P s → P { s with pending := q }

namespace KeepsEvents

variable {P : State → Prop}

theorem moves (K : KeepsEvents P) {s t : State} (h : Moves s t) (hs : P s) (hw : s.member.state.working = true) : P t := by
  have both : P t ∧ t.member.state.working = true :=
    Moves.keeps (P := fun u => P u ∧ u.member.state.working = true)
      (fun a b hm hab => ⟨K.move a b hab.1 hab.2 hm, by rw [hm.work.member]; exact hab.2⟩) h ⟨hs, hw⟩
  exact both.1

/-! ### The line -/

theorem startChosen (K : KeepsEvents P) (rounds : Nat) {s : State} (hs : P s) (ho : s.member.state.online = true) :
    P (s.startChosen rounds) := by
  induction rounds generalizing s with
  | zero => exact hs
  | succ k ih =>
    unfold State.startChosen
    split
    · exact hs
    · rename_i o hc
      split
      · rename_i t ht
        have hm : Moves s t := by
          unfold State.withdrawnAtSof at ht
          split at ht
          · split at ht
            · rename_i c hout
              split at ht
              · cases ht
              · cases ht
                exact (Move.returnClaim c c true hout rfl rfl).moves.trans (judge_moves _)
            · cases ht
          · split at ht
            · cases ht
              exact (Move.renew false nofun).moves
            · cases ht
          · cases ht
        exact ih (K.moves hm hs (MemberState.working_of_online ho)) (by rw [hm.work.member]; exact ho)
      · exact K.begins s o hs ho (chosenOffer_mem hc)

theorem haltDuplicate (K : KeepsEvents P) {s : State} (hs : P s) (ho : s.member.state.online = true) :
    P s.haltDuplicate := by
  unfold State.haltDuplicate
  dsimp only
  cases h : s.claims.outstanding with
  | none => exact K.halts _ _ hs ho h rfl
  | some o =>
    have hm := Move.returnClaim o o false h rfl rfl
    exact K.halts _ _ (K.move _ _ hs (MemberState.working_of_online ho) hm) ho rfl rfl

/-- An accepted frame whose kind's effects keep the predicate. -/
theorem acceptFrame {Q : State → Prop} (K : KeepsEvents P) (hPQ : ∀ s, P s → Q s) {s : State} {f : Frame}
    {effects : Bool → State → State} (hs : P s)
    (he : ∀ part, s.partakes f part → (part = none → f.source.toNat ≠ s.ownId) → s.passesJudgements f = true →
      P (s.afterFrame f part) → Q (effects part.isSome (s.afterFrame f part))) : Q (s.acceptFrame f effects) := by
  rcases acceptFrame_cases s f effects with h | ⟨ho, -, -, h⟩ | ⟨ho, ha, h⟩ | ⟨part, hp, hn, h | h | ⟨hj, h⟩⟩
  · rw [h]; exact hPQ _ hs
  · rw [h]; exact hPQ _ (K.vetoes s _ hs ho)
  · rw [h]
    refine hPQ _ (K.haltDuplicate (K.accepts s f none hs ⟨ho, ha⟩) ?_)
    rw [← ho]
    exact congrArg (fun m => m.state.online) (afterFrame_member s f none)
  · rw [h]; exact hPQ _ (K.accepts s f part hs hp)
  · rw [h]
    refine hPQ _ (K.moves (judge_moves _) (K.accepts s f part hs hp) ?_)
    rw [afterFrame_member]
    exact MemberState.working_of_online hp.1
  · rw [h]; exact he part hp hn hj (K.accepts s f part hs hp)

/-! ### Inputs and timers -/

theorem performEdge (K : KeepsEvents P) {s : State} (a : EdgeAction) (hs : P s) (hw : s.member.state.working = true) :
    P (s.performEdge a) := by
  cases a with
  | act action n cls duration => exact K.moves (act_moves s action n cls duration) hs hw
  | send action target place cls duration => exact K.raises s _ hs hw
  | inhibitSet groups => exact K.raises s _ hs hw
  | inhibitClear groups => exact K.raises s _ hs hw

theorem takeLevel (K : KeepsEvents P) {s : State} (n : InputIx) (high : Bool) (hs : P s)
    (hw : s.member.state.working = true) : P (s.takeLevel n high) := by
  have ht := K.input s n { taken := some high, debounce := 0 } hs hw
  unfold State.takeLevel
  dsimp only
  split
  · exact hs
  · split
    · exact K.performEdge _ ht hw
    · exact ht
  · exact K.masks _ _ ht hw

theorem readInput (K : KeepsEvents P) {s : State} (n : InputIx) (high : Bool) (hs : P s) : P (s.readInput n high) := by
  unfold State.readInput
  split
  · rename_i hw
    split
    · repeat' split
      all_goals first | exact hs | exact K.takeLevel n high hs hw | exact K.input s n _ hs hw
    · exact hs
  · exact hs

theorem expireRun (K : KeepsEvents P) {s : State} (n : ChannelIx) (hs : P s) (hw : s.member.state.working = true) :
    P (s.expireRun n) := by
  unfold State.expireRun
  split
  · rename_i d h
    split
    · exact K.moves ((switchOff_moves (by simp [h, ChannelState.isOn])).trans (judge_moves _)) hs hw
    · exact hs
  · exact hs

theorem endRest (K : KeepsEvents P) {s : State} (n : ChannelIx) (hs : P s) (hw : s.member.state.working = true) :
    P (s.endRest n) := by
  unfold State.endRest
  split
  · exact hs
  · exact K.moves ((Move.rest n 0).moves.trans (judge_moves _)) hs hw

theorem expireBeaconTimer (K : KeepsEvents P) {s : State} (hs : P s) (ho : s.member.state.online = true) :
    P s.expireBeaconTimer := K.beaconOffer _ (K.beaconTimer s .expired hs ho) ho

theorem leaveMute (K : KeepsEvents P) {s : State} (hs : P s) (hm : s.member.state = .mute) : P s.leaveMute :=
  K.moves (judge_moves _) (K.muteEnds s hs hm) rfl

/-! ### One oscillator period -/

theorem tickBeacon (K : KeepsEvents P) {s : State} (hs : P s) : P s.tickBeacon := by
  unfold State.tickBeacon
  split
  · rename_i ho
    split
    · split
      · exact K.expireBeaconTimer hs ho
      · exact K.beaconTimer s _ hs ho
    · exact hs
  · exact hs

theorem tickMute (K : KeepsEvents P) {s : State} (hs : P s) : P s.tickMute := by
  unfold State.tickMute
  split
  · rename_i hm
    split
    · exact K.leaveMute hs hm
    · exact K.muteCounts s _ hs hm
  · exact hs

/-- A fold of operations that keep the predicate and the membership controller. -/
theorem foldl_working {α : Type} {f : State → α → State}
    (hf : ∀ s a, P s → s.member.state.working = true → P (f s a)) (hm : ∀ s a, (f s a).member = s.member) (l : List α)
    {s : State} (hs : P s) (hw : s.member.state.working = true) :
    P (l.foldl f s) ∧ (l.foldl f s).member = s.member := by
  induction l generalizing s with
  | nil => exact ⟨hs, rfl⟩
  | cons a l ih =>
    obtain ⟨h1, h2⟩ := ih (hf s a hs hw) (by rw [hm]; exact hw)
    exact ⟨h1, h2.trans (hm s a)⟩

theorem expireRun_member (s : State) (n : ChannelIx) : (s.expireRun n).member = s.member := by
  unfold State.expireRun
  repeat' split
  all_goals first | rfl | exact ((switchOff_work s n).trans (judge_work _)).member

theorem workTick (K : KeepsEvents P) {s : State} (hs : P s) (hw : s.member.state.working = true) : P s.workTick := by
  have hcount := K.counted s hs hw
  obtain ⟨hexp, hmem⟩ := foldl_working (P := P)
    (f := fun t n => if (Channel.runOut (State.channel { s with channels := s.channels.map Channel.counted } n)) then
      t.expireRun n else t)
    (fun t n ht htw => by
      split
      · exact K.expireRun n ht htw
      · exact ht)
    (fun t n => by
      split
      · exact expireRun_member t n
      · rfl) allEight hcount hw
  have hread : ∀ t, P t → P (allEight.foldl (fun t n => t.readInput n s.pins[n]) t) := by
    intro t ht
    generalize allEight = l
    induction l generalizing t with
    | nil => exact ht
    | cons n l ih => exact ih _ (K.readInput n _ ht)
  unfold State.workTick
  refine K.tickMute (K.tickBeacon (hread _ ?_))
  split
  · exact K.moves (judge_moves _) hexp (by rw [hmem]; exact hw)
  · exact hexp

theorem tick (K : KeepsEvents P) {s : State} (hs : P s) : P s.tick := by
  unfold State.tick
  split
  · exact hs
  · rename_i h; exact K.workTick hs (by rw [h]; rfl)
  · rename_i h; exact K.workTick hs (by rw [h]; rfl)
  · rename_i h; exact K.workTick hs (by rw [h]; rfl)
  · rename_i h
    refine K.blink s _ hs h (Nat.mod_lt _ ?_)
    simp only [blinkCycle, Config.blinkGap]
    omega

theorem tickPeriod (K : KeepsEvents P) {s : State} (hs : P s) : P s.tickPeriod := by
  unfold State.tickPeriod
  split
  · exact K.tick (K.divides s 0 true hs (by decide) fun _ => rfl)
  · rename_i h
    exact K.divides s _ false hs (Nat.not_le.1 h) nofun

/-- The bits a read has once its next period has passed. -/
theorem length_sampled (p : Nat) (level : Bool) {bits : List Bool} (h : bits.length = (p + 4) / 8 - 24) :
    (sampled (p + 1) level bits).length = (p + 1 + 4) / 8 - 24 := by
  have hc : readCommand.length = 24 := by decide
  unfold sampled
  split
  · rename_i hs
    simp only [samplesAt, hc, Config.clockPeriods, Bool.and_eq_true, beq_iff_eq, decide_eq_true_eq] at hs
    simp only [List.length_append, List.length_singleton]
    omega
  · rename_i hs
    simp only [samplesAt, hc, Config.clockPeriods, Bool.and_eq_true, beq_iff_eq, decide_eq_true_eq] at hs
    omega

theorem startRetry (K : KeepsEvents P) {s : State} (hs : P s) (hl : s.isLoading = true) : P s.startRetry := by
  refine K.loads s _ hs hl fun _ => ⟨Nat.le_refl 2, ?_, nofun⟩
  rintro p bits h
  cases h
  exact ⟨by decide, rfl⟩

theorem loaderPeriod (K : KeepsEvents P) {s : State} (hs : P s) : P s.loaderPeriod := by
  unfold State.loaderPeriod
  split
  case isFalse => exact hs
  case isTrue hl =>
    split
    · rename_i p bits ha
      split
      · exact K.readEnds s _ hs hl
      · rename_i hp
        refine K.loads s _ hs hl fun ⟨h2, hr, _⟩ => ⟨h2, ?_, nofun⟩
        rintro q bits' h
        cases h
        exact ⟨Nat.not_le.1 hp, length_sampled p _ (hr p bits ha).2⟩
    · rename_i p ha
      split
      · exact K.startRetry hs hl
      · rename_i hp
        refine K.loads s _ hs hl fun ⟨h2, _, _⟩ => ⟨h2, nofun, ?_⟩
        rintro q h
        cases h
        exact Nat.not_le.1 hp
    · exact hs

variable {Q : State → Prop}

/-- One oscillator period keeps the predicate; P is what holds before the calendar may have moved, Q after. -/
theorem oscillatorPeriod (K : KeepsEvents P) (L : KeepsEvents Q) (hPQ : ∀ s, P s → Q s)
    (hfraction : ∀ s, P s → s.calendarCounts = true → Q s.fractionStep) {s : State} (hs : P s) :
    Q s.oscillatorPeriod := by
  unfold State.oscillatorPeriod
  split
  · exact hPQ s hs
  · rename_i h
    split
    · exact hPQ _ (K.waitEnds s hs h)
    · rename_i hp
      exact hPQ _ (K.waits s _ hs h (Nat.not_le.1 hp))
  · refine L.tickPeriod ?_
    have hl := K.loaderPeriod hs
    unfold State.phasePeriod
    split
    · rename_i hc
      split
      · exact hfraction _ hl hc
      · rename_i hp
        exact hPQ _ (K.phases _ _ hl (Nat.not_le.1 hp))
    · exact hPQ _ hl

/-! ### The commands -/

theorem online_of_part {s : State} (h : s.part ≠ .apart) : s.member.state.online = true ∧ s.part = s.line.activity := by
  unfold State.part at *
  split
  · exact ⟨‹_›, rfl⟩
  · rename_i ho
    exact absurd (if_neg ho) h

/-- Executing a command that is no reset onset keeps the predicate. -/
theorem exec (K : KeepsEvents P) (hPQ : ∀ s, P s → Q s)
    (hadjust : ∀ s v restart, P s → s.member.state.online = true → Q (s.adjustTime v restart))
    (hfraction : ∀ s, P s → s.calendarCounts = true → Q s.fractionStep) {c : Instr} {s t : State}
    (hc : ∀ k, c ≠ .resetOnset k) (hs : P s) (h : Machine.exec c s = .next t) : Q t := by
  have online : ∀ a, s.part = a → a ≠ .apart → s.member.state.online = true ∧ s.line.activity = a := by
    intro a ha hne
    obtain ⟨ho, hp⟩ := online_of_part (s := s) (by rw [ha]; exact hne)
    exact ⟨ho, hp.symm.trans ha⟩
  have after : ∀ {f part}, s.partakes f part → (s.afterFrame f part).member.state.online = true := by
    intro f part hp
    rw [afterFrame_member]; exact hp.1
  cases c
  case resetOnset k => exact absurd rfl (hc k)
  all_goals cases h
  case resetEnd kind =>
    refine hPQ _ ?_
    split
    · rename_i hr
      dsimp only
      split
      · exact K.releases s _ hs hr.1
      · exact K.starts s _ hs hr.1
    · exact hs
  case oscillatorStartWaitEnd =>
    refine hPQ _ ?_
    split
    · exact K.waitEnds s hs ‹_›
    · exact hs
  case retryReadStart =>
    refine hPQ _ ?_
    split
    · rename_i hr
      exact K.startRetry hs (Bool.and_eq_true_iff.1 hr).1
    · exact hs
  case readEnd bytes =>
    refine hPQ _ ?_
    split
    · rename_i hr
      exact K.readEnds s bytes hs (Bool.and_eq_true_iff.1 hr).1
    · exact hs
  case lineIdle =>
    refine hPQ _ ?_
    split
    · rename_i hp
      exact K.quiet s _ _ s.line.buffer s.line.courtesyGap hs (online _ hp nofun).1 (.inr (.inl rfl))
    · exact hs
  case courtesyGapEnd =>
    refine hPQ _ ?_
    split
    · rename_i hp
      split
      · obtain ⟨ho, ha⟩ := online _ hp nofun
        have hq := K.quiet s .idle Config.courtesyBits s.line.buffer false hs ho (.inr (.inl rfl))
        rw [← ha] at hq
        exact hq
      · exact hs
    · exact hs
  case startOfFrame cause =>
    refine hPQ _ ?_
    split
    · rename_i hp
      obtain ⟨ho, ha⟩ := online _ hp nofun
      cases cause with
      | ownStart =>
        change P s.startOwn
        unfold State.startOwn
        split
        · exact hs
        · exact K.startChosen 3 hs ho
      | otherStation => exact K.quiet _ _ _ _ _ (K.records s hs ho) ho (.inr (.inr rfl))
    · exact hs
  case arbitrationLost bit =>
    refine hPQ _ ?_
    split
    · rename_i o f hp
      obtain ⟨ho, ha⟩ := online _ hp nofun
      split
      · have hq := K.quiet s .receiving s.line.idleCount (f.readUpTo bit.val) s.line.courtesyGap hs ho (.inr (.inr rfl))
        exact K.moves (sourceLost_moves _ o) hq (MemberState.working_of_online ho)
      · exact hs
    · exact hs
  case attemptAborted bit =>
    refine hPQ _ ?_
    split
    · rename_i o f hp
      obtain ⟨ho, ha⟩ := online _ hp nofun
      split
      · exact K.fails s o f _ _ hs ho ha (.inl rfl)
      · exact hs
    · exact hs
  case frameTruncated =>
    refine hPQ _ ?_
    split
    · rename_i hp
      exact K.quiet s _ _ _ s.line.courtesyGap hs (online _ hp nofun).1 (.inl rfl)
    · exact hs
  case frameVetoed read =>
    refine hPQ _ ?_
    split
    · rename_i o f hp
      obtain ⟨ho, ha⟩ := online _ hp nofun
      refine K.fails _ o f _ _ (K.counts s _ hs ?_) ho ha (.inr rfl)
      exact fun ⟨h1, h2, h3, h4, h5⟩ => ⟨h1, h2, h3, Nat.min_le_left _ _, h5⟩
    · rename_i hp
      obtain ⟨ho, ha⟩ := online _ hp nofun
      split
      · exact K.vetoes s _ hs ho
      · split
        · exact K.quiet s _ _ _ s.line.courtesyGap hs ho (.inl rfl)
        · exact hs
    · exact hs
  case beaconAccepted head payload =>
    refine K.acceptFrame hPQ hs fun part hp _ _ ha => ?_
    rw [applyBeacon_eq]
    have hb := K.beacon _ (beaconFields payload) head.source.toNat part.isSome ha (after hp) (afterFrame_activity s _ _)
    split
    · exact hadjust _ _ _ hb (beaconSettled_online _ _ _ (after hp))
    · exact hPQ _ hb
  case claimAccepted head payload =>
    exact K.acceptFrame hPQ hs fun part hp hn hj _ => hPQ _ (K.claim s _ part _ _ _ hs hp hn hj rfl)
  case releaseAccepted head payload =>
    refine K.acceptFrame hPQ hs fun part hp hn hj _ => hPQ _ (K.release s _ part _ hs hp hn hj rfl fun n h => ?_)
    exact channelLow_of_releasePayload h
  case renewAccepted head payload =>
    refine K.acceptFrame hPQ hs fun part hp _ hj ha => hPQ _ ?_
    obtain ⟨h1, h62⟩ := source_of_passesJudgements hj
    exact K.renew _ _ _ _ ha (after hp) h1 h62
  case inhibitAccepted head payload =>
    exact K.acceptFrame hPQ hs fun part hp _ _ ha =>
      hPQ _ (K.masks _ _ ha (MemberState.working_of_online (after hp)))
  case timesetAccepted head payload =>
    exact K.acceptFrame hPQ hs fun part hp _ _ ha => hadjust _ _ _ ha (after hp)
  case demandAccepted head payload =>
    refine K.acceptFrame hPQ hs fun part hp _ _ ha => hPQ _ ?_
    have hw := MemberState.working_of_online (after hp)
    unfold State.applyDemand
    split
    · split
      · exact K.moves (actOnGroup_moves _ _ _ _ _) ha hw
      · split
        · exact K.moves (act_moves _ _ _ _ _) ha hw
        · exact ha
    · exact ha
  case queryAccepted head payload =>
    exact K.acceptFrame hPQ hs fun part hp _ _ ha => hPQ _ (K.query _ _ _ _ ha (after hp))
  case reportAccepted head payload =>
    exact K.acceptFrame hPQ hs fun part hp _ _ ha => hPQ _ ha
  case undefinedKindAccepted head kind payload =>
    exact K.acceptFrame hPQ hs fun part hp _ _ ha => hPQ _ ha
  case beaconTimerExpiry =>
    refine hPQ _ ?_
    split
    · rename_i hr
      exact K.expireBeaconTimer hs (Bool.and_eq_true_iff.1 hr).1
    · exact hs
  case muteTimerExpiry =>
    refine hPQ _ ?_
    split
    · exact K.leaveMute hs ‹_›
    · exact hs
  case runAllowanceExpiry n =>
    refine hPQ _ ?_
    split
    · exact K.expireRun n hs ‹_›
    · exact hs
  case restEnd n =>
    refine hPQ _ ?_
    split
    · exact K.endRest n hs ‹_›
    · exact hs
  case inputLevelChange n high =>
    refine hPQ _ ?_
    have hp := K.pin s n high hs
    split
    · unfold State.noticeLevel
      split
      · exact hp
      · exact K.readInput n high hp
    · exact hp
  case debounceExpiry n =>
    refine hPQ _ ?_
    split
    · rename_i hr
      simp only [Bool.and_eq_true] at hr
      exact K.takeLevel n _ hs hr.1.1
    · exact hs
  case fractionStep =>
    split
    · exact hfraction s hs ‹_›
    · exact hPQ _ hs
  case statusBlink =>
    refine hPQ _ ?_
    split
    · exact K.blink s _ hs ‹_› (nextBlinkChange_lt _ _)
    · exact hs
  case vetoedFrameAcceptedByLine read =>
    refine hPQ _ ?_
    split
    · rename_i hp
      split
      · exact K.vetoes s _ hs (online _ hp nofun).1
      · exact hs
    · exact hs
  case lineDominantBeforeIdle =>
    refine hPQ _ ?_
    split
    · rename_i hp
      obtain ⟨ho, ha⟩ := online _ hp nofun
      have hq := K.quiet s .counting 0 s.line.buffer s.line.courtesyGap hs ho (.inl rfl)
      rw [← ha] at hq
      exact hq
    · exact hs

end KeepsEvents
end Sys2Proof.Machine
end

section
/-! PROOFS. What the frames do to a sound holding table: evaluation, displacement, promotion, renewal and ageing, each
with its derived quantities, and that each keeps the table sound. -/

namespace Sys2Proof.Machine

/-! ## Sums over the table -/

theorem unitsWhere_congr {p q : Holding → Bool} {t : List Holding} (h : ∀ r ∈ t, p r = q r) :
    unitsWhere p t = unitsWhere q t := by
  unfold unitsWhere
  rw [List.filter_congr h]

/-- A change that keeps units carries a sum to the records the test holds of after the change. -/
theorem unitsWhere_map (p : Holding → Bool) {f : Holding → Holding} (hf : ∀ r, (f r).units = r.units)
    (t : List Holding) : unitsWhere p (t.map f) = unitsWhere (fun r => p (f r)) t := by
  have hu : Holding.units ∘ f = Holding.units := funext hf
  unfold unitsWhere
  rw [List.filter_map, List.map_map, hu]
  rfl

theorem unitsWhere_split (p q : Holding → Bool) (t : List Holding) :
    unitsWhere p t = unitsWhere (fun r => p r && q r) t + unitsWhere (fun r => p r && !q r) t := by
  unfold unitsWhere
  induction t with
  | nil => rfl
  | cons r t ih =>
    cases hp : p r <;> cases hq : q r <;> simp [hp, hq, ih]
    all_goals omega

/-- The sum over the records of a sublist without repetition is its own sum. -/
theorem unitsWhere_mem {t vs : List Holding} (ht : t.Nodup) (hv : vs.Nodup) (h : ∀ r ∈ vs, r ∈ t) :
    unitsWhere (fun r => decide (r ∈ vs)) t = (vs.map Holding.units).sum := by
  refine (((List.perm_ext_iff_of_nodup (ht.filter _) hv).2 fun r => ?_).map Holding.units).sum_eq
  simp only [List.mem_filter, decide_eq_true_eq]
  exact ⟨fun hr => hr.2, fun hr => ⟨h r hr, hr⟩⟩

theorem length_filter_le_of_imp {p q : Holding → Bool} {t : List Holding} (h : ∀ r ∈ t, p r = true → q r = true) :
    (t.filter p).length ≤ (t.filter q).length := by
  rw [← List.countP_eq_length_filter, ← List.countP_eq_length_filter]
  exact List.countP_mono_left h

theorem pendingPresent_iff (t : List Holding) : pendingPresent t = true ↔ ∃ r ∈ t, r.state = .pending := by
  simp [pendingPresent]

theorem pendingPresent_eq_false (t : List Holding) : pendingPresent t = false ↔ ∀ r ∈ t, r.state ≠ .pending := by
  simp [pendingPresent]

/-! ## Evaluation of a CLAIM -/

/-- The keys of an ordered table tell its records apart. -/
theorem tableOrdered.eq_of_key {t : List Holding} (h : tableOrdered t) {a b : Holding} (ha : a ∈ t) (hb : b ∈ t)
    (hk : a.key = b.key) : a = b := by
  have hne : ∀ x y : Holding, x.before y = true → x.key ≠ y.key := by
    rintro x y hxy he
    simp only [Holding.key, Prod.mk.injEq] at he
    simp [Holding.before_iff, he.1, he.2] at hxy
  unfold tableOrdered at h
  induction t with
  | nil => cases ha
  | cons x xs ih =>
    rw [List.pairwise_cons] at h
    rcases List.mem_cons.1 ha with rfl | ha' <;> rcases List.mem_cons.1 hb with rfl | hb'
    · rfl
    · exact absurd hk (hne _ _ (h.1 b hb'))
    · exact absurd hk.symm (hne _ _ (h.1 a ha'))
    · exact ih h.2 ha' hb'

/-- A record with a key of its own is the one that is found. -/
theorem findHolding_of_mem {t : List Holding} (h : tableOrdered t) {r : Holding} (hr : r ∈ t) :
    findHolding r.holder r.channel t = some r := by
  have hs : (findHolding r.holder r.channel t).isSome = true := (findHolding_isSome _ _ _).2 ⟨r, hr, rfl, rfl⟩
  obtain ⟨x, hx⟩ := Option.isSome_iff_exists.1 hs
  obtain ⟨hm, h1, h2⟩ := findHolding_some hx
  rw [hx, h.eq_of_key hm hr (Prod.ext h1 h2)]

/-- A change of state or lease that depends on the record keeps which keys there are. -/
theorem findHolding_map_eq_none {f : Holding → Holding} (hf : ∀ r, (f r).key = r.key) (holder : Nat)
    (channel : ChannelIx) (t : List Holding) :
    findHolding holder channel (t.map f) = none ↔ findHolding holder channel t = none := by
  have hk (r : Holding) : (f r).holder = r.holder ∧ (f r).channel = r.channel := by simpa [Holding.key] using hf r
  simp [findHolding_eq_none, hk]

/-- A record as a displacement leaves it (R15). -/
def Holding.shedIn (vs : List Holding) (r : Holding) : Holding := if r ∈ vs then { r with state := .shedding } else r

theorem Holding.shedIn_of_mem {vs : List Holding} {r : Holding} (h : r ∈ vs) :
    r.shedIn vs = { r with state := .shedding } := if_pos h

theorem Holding.shedIn_of_not_mem {vs : List Holding} {r : Holding} (h : r ∉ vs) : r.shedIn vs = r := if_neg h

theorem Holding.key_shedIn (vs : List Holding) (r : Holding) : (r.shedIn vs).key = r.key := by
  unfold Holding.shedIn; split <;> rfl

theorem Holding.units_shedIn (vs : List Holding) (r : Holding) : (r.shedIn vs).units = r.units := by
  unfold Holding.shedIn; split <;> rfl

theorem Holding.reserved_shedIn (vs : List Holding) (r : Holding) :
    (r.shedIn vs).reserved = (r.reserved && !decide (r ∈ vs)) := by
  by_cases h : r ∈ vs <;> simp [Holding.shedIn, h, Holding.reserved]

/-- Marking by the victims' keys marks the victims and no other record. -/
theorem markShedding_eq {t vs : List Holding} (h : tableOrdered t) (hv : ∀ r ∈ vs, r ∈ t) :
    markShedding (vs.map Holding.key) t = t.map (Holding.shedIn vs) := by
  refine List.map_congr_left fun r hr => ?_
  have : ((vs.map Holding.key).contains r.key = true) ↔ r ∈ vs := by
    simp only [List.contains_iff_mem, List.mem_map]
    exact ⟨fun ⟨v, hv', hk⟩ => h.eq_of_key (hv v hv') hr hk ▸ hv', fun hr' => ⟨r, hr', rfl⟩⟩
  by_cases hm : r ∈ vs
  · rw [if_pos (this.2 hm), Holding.shedIn_of_mem hm]
  · rw [if_neg (fun hc => hm (this.1 hc)), Holding.shedIn_of_not_mem hm]

/-- The victims a walk stops with: HELD records of the table, without repetition. -/
theorem victims_of_walk {t vs : List Holding} {u free : Nat} (h : tableOrdered t)
    (hw : walkVictims u free (victimOrder t) = some vs) :
    vs <+: victimOrder t ∧ u ≤ free + (vs.map Holding.units).sum ∧ (∀ r ∈ vs, r ∈ t ∧ r.state = .held) ∧ vs.Nodup := by
  obtain ⟨hp, hu⟩ := walkVictims_spec hw
  refine ⟨hp, hu, fun r hr => ?_, (victimOrder_nodup h).sublist hp.sublist⟩
  obtain ⟨ht, hs, -⟩ := (mem_victimOrder r t).1 (hp.subset hr)
  exact ⟨ht, hs⟩

/-- The victims' units leave the reserved units. -/
theorem reservedUnits_shedIn {t vs : List Holding} (h : tableOrdered t) (hv : ∀ r ∈ vs, r ∈ t ∧ r.state = .held)
    (hn : vs.Nodup) : reservedUnits (t.map (Holding.shedIn vs)) + (vs.map Holding.units).sum = reservedUnits t := by
  have hall : unitsWhere (fun r => r.reserved && decide (r ∈ vs)) t = unitsWhere (fun r => decide (r ∈ vs)) t := by
    refine unitsWhere_congr fun r _ => ?_
    by_cases hr : r ∈ vs
    · simp [hr, Holding.reserved, (hv r hr).2]
    · simp [hr]
  unfold reservedUnits
  rw [unitsWhere_map _ (Holding.units_shedIn vs), unitsWhere_congr fun r _ => Holding.reserved_shedIn vs r,
    unitsWhere_split Holding.reserved (fun r => decide (r ∈ vs)), hall,
    unitsWhere_mem h.nodup hn fun r hr => (hv r hr).1]
  omega

/-- A victim's units stay on. -/
theorem onUnitsSum_shedIn {t vs : List Holding} (hv : ∀ r ∈ vs, r ∈ t ∧ r.state = .held) :
    onUnitsSum (t.map (Holding.shedIn vs)) = onUnitsSum t := by
  unfold onUnitsSum
  rw [unitsWhere_map _ (Holding.units_shedIn vs)]
  refine unitsWhere_congr fun r _ => ?_
  by_cases hr : r ∈ vs
  · simp only [Holding.shedIn_of_mem hr, Holding.onUnits, (hv r hr).2]
    decide
  · rw [Holding.shedIn_of_not_mem hr]

/-- What an evaluation can do: the table stands, or a HELD record that fits is inserted, or victims are marked and a
PENDING record is inserted (R12, R15). -/
theorem evaluateClaim_cases (budget lease : Nat) (t : List Holding) (s : Nat) (c : ChannelIx) (u : Nat) (p : Class)
    (d : Bool) :
    let ev := evaluateClaim budget lease t s c u p d
    (ev.table = t ∧ ev.victims = [] ∧ (ev.result = .noBudget ∨ ev.result = .full ∨ ev.result = .duplicate)) ∨
      (findHolding s c t = none ∧ t.length < Config.tableCapacity ∧ u ≤ freeUnits budget t ∧
        ev = { result := .granted
               table := insertHolding
                 { holder := s, channel := c, units := u, cls := p, state := .held, lease := lease } t
               victims := [] }) ∨
      (findHolding s c t = none ∧ t.length < Config.tableCapacity ∧ freeUnits budget t < u ∧ p = .urgent ∧ d = true ∧
        pendingPresent t = false ∧ ∃ vs, walkVictims u (freeUnits budget t) (victimOrder t) = some vs ∧
          ev = { result := .displacing
                 table := insertHolding
                   { holder := s, channel := c, units := u, cls := .urgent, state := .pending, lease := lease }
                   (markShedding (vs.map Holding.key) t)
                 victims := vs.map Holding.key }) := by
  dsimp only
  unfold evaluateClaim
  split
  · exact .inl ⟨rfl, rfl, .inr (.inr rfl)⟩
  · rename_i h1
    have hn : findHolding s c t = none := by simpa using h1
    split
    · exact .inl ⟨rfl, rfl, .inr (.inl rfl)⟩
    · rename_i h2
      split
      · exact .inr (.inl ⟨hn, Nat.not_le.1 h2, ‹_›, rfl⟩)
      · rename_i h3
        split
        · rename_i h4
          simp only [Bool.and_eq_true, beq_iff_eq, Bool.not_eq_true'] at h4
          obtain ⟨⟨hd, hp⟩, hpend⟩ := h4
          split
          · rename_i vs hw
            exact .inr (.inr ⟨hn, Nat.not_le.1 h2, Nat.not_le.1 h3, hp, hd, hpend, vs, hw, rfl⟩)
          · exact .inl ⟨rfl, rfl, .inl rfl⟩
        · exact .inl ⟨rfl, rfl, .inl rfl⟩

/-! ## Soundness -/

theorem tableSound_nil (budget lease : Nat) : tableSound budget lease [] :=
  ⟨List.Pairwise.nil, Nat.zero_le _, Nat.zero_le _, Nat.zero_le _, nofun⟩

/-- The number of PENDING records. -/
def pendingCount (t : List Holding) : Nat := (t.filter fun r => r.state == .pending).length

theorem pendingCount_eq_zero {t : List Holding} (h : pendingPresent t = false) : pendingCount t = 0 := by
  rw [pendingPresent_eq_false] at h
  simpa [pendingCount, List.filter_eq_nil_iff] using h

theorem pendingCount_insertHolding (r : Holding) (t : List Holding) :
    pendingCount (insertHolding r t) = pendingCount t + if r.state = .pending then 1 else 0 := by
  unfold pendingCount
  rw [((insertHolding_perm r t).filter _).length_eq, List.filter_cons]
  by_cases h : r.state = .pending <;> simp [h]

theorem reservedUnits_insertHolding {r : Holding} (hr : r.reserved = true) (t : List Holding) :
    reservedUnits (insertHolding r t) = reservedUnits t + r.units := by
  unfold reservedUnits
  rw [unitsWhere_insertHolding, if_pos hr]

/-- Inserting a record that fits keeps the table sound. -/
theorem tableSound.insert {budget lease : Nat} {t : List Holding} (h : tableSound budget lease t) {r : Holding}
    (hn : findHolding r.holder r.channel t = none) (hl : t.length < Config.tableCapacity)
    (hp : r.state = .pending → pendingPresent t = false) (hr : r.reserved = true)
    (hu : reservedUnits t + r.units ≤ budget) (hf : r.inRange lease) :
    tableSound budget lease (insertHolding r t) := by
  obtain ⟨ho, -, hc, -, hall⟩ := h
  refine ⟨insertHolding_ordered ho hn, ?_, ?_, ?_, ?_⟩
  · rw [length_insertHolding]; exact hl
  · change pendingCount _ ≤ 1
    rw [pendingCount_insertHolding]
    split
    · rw [pendingCount_eq_zero (hp ‹_›)]
    · exact hc
  · rwa [reservedUnits_insertHolding hr]
  · intro x hx
    rcases (mem_insertHolding r x t).1 hx with rfl | hx
    · exact hf
    · exact hall x hx

/-- Removing records keeps the table sound. -/
theorem tableSound.filter {budget lease : Nat} {t : List Holding} (h : tableSound budget lease t) (p : Holding → Bool) :
    tableSound budget lease (t.filter p) := by
  obtain ⟨ho, hl, hc, hu, hall⟩ := h
  refine ⟨ho.filter p, (List.length_filter_le p t).trans hl, ?_, (unitsWhere_filter_le _ _ _).trans hu, ?_⟩
  · rw [List.filter_comm]
    exact (List.length_filter_le _ _).trans hc
  · exact fun r hr => hall r (List.mem_of_mem_filter hr)

/-- Changing the records in place, no unit more reserved and no record more PENDING, keeps the table sound. -/
theorem tableSound.map {budget lease : Nat} {t : List Holding} (h : tableSound budget lease t) {f : Holding → Holding}
    (hk : ∀ r, (f r).key = r.key) (hunits : ∀ r, (f r).units = r.units)
    (hp : ∀ r, (f r).state = .pending → r.state = .pending) (hr : ∀ r, (f r).reserved = true → r.reserved = true)
    (hf : ∀ r ∈ t, (f r).inRange lease) : tableSound budget lease (t.map f) := by
  obtain ⟨ho, hl, hc, hu, -⟩ := h
  refine ⟨map_ordered hk ho, by rwa [List.length_map], ?_, ?_, ?_⟩
  · rw [List.filter_map, List.length_map]
    refine (length_filter_le_of_imp fun r _ hr => ?_).trans hc
    simpa using hp r (by simpa using hr)
  · refine Nat.le_trans ?_ hu
    unfold reservedUnits
    rw [unitsWhere_map _ hunits, unitsWhere_split Holding.reserved fun r => (f r).reserved]
    have : unitsWhere (fun r => (f r).reserved) t = unitsWhere (fun r => r.reserved && (f r).reserved) t := by
      refine unitsWhere_congr fun r _ => ?_
      cases hq : (f r).reserved
      · simp
      · simp [hr r hq]
    omega
  · intro x hx
    obtain ⟨r, hrt, rfl⟩ := List.mem_map.1 hx
    exact hf r hrt

/-- An evaluation keeps the table sound (R4, R12, R15). -/
theorem tableSound.evaluateClaim {budget lease : Nat} {t : List Holding} (h : tableSound budget lease t) {s : Nat}
    (c : ChannelIx) {u : Nat} (p : Class) (d : Bool) (hs : 1 ≤ s ∧ s ≤ 62) (hu : unitsInRange u = true)
    (hl : 1 ≤ lease) : tableSound budget lease (Machine.evaluateClaim budget lease t s c u p d).table := by
  have hu' : 1 ≤ u ∧ u ≤ Config.unitsMax := by simpa [unitsInRange] using hu
  obtain ⟨ho, hlen, hc, hres, hall⟩ := id h
  have hcases := evaluateClaim_cases budget lease t s c u p d
  dsimp only at hcases
  rcases hcases with ⟨ht, -, -⟩ | ⟨hn, hcap, hfree, he⟩ | ⟨hn, hcap, -, -, -, hpend, vs, hw, he⟩
  · rw [ht]; exact h
  · rw [he]
    refine h.insert hn hcap nofun rfl ?_ ⟨hs.1, hs.2, hu'.1, hu'.2, hl, Nat.le_refl _⟩
    unfold freeUnits at hfree
    change reservedUnits t + u ≤ budget
    omega
  · rw [he]
    obtain ⟨-, hsum, hv, hnd⟩ := victims_of_walk ho hw
    rw [markShedding_eq ho fun r hr => (hv r hr).1]
    have hmark : tableSound budget lease (t.map (Holding.shedIn vs)) := by
      refine h.map (Holding.key_shedIn vs) (Holding.units_shedIn vs) ?_ ?_ ?_
      · intro r hr
        by_cases hm : r ∈ vs
        · rw [Holding.shedIn_of_mem hm] at hr; cases hr
        · rwa [Holding.shedIn_of_not_mem hm] at hr
      · intro r hr
        rw [Holding.reserved_shedIn] at hr
        exact (Bool.and_eq_true_iff.1 hr).1
      · intro r hr
        by_cases hm : r ∈ vs
        · rw [Holding.shedIn_of_mem hm]; exact hall r hr
        · rw [Holding.shedIn_of_not_mem hm]; exact hall r hr
    have hunits := reservedUnits_shedIn ho hv hnd
    refine hmark.insert ((findHolding_map_eq_none (Holding.key_shedIn vs) _ _ _).2 hn) (by rwa [List.length_map]) ?_ rfl
      ?_ ⟨hs.1, hs.2, hu'.1, hu'.2, hl, Nat.le_refl _⟩
    · intro _
      rw [pendingPresent_eq_false] at hpend ⊢
      intro x hx
      obtain ⟨r, hr, rfl⟩ := List.mem_map.1 hx
      by_cases hm : r ∈ vs
      · rw [Holding.shedIn_of_mem hm]; nofun
      · rw [Holding.shedIn_of_not_mem hm]; exact hpend r hr
    · unfold freeUnits at hsum
      change reservedUnits (t.map (Holding.shedIn vs)) + u ≤ budget
      omega

/-! ## Promotion, ageing and renewal -/

/-- A record with its PENDING state HELD (R25). -/
def Holding.promoted (r : Holding) : Holding := if r.state == .pending then { r with state := .held } else r

theorem promoteTable_eq (t : List Holding) : promoteTable t = t.map Holding.promoted := rfl

theorem Holding.promoted_key (r : Holding) : r.promoted.key = r.key := by
  unfold Holding.promoted; split <;> rfl

theorem Holding.promoted_units (r : Holding) : r.promoted.units = r.units := by
  unfold Holding.promoted; split <;> rfl

theorem Holding.promoted_state (r : Holding) :
    r.promoted.state = if r.state = .pending then .held else r.state := by
  unfold Holding.promoted
  by_cases h : r.state = .pending <;> simp [h]

theorem Holding.promoted_reserved (r : Holding) : r.promoted.reserved = r.reserved := by
  unfold Holding.reserved
  rw [Holding.promoted_state]
  cases r.state <;> rfl

theorem tableSound.promote {budget lease : Nat} {t : List Holding} (h : tableSound budget lease t) :
    tableSound budget lease (promoteTable t) := by
  rw [promoteTable_eq]
  refine h.map Holding.promoted_key Holding.promoted_units (fun r hr => ?_)
    (fun r hr => by rwa [Holding.promoted_reserved] at hr) fun r hr => ?_
  · rw [Holding.promoted_state] at hr
    split at hr
    · cases hr
    · exact hr
  · have := h.2.2.2.2 r hr
    unfold Holding.promoted
    split <;> exact this

theorem promotionCheck_table (budget : Nat) (t : List Holding) :
    (promotionCheck budget t).1 = t ∨ (promotionCheck budget t).1 = promoteTable t := by
  unfold promotionCheck
  split
  · exact .inr rfl
  · exact .inl rfl

theorem tableSound.promotionCheck {budget lease : Nat} {t : List Holding} (h : tableSound budget lease t) :
    tableSound budget lease (Machine.promotionCheck budget t).1 := by
  rcases promotionCheck_table budget t with ht | ht <;> rw [ht]
  · exact h
  · exact h.promote

/-- The record that a promotion check promotes stands HELD in the table after it. -/
theorem promotionCheck_held {budget : Nat} {t : List Holding} {r : Holding}
    (h : (promotionCheck budget t).2 = some r) :
    r ∈ t ∧ r.state = .pending ∧ { r with state := .held } ∈ (promotionCheck budget t).1 := by
  unfold promotionCheck at *
  split at h
  · rename_i x hx
    cases h
    have hp : pendingRecord t = some r := by
      unfold promotionPasses at hx
      split at hx
      · split at hx
        · cases hx; assumption
        · cases hx
      · cases hx
    have hm := List.mem_of_find?_eq_some hp
    have hs : (r.state == .pending) = true := List.find?_some (p := fun r : Holding => r.state == .pending) hp
    refine ⟨hm, by simpa using hs, List.mem_map.2 ⟨r, hm, if_pos hs⟩⟩
  · cases h

/-- Ageing and the expiries at lease 0 keep the table sound: what is left has a lease of at least 1 (R20, R21). -/
theorem tableSound.age {budget lease : Nat} {t : List Holding} (h : tableSound budget lease t) :
    tableSound budget lease (liveRecords (ageTable t)) := by
  have hlive : liveRecords (ageTable t) =
      (t.filter fun r => r.lease - 1 != 0).map fun r => { r with lease := r.lease - 1 } := by
    unfold liveRecords ageTable
    rw [List.filter_map]
    rfl
  rw [hlive]
  refine (h.filter _).map (fun _ => rfl) (fun _ => rfl) (fun _ => id) (fun _ => id) fun r hr => ?_
  obtain ⟨hm, hl⟩ := List.mem_filter.1 hr
  obtain ⟨h1, h2, h3, h4, h5, h6⟩ := h.2.2.2.2 r hm
  have hl' : r.lease - 1 ≠ 0 := by simpa using hl
  exact ⟨h1, h2, h3, h4, by change 1 ≤ r.lease - 1; omega, by change r.lease - 1 ≤ lease; omega⟩

theorem tableSound.renewMatching {budget lease : Nat} {t : List Holding} (h : tableSound budget lease t)
    (holder : Nat) (e : RenewEntry) (hl : 1 ≤ lease) :
    tableSound budget lease (Machine.renewMatching lease holder t e) := by
  refine h.map (fun r => ?_) (fun r => ?_) (fun r => ?_) (fun r => ?_) fun r hr => ?_
  · split <;> rfl
  · split <;> rfl
  · split <;> exact id
  · split <;> exact id
  · obtain ⟨h1, h2, h3, h4, h5, h6⟩ := h.2.2.2.2 r hr
    split
    · exact ⟨h1, h2, h3, h4, hl, Nat.le_refl _⟩
    · exact ⟨h1, h2, h3, h4, h5, h6⟩

theorem length_removeHolding_lt {holder : Nat} {channel : ChannelIx} {t : List Holding}
    (h : (findHolding holder channel t).isSome = true) : (removeHolding holder channel t).length < t.length := by
  obtain ⟨r, hr, h1, h2⟩ := (findHolding_isSome _ _ _).1 h
  refine List.length_filter_lt_length_iff_exists.2 ⟨r, hr, ?_⟩
  simp [Holding.keyed, h1, h2]

theorem tableSound.renewLearning {budget lease : Nat} {t : List Holding} (h : tableSound budget lease t)
    {holder : Nat} {e : RenewEntry} (hs : 1 ≤ holder ∧ holder ≤ 62) (hu : unitsInRange e.units = true)
    (hl : 1 ≤ lease) : tableSound budget lease (Machine.renewLearning budget lease holder t e) := by
  have hu' : 1 ≤ e.units ∧ e.units ≤ Config.unitsMax := by simpa [unitsInRange] using hu
  unfold Machine.renewLearning
  dsimp only
  split
  · exact h
  · rename_i hc
    simp only [Bool.or_eq_true, Bool.and_eq_true, Bool.not_eq_true', decide_eq_true_eq, not_or, not_and,
      Nat.not_lt, Bool.not_eq_true] at hc
    obtain ⟨⟨hcap, hbud⟩, hpend⟩ := hc
    refine (h.filter fun r => !r.keyed holder e.channel).insert (findHolding_removeHolding _ _ _) ?_ ?_ ?_ hbud
      ⟨hs.1, hs.2, hu'.1, hu'.2, hl, Nat.le_refl _⟩
    · cases hf : (findHolding holder e.channel t).isSome
      · exact (List.length_filter_le _ _).trans_lt (Nat.not_le.1 (hcap hf))
      · exact (length_removeHolding_lt hf).trans_le h.2.1
    · intro hp
      cases he : e.pending
      · rw [he] at hp; cases hp
      · exact hpend he
    · cases e.pending <;> rfl

theorem tableSound.foldl {budget lease : Nat} {f : List Holding → RenewEntry → List Holding} {es : List RenewEntry}
    (hf : ∀ t, ∀ e ∈ es, tableSound budget lease t → tableSound budget lease (f t e)) {t : List Holding}
    (h : tableSound budget lease t) : tableSound budget lease (es.foldl f t) := by
  induction es generalizing t with
  | nil => exact h
  | cons e es ih =>
    exact ih (fun t x hx => hf t x (List.mem_cons_of_mem e hx)) (hf t e List.mem_cons_self h)

theorem usableEntries_units {payload : List Byte} {e : RenewEntry} (h : e ∈ usableEntries payload) :
    unitsInRange e.units = true := (List.mem_filter.1 h).2

end Sys2Proof.Machine
end

section
/-! PROOFS. What the compound operations write beside their claim work: MUTE, a failed attempt, a veto, a BEACON, the
end of a read. -/

namespace Sys2Proof.Machine

/-! ## What work leaves as it was -/

theorem ClaimWork.settings {s t : State} (h : ClaimWork s t) : t.settings = s.settings := by rw [← h]

theorem ClaimWork.report {s t : State} (h : ClaimWork s t) : t.report = s.report := by rw [← h]

theorem ClaimWork.calendar {s t : State} (h : ClaimWork s t) : t.calendar = s.calendar := by rw [← h]

theorem ClaimWork.lastMinute {s t : State} (h : ClaimWork s t) : t.lastMinute = s.lastMinute := by rw [← h]

theorem ClaimWork.commands {s t : State} (h : ClaimWork s t) : t.commands = s.commands := by rw [← h]

theorem ClaimWork.masks {s t : State} (h : ClaimWork s t) : t.masks = s.masks := by rw [← h]

theorem MaskWork.settings {s t : State} (h : MaskWork s t) : t.settings = s.settings := by rw [← h]

theorem MaskWork.phase {s t : State} (h : MaskWork s t) : t.phase = s.phase := by rw [← h]

theorem MaskWork.table {s t : State} (h : MaskWork s t) : t.table = s.table := by rw [← h]

theorem MaskWork.member {s t : State} (h : MaskWork s t) : t.member = s.member := by rw [← h]

/-! ## Claim work under the writes of other parts -/

/-- Claim work commutes with a write that reads and writes other parts alone. -/
theorem ClaimWork.under {s t : State} (h : ClaimWork s t) (g : State → State)
    (hg : ∀ (s : State) u cs o, g { s with claims := u, channels := cs, line := { s.line with offers := o } } =
      { g s with claims := u, channels := cs, line := { (g s).line with offers := o } }) :
    ClaimWork (g s) (g t) := by
  have ht := hg s t.claims t.channels t.line.offers
  rw [show ({ s with claims := t.claims, channels := t.channels, line := { s.line with offers := t.line.offers } } :
    State) = t from h] at ht
  unfold ClaimWork
  rw [ht]

theorem ClaimWork.setTable {s t : State} (h : ClaimWork s t) (u : List Holding) :
    ClaimWork (s.setTable u) (t.setTable u) := h.under (·.setTable u) fun _ _ _ _ => rfl

theorem ClaimWork.setMember {s t : State} (h : ClaimWork s t) (m : Membership → Membership) :
    ClaimWork (s.setMember (m s.member)) (t.setMember (m t.member)) :=
  h.under (fun s => s.setMember (m s.member)) fun _ _ _ _ => rfl

theorem ClaimWork.setReport {s t : State} (h : ClaimWork s t) (r : ReportUnit → ReportUnit) :
    ClaimWork (s.setReport (r s.report)) (t.setReport (r t.report)) :=
  h.under (fun s => s.setReport (r s.report)) fun _ _ _ _ => rfl

/-! ## MUTE -/

/-- The station in MUTE before the claim work of entering it (R74, R180): the table and the offers empty, the command
queue discarded and counted, the streaks 0, the mute timer running. -/
def State.muted (s : State) (faults : FaultSet) : State :=
  { s with
    table := []
    commands := { queue := [], headAttempts := 0 }
    line := { s.line.left with vetoStreak := 0, sendStreak := 0, courtesyGap := false }
    member := { s.member with
      state := .mute, beaconTimer := .stopped, witness := none, muteTimer := s.settings.mutePeriod }
    report := { s.report with
      faults := faults, attempts := 0
      counters := { s.report.counters with
        commandsDropped := raised s.report.counters.commandsDropped s.commands.queue.length } } }

/-- The station about to enter MUTE: the fault latched, and the command queue discarded and counted. -/
def State.muteDropped (s : State) (faults : FaultSet) : State :=
  ((s.setFaults faults).countDropped s.commands.queue.length).setCommands { queue := [], headAttempts := 0 }

/-- The channels at MUTE entry (table of R74). -/
def State.muteChannels (s : State) (faults : FaultSet) : State :=
  allEight.foldl State.muteChannel (s.muteDropped faults)

/-- The line left and the streaks back at 0. -/
def State.muteOff (s : State) (faults : FaultSet) : State :=
  (s.muteChannels faults).setLine
    { (s.muteChannels faults).line.left with vetoStreak := 0, sendStreak := 0, courtesyGap := false }

/-- The membership controller in MUTE, and no REPORT attempt counted (R74, R75). -/
def State.beginMute (s : State) : State :=
  (s.setMember { s.member with
    state := .mute, beaconTimer := .stopped, witness := none, muteTimer := s.settings.mutePeriod }).setReport
    { s.report with attempts := 0 }

/-- The station in MUTE before the claim unit judges. -/
def State.muteEntered (s : State) (faults : FaultSet) : State := (s.muteOff faults).clearTable.beginMute

theorem enterMute_eq (s : State) (faults : FaultSet) : s.enterMute faults = (s.muteEntered faults).judge := by
  simp only [State.enterMute, State.muteEntered, State.beginMute, State.muteOff, State.muteChannels, State.muteDropped]

theorem muteChannels_work (s : State) (faults : FaultSet) :
    ClaimWork (s.muteDropped faults) (s.muteChannels faults) :=
  ClaimWork.foldl muteChannel_work allEight _

theorem muteOff_work (s : State) (faults : FaultSet) :
    ClaimWork
      ((s.muteDropped faults).setLine
        { s.line.left with vetoStreak := 0, sendStreak := 0, courtesyGap := false }) (s.muteOff faults) := by
  have h := muteChannels_work s faults
  unfold State.muteOff
  generalize s.muteChannels faults = t at *
  unfold ClaimWork at *
  rw [← h]
  rfl

theorem beginMute_muteDropped (s : State) (faults : FaultSet) :
    State.beginMute (((s.muteDropped faults).setLine
      { s.line.left with vetoStreak := 0, sendStreak := 0, courtesyGap := false }).setTable []) = s.muted faults := by
  simp only [State.beginMute, State.muteDropped, State.muted, State.setLine, State.setTable, State.setMember,
    State.setReport, State.setCommands, State.countDropped, State.setCounters, State.setFaults]

theorem ClaimWork.beginMute {s t : State} (h : ClaimWork s t) : ClaimWork s.beginMute t.beginMute :=
  h.under State.beginMute fun _ _ _ _ => rfl

theorem muteEntered_work (s : State) (faults : FaultSet) : ClaimWork (s.muted faults) (s.muteEntered faults) := by
  have h := (((muteOff_work s faults).setTable []).trans (clearTable_work (s.muteOff faults))).beginMute
  rw [beginMute_muteDropped] at h
  unfold State.muteEntered
  exact h

/-- Entering MUTE is claim work beside its own writes. -/
theorem enterMute_work (s : State) (faults : FaultSet) : ClaimWork (s.muted faults) (s.enterMute faults) := by
  rw [enterMute_eq]
  exact (muteEntered_work s faults).trans (judge_work _)

/-! ## The end of an own attempt, and a veto -/

/-- What the source of a failed attempt can change. -/
theorem sourceFailed_frame (s : State) (o : Offer) :
    s.sourceFailed o =
      { s with
        claims := (s.sourceFailed o).claims, channels := (s.sourceFailed o).channels
        commands := (s.sourceFailed o).commands
        line := { s.line with offers := (s.sourceFailed o).line.offers }
        report := { s.report with
          attempts := (s.sourceFailed o).report.attempts
          counters := { s.report.counters with
            commandsDropped := (s.sourceFailed o).report.counters.commandsDropped } } } := by
  cases o with
  | claim =>
    unfold State.sourceFailed
    dsimp only
    split
    · rename_i c _
      have h := settleEndedAttempt_work s { c with attempts := c.attempts + 1, inFlight := false }
        (decide (Config.attemptLimit ≤ c.attempts + 1))
      rw [← h]
    · rfl
  | command => unfold State.sourceFailed; dsimp only; split <;> rfl
  | report => unfold State.sourceFailed; dsimp only; split <;> rfl
  | beacon => rfl
  | release n => rfl
  | renew => rfl

/-- The station at the end of a failed own attempt, before its source is told. -/
def State.attemptFailed (s : State) (activity : LineActivity) (buffer : List Bool) : State :=
  s.setLine
    { s.line with
      activity := activity, idleCount := 0, buffer := buffer, sendStreak := s.line.sendStreak + 1, courtesyGap := true }

/-- A failed attempt tells its source, and the sixteenth in a row enters MUTE (R180, R183). -/
theorem failAttempt_cases (s : State) (o : Offer) (a : LineActivity) (b : List Bool) :
    (s.line.sendStreak + 1 < 16 ∧ s.failAttempt o a b = (s.attemptFailed a b).sourceFailed o) ∨
      (16 ≤ s.line.sendStreak + 1 ∧ s.failAttempt o a b =
        ((s.attemptFailed a b).sourceFailed o).enterMute
          { ((s.attemptFailed a b).sourceFailed o).report.faults with mutedSend := true }) := by
  have hstreak : ((s.attemptFailed a b).sourceFailed o).line.sendStreak = s.line.sendStreak + 1 := by
    rw [sourceFailed_frame]; rfl
  have hf : s.failAttempt o a b = ((s.attemptFailed a b).sourceFailed o).muteOnSendStreak := rfl
  rw [hf, State.muteOnSendStreak, hstreak]
  split
  · exact .inr ⟨‹_›, rfl⟩
  · exact .inl ⟨Nat.not_le.1 ‹_›, rfl⟩

/-- The station once it has cast a veto. -/
def State.vetoCast (s : State) (buffer : List Bool) : State :=
  { s with
    line := { s.line with
      activity := .counting, idleCount := 0, buffer := buffer, vetoStreak := s.line.vetoStreak + 1 }
    report := { s.report with counters := { s.report.counters with
      vetoesCast := raised s.report.counters.vetoesCast 1 } } }

/-- A veto is counted, and the eighth in a row enters MUTE (R178, R180). -/
theorem castVeto_cases (s : State) (b : List Bool) :
    (s.line.vetoStreak + 1 < 8 ∧ s.castVeto b = s.vetoCast b) ∨
      (8 ≤ s.line.vetoStreak + 1 ∧ s.castVeto b =
        (s.vetoCast b).enterMute { (s.vetoCast b).report.faults with mutedVeto := true }) := by
  have hf : s.castVeto b = (s.vetoCast b).muteOnVetoStreak := rfl
  rw [hf, State.muteOnVetoStreak]
  split
  · exact .inr ⟨‹_›, rfl⟩
  · exact .inl ⟨Nat.not_le.1 ‹_›, rfl⟩

/-! ## BEACON -/

/-- A BEACON's table part with the timer and the RENEW offer that follow it (R56, R57, R71). -/
def State.beaconRenewed (s : State) (divergence : Bool) : State :=
  ((s.beaconTable divergence).restartBeacon.dropIdleRenew).placeRenew

theorem beaconSettled_eq (b : BeaconFields) (sender : Nat) (own : Bool) (s : State) :
    s.beaconSettled b sender own =
      (if s.member.state = .synced then
        (s.beaconRenewed (s.witnessUpdate b sender own).isNone).beaconSynced b own (s.witnessUpdate b sender own)
      else (s.beaconRenewed false).beaconListening b own (tableDigest s.table)).judge := by
  unfold State.beaconSettled State.beaconRenewed
  by_cases h : s.member.state = .synced <;> simp [h]

theorem placeRenew_work (s : State) : ClaimWork s s.placeRenew := by
  unfold State.placeRenew; split <;> rfl

/-- A BEACON's table part, with what follows it: the aged table, the timer restarted, and claim work. -/
theorem beaconRenewed_work (s : State) (divergence : Bool) :
    ClaimWork ((s.setTable s.agedTable.1).setMember { s.member with beaconTimer := .counting 0 })
      (s.beaconRenewed divergence) := by
  have h1 := (beaconTable_work s divergence).setMember fun m => { m with beaconTimer := .counting 0 }
  have h2 : ClaimWork ((s.beaconTable divergence).setMember
      { (s.beaconTable divergence).member with beaconTimer := .counting 0 }) (s.beaconTable divergence).restartBeacon :=
    setOffers_work _ _
  exact h1.trans (h2.trans ((dropIdleRenew_work _).trans (placeRenew_work _)))

/-- The channels at a confirmed divergence (table of R63). -/
def State.diverged (s : State) : State :=
  allEight.foldl State.divergeChannel (s.setFaults { s.report.faults with diverged := true })

/-- A confirmed divergence empties the table, latches DIVERGED, enters LISTENING and does claim work beside (R63). -/
theorem confirmDivergence_work (s : State) :
    ClaimWork
      (((s.setFaults { s.report.faults with diverged := true }).setTable []).setMember
        { s.member.listening with witness := none })
      s.confirmDivergence := by
  have h : ClaimWork (s.setFaults { s.report.faults with diverged := true }) s.diverged :=
    ClaimWork.foldl divergeChannel_work allEight _
  have h1 := ((h.setTable []).trans (clearTable_work s.diverged)).setMember fun m =>
    { m.listening with witness := none }
  have h2 : s.confirmDivergence =
      s.diverged.clearTable.setMember { s.diverged.clearTable.member.listening with witness := none } := by
    simp only [State.confirmDivergence, State.diverged]
  rw [h2]
  exact h1

/-- A restarted join empties the table and does claim work beside its counts (R70). -/
theorem restartJoin_work (s : State) :
    ClaimWork
      (((s.setTable []).setMember
        { s.member with beaconsHeard := 0, authHeard := false, joinRetries := s.member.joinRetries + 1 }).setFaults
        { s.report.faults with
          joinStalled := s.report.faults.joinStalled || decide (Config.joinStalledLimit ≤ s.member.joinRetries + 1) })
      s.restartJoin := by
  have h := clearTable_work s
  unfold State.restartJoin
  dsimp only
  unfold ClaimWork at *
  rw [← h]
  rfl

/-- The membership controller's counts at a beacon in LISTENING (R59, R67), and the line mask of an authoritative one
(R68). -/
def State.beaconAdopted (s : State) (b : BeaconFields) (own : Bool) : State :=
  let authoritative := b.authoritative && !own
  let counted := s.setMember { s.member with
    epoch := b.epoch, beaconsHeard := s.member.beaconsHeard + 1, authHeard := s.member.authHeard || authoritative }
  if authoritative then counted.changeMasks { counted.masks with line := b.mask } else counted

/-- Whether the join completes at this beacon (R68). -/
def State.joinsAt (s : State) (b : BeaconFields) (own : Bool) (snapshot : TableDigest) : Bool :=
  joinCompletes s.settings.lease (s.member.beaconsHeard + 1) (s.member.authHeard || (b.authoritative && !own))
    (b.authoritative && !own) snapshot b.digest

theorem beaconListening_eq (s : State) (b : BeaconFields) (own : Bool) (snapshot : TableDigest) :
    s.beaconListening b own snapshot =
      if s.joinsAt b own snapshot then (s.beaconAdopted b own).completeJoin
      else if 2 * s.settings.lease ≤ s.member.beaconsHeard + 1 then (s.beaconAdopted b own).restartJoin
      else s.beaconAdopted b own := rfl

/-- Counting a beacon in LISTENING writes the membership controller and does mask work beside. -/
theorem beaconAdopted_work (s : State) (b : BeaconFields) (own : Bool) :
    MaskWork
      (s.setMember { s.member with
        epoch := b.epoch, beaconsHeard := s.member.beaconsHeard + 1
        authHeard := s.member.authHeard || (b.authoritative && !own) })
      (s.beaconAdopted b own) := by
  unfold State.beaconAdopted
  dsimp only
  split
  · exact changeMasks_work _ _
  · exact .refl _

/-- The membership controller's part of a beacon in SYNCED: the epoch with the witness record, or a confirmed divergence
(R59, R62). -/
theorem beaconSynced_cases (s : State) (b : BeaconFields) (own : Bool) (witness : Option (Option Witness)) :
    (∃ w, witness = some w ∧ s.beaconSynced b own witness =
      s.setMember { s.member with epoch := if own then b.epoch else s.member.epoch + 1, witness := w }) ∨
    (witness = none ∧ s.beaconSynced b own witness =
      (s.setMember { s.member with epoch := if own then b.epoch else s.member.epoch + 1 }).confirmDivergence) := by
  cases witness with
  | none => exact .inr ⟨rfl, rfl⟩
  | some w => exact .inl ⟨w, rfl, rfl⟩

/-- What a BEACON leaves of the settings, the start-up phase and the table. -/
theorem beaconSettled_table (s : State) (b : BeaconFields) (sender : Nat) (own : Bool) :
    (s.beaconSettled b sender own).settings = s.settings ∧ (s.beaconSettled b sender own).phase = s.phase ∧
      ((s.beaconSettled b sender own).table = s.agedTable.1 ∨ (s.beaconSettled b sender own).table = []) := by
  have hr (d : Bool) : (s.beaconRenewed d).settings = s.settings ∧ (s.beaconRenewed d).phase = s.phase ∧
      (s.beaconRenewed d).table = s.agedTable.1 :=
    have h := beaconRenewed_work s d
    ⟨h.settings, h.phase, h.table⟩
  have hj (t : State) : t.judge.settings = t.settings ∧ t.judge.phase = t.phase ∧ t.judge.table = t.table :=
    have h := judge_work t
    ⟨h.settings, h.phase, h.table⟩
  rw [beaconSettled_eq, (hj _).1, (hj _).2.1, (hj _).2.2]
  split
  · obtain ⟨h1, h2, h3⟩ := hr (s.witnessUpdate b sender own).isNone
    generalize s.beaconRenewed (s.witnessUpdate b sender own).isNone = t at *
    rcases beaconSynced_cases t b own (s.witnessUpdate b sender own) with ⟨w, -, h⟩ | ⟨-, h⟩
    · rw [h]; exact ⟨h1, h2, .inl h3⟩
    · rw [h]
      have hd := confirmDivergence_work (t.setMember
        { t.member with epoch := if own then b.epoch else t.member.epoch + 1 })
      exact ⟨hd.settings.trans h1, hd.phase.trans h2, .inr hd.table⟩
  · have ha := beaconAdopted_work (s.beaconRenewed false) b own
    have h1 := ha.settings.trans (hr false).1
    have h2 := ha.phase.trans (hr false).2.1
    have h3 := ha.table.trans (hr false).2.2
    rw [beaconListening_eq]
    split
    · exact ⟨h1, h2, .inl h3⟩
    · split
      · have hw := restartJoin_work ((s.beaconRenewed false).beaconAdopted b own)
        exact ⟨hw.settings.trans h1, hw.phase.trans h2, .inr hw.table⟩
      · exact ⟨h1, h2, .inl h3⟩

/-! ## CLAIM and RELEASE -/

/-- The evaluation of a CLAIM at this station. -/
def State.evaluated (s : State) (source : Nat) (cls : Class) (c : ChannelIx) (units : Nat) (d : Bool) : Evaluation :=
  evaluateClaim s.settings.budget s.settings.lease s.table source c units cls d

/-- A CLAIM that is applied writes its evaluation's table, gives the sheds, settles an own claim, and is judged. -/
theorem applyClaim_cases (source : Nat) (cls : Class) (c : ChannelIx) (units : Nat) (d own : Bool) (s : State) :
    (¬ (s.member.state = .synced ∧ unitsInRange units = true) ∧ State.applyClaim source cls c units d own s = s) ∨
      (s.member.state = .synced ∧ unitsInRange units = true ∧
        State.applyClaim source cls c units d own s =
          (if own then
            ((s.setTable (s.evaluated source cls c units d).table).giveSheds
              (s.evaluated source cls c units d).victims).settleOwnClaim (s.evaluated source cls c units d).result c
          else (s.setTable (s.evaluated source cls c units d).table).giveSheds
            (s.evaluated source cls c units d).victims).dropIdleRenew.judge) := by
  by_cases h : s.member.state = .synced ∧ unitsInRange units = true
  · exact .inr ⟨h.1, h.2, if_pos h⟩
  · exact .inl ⟨h, if_neg h⟩

/-- Settling the own claim is claim work beside the claims-voided count. -/
theorem settleOwnClaim_work (s : State) (r : ClaimResult) (c : ChannelIx) :
    ClaimWork s (s.settleOwnClaim r c) ∨ ClaimWork s.countVoided (s.settleOwnClaim r c) := by
  unfold State.settleOwnClaim
  split
  · split
    · split
      · exact .inl (settleAdmitted_work s _ _)
      · exact .inl (settleAdmitted_work s _ _)
      · exact .inr (settleRefused_work _ _)
      · exact .inr (settleRefused_work _ _)
      · exact .inl (settleRefused_work s _)
    · exact .inl (.refl s)
  · exact .inl (.refl s)

/-- What an applied CLAIM leaves. -/
theorem applyClaim_frame (source : Nat) (cls : Class) (c : ChannelIx) (units : Nat) (d own : Bool) (s : State) :
    ∃ t n, ClaimWork (((s.setTable t).setCounters { s.report.counters with claimsVoided := n }))
        (State.applyClaim source cls c units d own s) ∧
      (n = s.report.counters.claimsVoided ∨ n = raised s.report.counters.claimsVoided 1) ∧
      (t = s.table ∨ (s.member.state = .synced ∧ unitsInRange units = true ∧
        t = (s.evaluated source cls c units d).table)) := by
  rcases applyClaim_cases source cls c units d own s with ⟨-, h⟩ | ⟨hs, hu, h⟩
  · rw [h]
    exact ⟨s.table, _, .refl _, .inl rfl, .inl rfl⟩
  · rw [h]
    have hshed : ClaimWork (s.setTable (s.evaluated source cls c units d).table)
        ((s.setTable (s.evaluated source cls c units d).table).giveSheds (s.evaluated source cls c units d).victims) :=
      giveSheds_work _ _
    refine ⟨_, if own then (((s.setTable (s.evaluated source cls c units d).table).giveSheds
        (s.evaluated source cls c units d).victims).settleOwnClaim (s.evaluated source cls c units d).result
          c).report.counters.claimsVoided else s.report.counters.claimsVoided, ?_, ?_, .inr ⟨hs, hu, rfl⟩⟩
    · refine ClaimWork.trans ?_ ((dropIdleRenew_work _).trans (judge_work _))
      split
      · rcases settleOwnClaim_work ((s.setTable (s.evaluated source cls c units d).table).giveSheds
            (s.evaluated source cls c units d).victims) (s.evaluated source cls c units d).result c with hw | hw
        · unfold ClaimWork at *
          rw [← hw, ← hshed]
          rfl
        · unfold ClaimWork at *
          rw [← hw, ← hshed]
          rfl
      · exact hshed
    · split
      · rcases settleOwnClaim_work ((s.setTable (s.evaluated source cls c units d).table).giveSheds
            (s.evaluated source cls c units d).victims) (s.evaluated source cls c units d).result c with hw | hw
        · left; rw [← hw, ← hshed]; rfl
        · right; rw [← hw, ← hshed]; rfl
      · exact .inl rfl

/-- The table after a RELEASE, and the record its promotion check promoted (R16). -/
def State.releasedTable (s : State) (source : Nat) (c : ChannelIx) : List Holding × Option Holding :=
  if s.member.state = .synced then promotionCheck s.settings.budget (removeHolding source c s.table)
  else (removeHolding source c s.table, none)

/-- A RELEASE that names a record writes the table without it, clears the HOLD marks, tells the own channels and is
judged. -/
theorem applyRelease_cases (source : Nat) (c : ChannelIx) (own : Bool) (s : State) :
    (findHolding source c s.table = none ∧ State.applyRelease source c own s = s.judge) ∨
      ((findHolding source c s.table).isSome = true ∧
        State.applyRelease source c own s =
          ((if source = s.ownId then (s.setTable (s.releasedTable source c).1).holdClear.ownReleased c
            else (s.setTable (s.releasedTable source c).1).holdClear).givePromotion
              (s.releasedTable source c).2).dropIdleRenew.judge) := by
  unfold State.applyRelease
  split
  · rename_i h
    exact .inl ⟨h, rfl⟩
  · rename_i r h
    exact .inr ⟨by rw [h]; rfl, rfl⟩

/-- What an applied RELEASE leaves. -/
theorem applyRelease_work (source : Nat) (c : ChannelIx) (own : Bool) (s : State) :
    ClaimWork s (State.applyRelease source c own s) ∨
      ClaimWork (s.setTable (s.releasedTable source c).1) (State.applyRelease source c own s) := by
  rcases applyRelease_cases source c own s with ⟨-, h⟩ | ⟨-, h⟩
  · rw [h]; exact .inl (judge_work s)
  · rw [h]
    refine .inr (ClaimWork.trans ?_ ((givePromotion_work _ _).trans ((dropIdleRenew_work _).trans (judge_work _))))
    split
    · exact (holdClear_work _).trans (ownReleased_work _ _)
    · exact holdClear_work _

/-- The table after a RENEW (R17 to R19). -/
def State.renewedTable (s : State) (source : Nat) (payload : List Byte) : List Holding :=
  (usableEntries payload).foldl
    (if s.member.state = .synced then renewMatching s.settings.lease source
      else renewLearning s.settings.budget s.settings.lease source) s.table

theorem applyRenew_eq (source : Nat) (payload : List Byte) (own : Bool) (s : State) :
    State.applyRenew source payload own s = (s.setTable (s.renewedTable source payload)).judge := rfl

/-! ## The end of a read -/

/-- A read ends in a second read, in a halt, or with the image taken (R193). -/
theorem endRead_cases (s : State) (image : List Byte) :
    (∃ failure, s.loader.attempts = 1 ∧ s.endRead image = s.readChecked failure (.retryWait 0)) ∨
      (∃ outcome, s.endRead image =
        (s.readChecked outcome .idle).enterHalted (s.report.faults.withConfig outcome)) ∨
      ∃ c, readSettings image = some c ∧ s.endRead image = (s.readChecked .sound .idle).takeImage c := by
  unfold State.endRead
  split
  · split
    · exact .inl ⟨_, ‹_›, rfl⟩
    · exact .inr (.inl ⟨_, rfl⟩)
  · split
    · exact .inr (.inr ⟨_, ‹_›, rfl⟩)
    · exact .inr (.inl ⟨_, rfl⟩)

/-- A sound image's settings have a station ID in 1..62 and a lease length of at least 4 (R194). -/
theorem readSettings_ranges {image : List Byte} {c : Settings} (h : readSettings image = some c) :
    1 ≤ c.stationId ∧ c.stationId ≤ 62 ∧ 4 ≤ c.lease := by
  obtain ⟨⟨h1, h2, -, -, -, -, h4, -⟩, -⟩ := (readSettings_isSome_iff image).1 (by rw [h]; rfl)
  unfold readSettings at h
  dsimp only at h
  split at h
  · split at h
    · cases h
      exact ⟨h1, h2, h4⟩
    · cases h
  · cases h

/-! ## The calendar's movement -/

/-- A predicate kept by the schedule's actions and by the writes of the schedule unit is kept by a minute event. -/
theorem minuteEvent_keeps {P : State → Prop} (hrun : ∀ s a, P s → P (s.runAction a))
    (hmissed : ∀ s n, P s → P (s.countMissed n)) (hlast : ∀ s m, P s → P { s with lastMinute := some m }) {s : State}
    (minute : Nat) (hs : P s) : P (s.minuteEvent minute) := by
  have hmin : ∀ m t, P t → P (t.evaluateMinute m) := by
    intro m t ht
    unfold State.evaluateMinute
    generalize t.settings.schedule = l
    induction l generalizing t with
    | nil => exact ht
    | cons e l ih =>
      refine ih _ ?_
      unfold State.runEntry
      split
      · split
        · exact hrun t _ ht
        · exact ht
      · exact ht
  have hafter : ∀ last count t, P t → P (t.evaluateAfter last count) := by
    intro last count t ht
    unfold State.evaluateAfter
    generalize List.range count = l
    induction l generalizing t with
    | nil => exact ht
    | cons k l ih => exact ih _ (hmin _ t ht)
  unfold State.minuteEvent
  split
  · exact hs
  · dsimp only
    split
    · exact hlast _ minute (hafter _ _ s hs)
    · split
      · exact hlast _ minute (hmissed _ _ (hmin minute s hs))
      · exact hs

theorem runAction_keeps {P : State → Prop} (hmoves : ∀ s t, Moves s t → P s → P t)
    (hmasks : ∀ s m, P s → P (s.changeMasks m)) (s : State) (a : ScheduleAction) (hs : P s) : P (s.runAction a) := by
  cases a with
  | start n cls duration => exact hmoves _ _ (start_moves s n cls _) hs
  | stop n => exact hmoves _ _ (stop_moves s n) hs
  | inhibitOn groups => exact hmasks _ _ hs
  | inhibitOff groups => exact hmasks _ _ hs

end Sys2Proof.Machine
end

section
/-! PROOFS. Every step keeps the holding table sound (O4): each operation that writes the table keeps it sound, and every
other operation leaves what the invariant speaks of. -/

namespace Sys2Proof.Machine

/-! ## Steps -/

/-- A predicate kept by the schedule's actions and by the writes of the calendar is kept when the station takes a carried
time. -/
theorem adjustTime_keeps {P : State → Prop} (hrun : ∀ s a, P s → P (s.runAction a))
    (hmissed : ∀ s n, P s → P (s.countMissed n)) (hlast : ∀ s m, P s → P { s with lastMinute := some m })
    (hcalendar : ∀ s c, P s → P (s.setCalendar c))
    (hfirst : ∀ s, P s → P (s.setFaults { s.report.faults with timeInvalid := false })) {s : State}
    (v : CalendarValue) (restart : Bool) (hs : P s) : P (s.adjustTime v restart) := by
  have ha := hcalendar s (s.calendar.adjusted v restart) hs
  unfold State.adjustTime
  split
  · dsimp only
    split
    · split
      · exact ha
      · exact minuteEvent_keeps hrun hmissed hlast _ ha
    · exact hlast _ _ (hfirst _ ha)
  · exact hs

/-- A predicate kept by the schedule's actions and by the writes of the calendar is kept by a fraction step. -/
theorem fractionStep_keeps {P : State → Prop} (hrun : ∀ s a, P s → P (s.runAction a))
    (hmissed : ∀ s n, P s → P (s.countMissed n)) (hlast : ∀ s m, P s → P { s with lastMinute := some m })
    (hcalendar : ∀ s c, P s → P (s.setCalendar c)) {s : State} (hs : P s) : P s.fractionStep := by
  have hc := hcalendar s { s.calendar with value := stepFraction s.calendar.value, phase := 0 } hs
  unfold State.fractionStep
  dsimp only
  split
  · exact minuteEvent_keeps hrun hmissed hlast _ hc
  · exact hc

/-- A predicate that every operation keeps, the calendar's movement and a reset's onset among them, is kept by every
step. -/
theorem Keeps.step {P : State → Prop} (K : Keeps P)
    (hadjust : ∀ s v restart, P s → s.member.state.online = true → P (s.adjustTime v restart))
    (hfraction : ∀ s, P s → s.calendarCounts = true → P s.fractionStep)
    (honset : ∀ s k t, P s → execResetOnset k s = .next t → P t) {s t : State} (hs : P s)
    (h : Machine.step s = .next t) : P t := by
  unfold Machine.step at h
  split at h
  · cases h
    exact K.oscillatorPeriod K.toKeepsEvents (fun _ => id) hfraction hs
  · rename_i c rest _
    have hp := K.pending s rest hs
    by_cases hc : ∃ k, c = .resetOnset k
    · obtain ⟨k, rfl⟩ := hc
      exact honset _ k t hp h
    · exact K.exec (fun _ => id) hadjust hfraction (fun k hk => hc ⟨k, hk⟩) hp h

/-! ## Start-up -/

theorem State.startsInLoading.running {s : State} (h : s.startsInLoading) (hl : s.member.state ≠ .loading) :
    s.phase = .running := by
  by_contra hp
  exact hl (h hp)

theorem State.startsInLoading.of_eq {s t : State} (h : s.startsInLoading) (hp : t.phase = s.phase)
    (hm : t.member.state = s.member.state) : t.startsInLoading := by
  unfold State.startsInLoading
  rw [hp, hm]
  exact h

theorem State.startsInLoading.of_phase {s t : State} (h : s.startsInLoading) (hl : s.member.state ≠ .loading)
    (hp : t.phase = s.phase) : t.startsInLoading := fun hn => absurd (hp.trans (h.running hl)) hn

theorem MemberState.ne_loading_of_working {m : MemberState} (h : m.working = true) : m ≠ .loading := by
  rintro rfl; cases h

theorem State.isLoading_state {s : State} (h : s.isLoading = true) :
    s.phase = .running ∧ s.member.state = .loading := by
  simpa [State.isLoading] using h

/-! ## The table invariant -/

namespace State.tableInv

theorem congr {s t : State} (h : s.tableInv) (hc : t.settings = s.settings) (ht : t.table = s.table)
    (hm : t.member.state = s.member.state) (hp : t.phase = s.phase) : t.tableInv := by
  obtain ⟨h1, h2, h3, h4⟩ := h
  refine ⟨?_, ?_, ?_, h4.of_eq hp hm⟩
  · rw [hc, ht]; exact h1
  · rw [hm, ht]; exact h2
  · rw [hm, hc]; exact h3

theorem maskWork {s t : State} (h : s.tableInv) (hw : MaskWork s t) : t.tableInv :=
  h.congr hw.settings hw.table (congrArg Membership.state hw.member) hw.phase

/-- On the line a sound table is all that the invariant asks for. -/
theorem of_online {s t : State} (h : s.tableInv) (ho : s.member.state.online = true)
    (ht : t.member.state.online = true) (hc : t.settings = s.settings) (hp : t.phase = s.phase)
    (hsound : tableSound s.settings.budget s.settings.lease t.table) : t.tableInv := by
  obtain ⟨-, -, h3, h4⟩ := h
  have hl := h3 (MemberState.working_of_online ho)
  refine ⟨by rw [hc]; exact hsound, ?_, fun _ => by rw [hc]; exact hl,
    h4.of_phase (MemberState.ne_loading_of_working (MemberState.working_of_online ho)) hp⟩
  rintro (hm | hm) <;> rw [hm] at ht <;> cases ht

/-- Without a record the invariant asks for the lease length of a working station alone. -/
theorem of_empty {t : State} (ht : t.table = []) (hl : t.member.state.working = true → 4 ≤ t.settings.lease)
    (hs : t.startsInLoading) : t.tableInv :=
  ⟨ht ▸ tableSound_nil _ _, fun _ => ht, hl, hs⟩

theorem lease {s : State} (h : s.tableInv) (ho : s.member.state.online = true) : 1 ≤ s.settings.lease :=
  (by decide : 1 ≤ 4).trans (h.2.2.1 (MemberState.working_of_online ho))

theorem enterMute {s : State} (h : s.tableInv) (ho : s.member.state.online = true) (f : FaultSet) :
    (s.enterMute f).tableInv := by
  have hw := enterMute_work s f
  have hbase : (s.muted f).tableInv :=
    of_empty rfl (fun _ => h.2.2.1 (MemberState.working_of_online ho))
      (h.2.2.2.of_phase (MemberState.ne_loading_of_working (MemberState.working_of_online ho)) rfl)
  exact hbase.maskWork hw.maskWork

theorem afterFrame {s : State} (h : s.tableInv) (f : Frame) (part : Option Offer) : (s.afterFrame f part).tableInv := by
  have hf := afterFrame_frame s f part
  rw [hf]
  exact h

theorem agedTable {s : State} (h : s.tableInv) : tableSound s.settings.budget s.settings.lease s.agedTable.1 := by
  unfold State.agedTable
  split
  · exact h.1.age.promotionCheck
  · exact h.1.age

theorem renewedTable {s : State} (h : s.tableInv) (ho : s.member.state.online = true) {source : Nat}
    (hs : 1 ≤ source ∧ source ≤ 62) (payload : List Byte) :
    tableSound s.settings.budget s.settings.lease (s.renewedTable source payload) := by
  refine tableSound.foldl (fun t e he ht => ?_) h.1
  split
  · exact ht.renewMatching _ _ (h.lease ho)
  · exact ht.renewLearning hs (usableEntries_units he) (h.lease ho)

theorem endRead {s : State} (h : s.tableInv) (hl : s.isLoading = true) (image : List Byte) :
    (s.endRead image).tableInv := by
  obtain ⟨hp, hm⟩ := State.isLoading_state hl
  have ht := h.2.1 (.inl hm)
  have starts {t : State} (hpt : t.phase = s.phase) : t.startsInLoading := fun hn => absurd (hpt.trans hp) hn
  rcases endRead_cases s image with ⟨failure, -, he⟩ | ⟨outcome, he⟩ | ⟨c, hc, he⟩ <;> rw [he]
  · exact h
  · exact of_empty ht nofun (starts rfl)
  · exact of_empty ht (fun _ => (readSettings_ranges hc).2.2) (starts rfl)

theorem runAction {s : State} (h : s.tableInv) (a : ScheduleAction) : (s.runAction a).tableInv :=
  h.maskWork (runAction_work s a)

end State.tableInv

/-- The table invariant is kept by every operation of a step. -/
theorem tableInv_keeps : Keeps State.tableInv where
  pending _ _ h := h
  releases _ _ h _ := h
  starts s _ h hp := h.congr rfl rfl rfl rfl |> fun h => ⟨h.1, h.2.1, h.2.2.1, fun _ => h.2.2.2 (by rw [hp]; nofun)⟩
  waits _ _ h _ _ := h
  waitEnds s h hp := by
    have ht := h.2.1 (.inl (h.2.2.2 (by rw [hp]; nofun)))
    exact .of_empty ht nofun fun hn => absurd rfl hn
  loads _ _ h _ _ := h
  readEnds s image h hl := h.endRead hl image
  quiet _ _ _ _ _ h _ _ := h
  records _ h _ := h
  begins s o h _ _ := by
    unfold State.beginAttempt
    dsimp only
    split <;> exact h
  counts _ _ h _ := h
  fails s o f a b h ho _ _ := by
    have hs : ((s.attemptFailed a b).sourceFailed o).tableInv := by
      rw [sourceFailed_frame]; exact h
    rcases failAttempt_cases s o a b with ⟨-, he⟩ | ⟨-, he⟩ <;> rw [he]
    · exact hs
    · exact hs.enterMute (by rw [sourceFailed_frame]; exact ho) _
  vetoes s b h ho := by
    have hs : (s.vetoCast b).tableInv := h
    rcases castVeto_cases s b with ⟨-, he⟩ | ⟨-, he⟩ <;> rw [he]
    · exact hs
    · exact hs.enterMute ho _
  accepts s f part h _ := h.afterFrame f part
  halts s f h ho _ _ := by
    have hs := h.2.2.2.of_phase (t := s.enterHalted f)
      (MemberState.ne_loading_of_working (MemberState.working_of_online ho)) rfl
    refine ⟨h.1, ?_, nofun, hs⟩
    rintro (hm | hm) <;> cases hm
  move s t h _ hm := h.maskWork hm.work.maskWork
  masks s m h _ := h.maskWork (changeMasks_work s m)
  beacon s b sender own h ho _ := by
    obtain ⟨hc, hp, ht⟩ := beaconSettled_table s b sender own
    refine h.of_online ho (beaconSettled_online b sender own ho) hc hp ?_
    rcases ht with ht | ht <;> rw [ht]
    · exact h.agedTable
    · exact tableSound_nil _ _
  claim s f part c u d h hp _ hj _ := by
    have ha := h.afterFrame f part
    have ho : (s.afterFrame f part).member.state.online = true := by rw [afterFrame_member]; exact hp.1
    generalize s.afterFrame f part = a at *
    obtain ⟨t, n, hw, -, ht⟩ := applyClaim_frame f.source.toNat (Class.ofBits f.cls) c u d part.isSome a
    refine ha.of_online ho (by rw [hw.member]; exact ho) hw.settings hw.phase ?_
    rw [hw.table]
    rcases ht with rfl | ⟨-, hu, rfl⟩
    · exact ha.1
    · exact ha.1.evaluateClaim c _ d (source_of_passesJudgements hj) hu (ha.lease ho)
  release s f part c h hp _ _ _ _ := by
    have ha := h.afterFrame f part
    have ho : (s.afterFrame f part).member.state.online = true := by rw [afterFrame_member]; exact hp.1
    generalize s.afterFrame f part = a at *
    rcases applyRelease_work f.source.toNat c part.isSome a with hw | hw
    · exact ha.maskWork hw.maskWork
    · refine ha.of_online ho (by rw [hw.member]; exact ho) hw.settings hw.phase ?_
      rw [hw.table]
      change tableSound _ _ (a.releasedTable _ _).1
      unfold State.releasedTable
      split
      · exact (ha.1.filter _).promotionCheck
      · exact ha.1.filter _
  renew s source payload own h ho h1 h62 := by
    rw [applyRenew_eq]
    have hw := judge_work (s.setTable (s.renewedTable source payload))
    refine h.of_online ho (by rw [hw.member]; exact ho) hw.settings hw.phase ?_
    rw [hw.table]
    exact h.renewedTable ho ⟨h1, h62⟩ payload
  query s target flags own h _ := by
    unfold State.applyQuery
    split <;> exact h
  beaconTimer _ _ h _ := h
  beaconOffer _ h _ := h
  muteCounts _ _ h _ := h
  muteEnds s h hm :=
    .of_empty (h.2.1 (.inr hm)) (fun _ => h.2.2.1 (by rw [hm]; rfl)) (h.2.2.2.of_phase (by rw [hm]; nofun) rfl)
  counted _ h _ := h
  pin _ _ _ h := h
  input _ _ _ h _ := h
  raises s c h _ := by
    rw [raiseCommand_frame]; exact h
  blink _ _ h _ _ := h
  phases _ _ h _ := h
  divides _ _ _ h _ _ := h

/-- Settles O4: every operation of a step keeps the table invariant. -/
theorem stepKeepsTheTableSound : Obligations.StepKeepsTheTableSound := fun _ _ hs h =>
  tableInv_keeps.step
    (fun _ v restart hs _ => adjustTime_keeps (P := State.tableInv) (fun _ a h => h.runAction a) (fun _ _ h => h)
      (fun _ _ h => h) (fun _ _ h => h) (fun _ h => h) v restart hs)
    (fun _ hs _ => fractionStep_keeps (P := State.tableInv) (fun _ a h => h.runAction a) (fun _ _ h => h)
      (fun _ _ h => h) (fun _ _ h => h) hs)
    (fun s k t hs h => by
      cases h
      exact .of_empty rfl nofun fun _ => rfl) hs h

end Sys2Proof.Machine
end

section
/-! PROOFS. The calendar's counting (R102, R103): years and months of a day number, the conversions between calendar values
and fraction positions (O15), and the fraction step as one step around the cycle. -/

namespace Sys2Proof.Machine

/-! ## Ranges -/

theorem CalendarValue.inRange_iff (v : CalendarValue) :
    v.inRange = true ↔ 2000 ≤ v.year ∧ v.year ≤ 2099 ∧ 1 ≤ v.month ∧ v.month ≤ 12 ∧ 1 ≤ v.day ∧
      v.day ≤ daysInMonth v.year v.month ∧ v.hour ≤ 23 ∧ v.minute ≤ 59 ∧ v.second ≤ 59 ∧ v.fraction ≤ 63 := by
  simp [CalendarValue.inRange, and_assoc]

/-! ## Years -/

/-- The days of a year (R102). -/
def daysInYear (year : Nat) : Nat := if leapYear year then 366 else 365

theorem daysInYear_eq (year : Nat) : daysInYear year = if year % 4 = 0 then 366 else 365 := by
  simp [daysInYear, leapYear]

/-- A year of the cycle by its place in its four years, the first of them the leap year. -/
theorem exists_four_years {year : Nat} (h : 2000 ≤ year) : ∃ q r, r < 4 ∧ year = 2000 + (4 * q + r) :=
  ⟨(year - 2000) / 4, (year - 2000) % 4, Nat.mod_lt _ (by decide), by omega⟩

theorem daysInYear_four_years (q : Nat) {r : Nat} (hr : r < 4) :
    daysInYear (2000 + (4 * q + r)) = if r = 0 then 366 else 365 := by
  rw [daysInYear_eq]
  split <;> split <;> omega

theorem daysBeforeYear_four_years (q : Nat) {r : Nat} (hr : r < 4) :
    daysBeforeYear (2000 + (4 * q + r)) = 1461 * q + 365 * r + if r = 0 then 0 else 1 := by
  unfold daysBeforeYear
  rw [Nat.add_sub_cancel_left]
  split <;> omega

theorem daysBeforeYear_succ {year : Nat} (h : 2000 ≤ year) :
    daysBeforeYear (year + 1) = daysBeforeYear year + daysInYear year := by
  rw [daysInYear_eq]
  unfold daysBeforeYear
  split <;> omega

/-- The years hold their days: a day of a year is found in that year (R102, R103). -/
theorem yearOfDay_daysBeforeYear {year k : Nat} (h : 2000 ≤ year) (hk : k < daysInYear year) :
    yearOfDay (daysBeforeYear year + k) = (year, k) := by
  obtain ⟨q, r, hr, rfl⟩ := exists_four_years h
  rw [daysInYear_four_years q hr] at hk
  rw [daysBeforeYear_four_years q hr]
  unfold yearOfDay
  dsimp only
  rcases Nat.eq_zero_or_pos r with rfl | hpos
  · rw [if_pos rfl] at hk ⊢
    rw [if_pos (by omega)]
    exact Prod.ext (by dsimp only; omega) (by dsimp only; omega)
  · have hne : ¬ r = 0 := by omega
    rw [if_neg hne] at hk ⊢
    have hmod : (1461 * q + 365 * r + 1 + k) % 1461 = 365 * r + 1 + k := by omega
    have hdiv : (1461 * q + 365 * r + 1 + k) / 1461 = q := by omega
    rw [hmod, hdiv, if_neg (by omega)]
    refine Prod.ext ?_ ?_ <;> dsimp only <;> interval_cases r <;> omega

/-- Every day of the cycle lies in a year of it. -/
theorem yearOfDay_spec {day : Nat} (h : day < 36525) :
    2000 ≤ (yearOfDay day).1 ∧ (yearOfDay day).1 ≤ 2099 ∧ (yearOfDay day).2 < daysInYear (yearOfDay day).1 ∧
      daysBeforeYear (yearOfDay day).1 + (yearOfDay day).2 = day := by
  rw [daysInYear_eq]
  unfold daysBeforeYear yearOfDay
  dsimp only
  split <;> dsimp only <;> split <;> omega

/-! ## Months -/

theorem daysBeforeMonth_succ (year : Nat) {month : Nat} (h : 1 ≤ month) :
    daysBeforeMonth year (month + 1) = daysBeforeMonth year month + daysInMonth year month := by
  obtain ⟨m, rfl⟩ := Nat.exists_eq_add_of_le' h
  rfl

theorem daysBeforeMonth_thirteen (year : Nat) : daysBeforeMonth year 13 = daysInYear year := by
  unfold daysInYear
  cases h : leapYear year <;> simp [daysBeforeMonth, daysInMonth, h]

/-- A later month begins after the days of an earlier one. -/
theorem daysBeforeMonth_le {year m n : Nat} (hm : 1 ≤ m) (h : m < n) :
    daysBeforeMonth year m + daysInMonth year m ≤ daysBeforeMonth year n := by
  induction n, h using Nat.le_induction with
  | base => rw [daysBeforeMonth_succ year hm]
  | succ n hn ih =>
    rw [daysBeforeMonth_succ year (by omega)]
    omega

/-- The months hold their days: the walk over the months finds the month and the day of month. -/
theorem monthOfDay_spec (year : Nat) (left month days : Nat) (hm : 1 ≤ month) (hl : left + month = 12)
    (hd : daysBeforeMonth year month + days < daysInYear year) :
    month ≤ (monthOfDay year left month days).1 ∧ (monthOfDay year left month days).1 ≤ 12 ∧
      1 ≤ (monthOfDay year left month days).2 ∧
      (monthOfDay year left month days).2 ≤ daysInMonth year (monthOfDay year left month days).1 ∧
      daysBeforeMonth year (monthOfDay year left month days).1 + ((monthOfDay year left month days).2 - 1) =
        daysBeforeMonth year month + days := by
  induction left generalizing month days with
  | zero =>
    obtain rfl : month = 12 := by omega
    have h13 := daysBeforeMonth_succ year (month := 12) (by omega)
    rw [daysBeforeMonth_thirteen] at h13
    simp only [monthOfDay]
    omega
  | succ left ih =>
    unfold monthOfDay
    split
    · simp only
      omega
    · have hs := daysBeforeMonth_succ year hm
      have := ih (month + 1) (days - daysInMonth year month) (by omega) (by omega) (by omega)
      omega

/-- The walk over the months finds the date that gives a day of the year. -/
theorem monthOfDay_daysBeforeMonth {year month day : Nat} (hm : 1 ≤ month) (hm' : month ≤ 12) (hd : 1 ≤ day)
    (hd' : day ≤ daysInMonth year month) :
    monthOfDay year 11 1 (daysBeforeMonth year month + (day - 1)) = (month, day) := by
  have h13 := daysBeforeMonth_le (year := year) hm (show month < 13 by omega)
  rw [daysBeforeMonth_thirteen] at h13
  have h1 : daysBeforeMonth year 1 = 0 := rfl
  obtain ⟨a, b, c, d, e⟩ := monthOfDay_spec year 11 1 (daysBeforeMonth year month + (day - 1)) (by omega) (by omega)
    (by omega)
  generalize monthOfDay year 11 1 (daysBeforeMonth year month + (day - 1)) = r at *
  have hmonth : r.1 = month := by
    rcases Nat.lt_trichotomy r.1 month with hlt | heq | hgt
    · have := daysBeforeMonth_le (year := year) a hlt; omega
    · exact heq
    · have := daysBeforeMonth_le (year := year) hm hgt; omega
  rw [hmonth] at e
  exact Prod.ext hmonth (by change r.2 = day; omega)

/-! ## Days, minutes and fractions -/

/-- The last day of a year lies within the year. -/
theorem dayOfYear_lt {v : CalendarValue} (h : v.inRange = true) :
    daysBeforeMonth v.year v.month + (v.day - 1) < daysInYear v.year := by
  obtain ⟨-, -, h3, h4, h5, h6, -⟩ := v.inRange_iff.1 h
  have h13 := daysBeforeMonth_le (year := v.year) h3 (show v.month < 13 by omega)
  rw [daysBeforeMonth_thirteen] at h13
  omega

theorem daysBeforeYear_le {year : Nat} (h : 2000 ≤ year) (h' : year ≤ 2099) :
    daysBeforeYear year + daysInYear year ≤ 36525 := by
  rw [daysInYear_eq]
  unfold daysBeforeYear
  split <;> omega

theorem dayNumber_lt {v : CalendarValue} (h : v.inRange = true) : dayNumber v < 36525 := by
  obtain ⟨h1, h2, -⟩ := v.inRange_iff.1 h
  have := dayOfYear_lt h
  have := daysBeforeYear_le h1 h2
  unfold dayNumber
  omega

theorem minuteNumber_lt {v : CalendarValue} (h : v.inRange = true) : minuteNumber v < Config.cycleMinutes := by
  obtain ⟨-, -, -, -, -, -, h7, h8, -⟩ := v.inRange_iff.1 h
  have := dayNumber_lt h
  simp only [minuteNumber, Config.cycleMinutes]
  omega

theorem fractionPosition_lt {v : CalendarValue} (h : v.inRange = true) :
    fractionPosition v < Config.cycleFractions := by
  obtain ⟨-, -, -, -, -, -, -, -, h9, h10⟩ := v.inRange_iff.1 h
  have := minuteNumber_lt h
  simp only [fractionPosition, Config.cycleFractions, Config.cycleMinutes] at *
  omega

theorem dateOfDay_dayNumber {v : CalendarValue} (h : v.inRange = true) :
    dateOfDay (dayNumber v) = (v.year, v.month, v.day) := by
  obtain ⟨h1, -, h3, h4, h5, h6, -⟩ := v.inRange_iff.1 h
  unfold dateOfDay dayNumber
  rw [Nat.add_assoc, yearOfDay_daysBeforeYear h1 (dayOfYear_lt h)]
  dsimp only
  rw [monthOfDay_daysBeforeMonth h3 h4 h5 h6]

/-- A value is determined by its day's date and its time of day. -/
theorem valueAt_eq (position : Nat) :
    valueAt position =
      { year := (dateOfDay (position / 3840 / 1440)).1, month := (dateOfDay (position / 3840 / 1440)).2.1
        day := (dateOfDay (position / 3840 / 1440)).2.2, hour := position / 3840 % 1440 / 60
        minute := position / 3840 % 60, second := position % 3840 / 64, fraction := position % 64 } := rfl

theorem valueAt_fractionPosition {v : CalendarValue} (h : v.inRange = true) : valueAt (fractionPosition v) = v := by
  obtain ⟨-, -, -, -, -, -, h7, h8, h9, h10⟩ := v.inRange_iff.1 h
  have hday : fractionPosition v / 3840 / 1440 = dayNumber v := by
    unfold fractionPosition minuteNumber; omega
  rw [valueAt_eq, hday, dateOfDay_dayNumber h]
  cases v with
  | mk year month day hour minute second fraction =>
    simp only [CalendarValue.mk.injEq, true_and]
    dsimp only at *
    refine ⟨?_, ?_, ?_, ?_⟩ <;> (unfold fractionPosition minuteNumber; dsimp only; omega)

/-- The date of a day of the cycle is in range, and that day is its day number. -/
theorem dateOfDay_spec {day : Nat} (h : day < 36525) :
    2000 ≤ (dateOfDay day).1 ∧ (dateOfDay day).1 ≤ 2099 ∧ 1 ≤ (dateOfDay day).2.1 ∧ (dateOfDay day).2.1 ≤ 12 ∧
      1 ≤ (dateOfDay day).2.2 ∧ (dateOfDay day).2.2 ≤ daysInMonth (dateOfDay day).1 (dateOfDay day).2.1 ∧
      daysBeforeYear (dateOfDay day).1 + daysBeforeMonth (dateOfDay day).1 (dateOfDay day).2.1 +
        ((dateOfDay day).2.2 - 1) = day := by
  obtain ⟨h1, h2, h3, h4⟩ := yearOfDay_spec h
  have hb : daysBeforeMonth (yearOfDay day).1 1 = 0 := rfl
  obtain ⟨k1, k2, k3, k4, k5⟩ := monthOfDay_spec (yearOfDay day).1 11 1 (yearOfDay day).2 (by omega) (by omega) (by omega)
  unfold dateOfDay
  dsimp only
  exact ⟨h1, h2, k1, k2, k3, k4, by omega⟩

theorem fractionPosition_valueAt {p : Nat} (h : p < Config.cycleFractions) :
    (valueAt p).inRange = true ∧ fractionPosition (valueAt p) = p := by
  simp only [Config.cycleFractions] at h
  obtain ⟨h1, h2, h3, h4, h5, h6, h7⟩ := dateOfDay_spec (day := p / 3840 / 1440) (by omega)
  rw [valueAt_eq]
  constructor
  · rw [CalendarValue.inRange_iff]
    exact ⟨h1, h2, h3, h4, h5, h6, by dsimp only; omega, by dsimp only; omega, by dsimp only; omega, by dsimp only; omega⟩
  · unfold fractionPosition minuteNumber dayNumber
    dsimp only
    rw [h7]
    omega

/-- Settles O15: the conversions each way, through the years and months that hold their days. -/
theorem calendarPositionsRoundTrip : Obligations.CalendarPositionsRoundTrip :=
  ⟨fun _ h => ⟨dayNumber_lt h, minuteNumber_lt h, fractionPosition_lt h, dateOfDay_dayNumber h,
    valueAt_fractionPosition h⟩, fun _ h => fractionPosition_valueAt h⟩

/-! ## The fraction step -/

/-- The last day of a month goes over to the first of the next: in range, and the day after (R102). -/
theorem nextMonth_spec {v : CalendarValue} (h : v.inRange = true) (hday : v.day = daysInMonth v.year v.month) :
    (nextMonth v).inRange = true ∧ (nextMonth v).hour = 0 ∧ (nextMonth v).minute = 0 ∧ (nextMonth v).second = 0 ∧
      (nextMonth v).fraction = 0 ∧ dayNumber (nextMonth v) = (dayNumber v + 1) % 36525 := by
  have hlt := dayNumber_lt h
  obtain ⟨h1, h2, h3, h4, h5, h6, h7, h8, h9, h10⟩ := v.inRange_iff.1 h
  have hs := daysBeforeMonth_succ v.year h3
  have hone : ∀ y m, 1 ≤ daysInMonth y m := by
    intro y m
    unfold daysInMonth
    repeat' split
    all_goals omega
  unfold nextMonth
  dsimp only
  split
  · refine ⟨?_, rfl, rfl, rfl, rfl, ?_⟩
    · rw [CalendarValue.inRange_iff]
      exact ⟨h1, h2, by dsimp only; omega, by dsimp only; omega, Nat.le_refl 1, hone _ _,
        Nat.zero_le _, Nat.zero_le _, Nat.zero_le _, Nat.zero_le _⟩
    · unfold dayNumber at *
      dsimp only
      rw [hs, Nat.mod_eq_of_lt]
      · omega
      · have h13 := daysBeforeMonth_le (year := v.year) h3 (show v.month < v.month + 1 by omega)
        have hle := daysBeforeYear_le h1 h2
        have hm : daysBeforeMonth v.year (v.month + 1) + daysInMonth v.year (v.month + 1) ≤ daysInYear v.year := by
          rw [← daysBeforeMonth_thirteen]
          exact daysBeforeMonth_le (by omega) (by omega)
        have := hone v.year (v.month + 1)
        omega
  · have h12 : v.month = 12 := by omega
    have hyear : dayNumber v + 1 = daysBeforeYear v.year + daysInYear v.year := by
      rw [← daysBeforeMonth_thirteen, show 13 = v.month + 1 by omega, hs]
      unfold dayNumber
      omega
    split
    · refine ⟨?_, rfl, rfl, rfl, rfl, ?_⟩
      · rw [CalendarValue.inRange_iff]
        exact ⟨by dsimp only; omega, by dsimp only; omega, Nat.le_refl 1, by dsimp only; omega, Nat.le_refl 1,
          hone _ _, Nat.zero_le _, Nat.zero_le _, Nat.zero_le _, Nat.zero_le _⟩
      · have hb := daysBeforeYear_succ h1
        have hle := daysBeforeYear_le (year := v.year + 1) (by omega) (by omega)
        have : 365 ≤ daysInYear (v.year + 1) := by unfold daysInYear; split <;> omega
        rw [Nat.mod_eq_of_lt (by omega), hyear, ← hb]
        simp [dayNumber, daysBeforeMonth]
    · have h99 : v.year = 2099 := by omega
      have hend : daysBeforeYear 2099 + daysInYear 2099 = 36525 := by decide
      rw [hyear, h99, hend]
      decide

/-- One fraction step is one step around the cycle (R102). -/
theorem stepFraction_spec {v : CalendarValue} (h : v.inRange = true) :
    (stepFraction v).inRange = true ∧
      fractionPosition (stepFraction v) = (fractionPosition v + 1) % Config.cycleFractions := by
  have hlt := fractionPosition_lt h
  have hdlt := dayNumber_lt h
  obtain ⟨h1, h2, h3, h4, h5, h6, h7, h8, h9, h10⟩ := v.inRange_iff.1 h
  simp only [Config.cycleFractions] at *
  have within : ∀ w : CalendarValue, w.year = v.year → w.month = v.month → 1 ≤ w.day →
      w.day ≤ daysInMonth v.year v.month → w.hour ≤ 23 → w.minute ≤ 59 → w.second ≤ 59 → w.fraction ≤ 63 →
      fractionPosition w = fractionPosition v + 1 →
      w.inRange = true ∧ fractionPosition w = (fractionPosition v + 1) % 201968640000 := by
    intro w hy hm hd hd' hh hmi hs hf hp
    have hr : w.inRange = true := by
      rw [CalendarValue.inRange_iff, hy, hm]
      exact ⟨h1, h2, h3, h4, hd, hd', hh, hmi, hs, hf⟩
    have := fractionPosition_lt hr
    simp only [Config.cycleFractions] at this
    exact ⟨hr, by rw [Nat.mod_eq_of_lt (by omega), hp]⟩
  unfold stepFraction
  split
  · exact within _ rfl rfl h5 h6 h7 h8 h9 (by dsimp only; omega) (by
      simp only [fractionPosition, minuteNumber, dayNumber]; omega)
  · split
    · exact within _ rfl rfl h5 h6 h7 h8 (by dsimp only; omega) (Nat.zero_le _) (by
        simp only [fractionPosition, minuteNumber, dayNumber]; omega)
    · split
      · exact within _ rfl rfl h5 h6 h7 (by dsimp only; omega) (Nat.zero_le _) (Nat.zero_le _) (by
          simp only [fractionPosition, minuteNumber, dayNumber]; omega)
      · split
        · exact within _ rfl rfl h5 h6 (by dsimp only; omega) (Nat.zero_le _) (Nat.zero_le _) (Nat.zero_le _) (by
            simp only [fractionPosition, minuteNumber, dayNumber]; omega)
        · split
          · exact within _ rfl rfl (by dsimp only; omega) ‹_› (Nat.zero_le _) (Nat.zero_le _) (Nat.zero_le _)
              (Nat.zero_le _) (by simp only [fractionPosition, minuteNumber, dayNumber]; omega)
          · obtain ⟨k1, k2, k3, k4, k5, k6⟩ := nextMonth_spec h (by omega)
            refine ⟨k1, ?_⟩
            simp only [fractionPosition, minuteNumber, k2, k3, k4, k5, k6]
            omega

theorem adjustedPosition_lt (present carried sof : Nat) :
    adjustedPosition present carried sof < Config.cycleFractions := by
  unfold adjustedPosition
  simp only [Config.cycleFractions]
  omega

end Sys2Proof.Machine
end

section
/-! PROOFS. Time: every step keeps the calendar in range and TIME-INVALID true to the flag (O10), and between resets the
last-evaluated minute never moves back (O11). -/

namespace Sys2Proof.Machine

/-! ## What a BEACON, a minute event and the other operations leave -/

/-- From s to t only what a BEACON reaches may differ: the table, the claim unit, the channels, the offers, the masks, the
membership controller and two faults. -/
def BeaconWork (s t : State) : Prop :=
  { s with
    table := t.table, claims := t.claims, channels := t.channels, masks := t.masks, member := t.member
    line := { s.line with offers := t.line.offers }
    report := { s.report with faults := { s.report.faults with
      diverged := t.report.faults.diverged, joinStalled := t.report.faults.joinStalled } } } = t

theorem BeaconWork.refl (s : State) : BeaconWork s s := rfl

theorem BeaconWork.trans {s t u : State} (h : BeaconWork s t) (k : BeaconWork t u) : BeaconWork s u := by
  unfold BeaconWork at *
  rw [← h] at k
  exact k

theorem MaskWork.beaconWork {s t : State} (h : MaskWork s t) : BeaconWork s t := by
  unfold MaskWork at h
  unfold BeaconWork
  rw [← h]

theorem ClaimWork.beaconWork {s t : State} (h : ClaimWork s t) : BeaconWork s t := h.maskWork.beaconWork

theorem BeaconWork.frame {s t : State} (h : BeaconWork s t) :
    t.settings = s.settings ∧ t.phase = s.phase ∧ t.calendar = s.calendar ∧ t.lastMinute = s.lastMinute ∧
      t.report.faults.timeInvalid = s.report.faults.timeInvalid := by
  rw [← h]; simp

theorem BeaconWork.untouched {s t : State} (h : BeaconWork s t) :
    t.commands = s.commands ∧ t.report.counters = s.report.counters ∧ t.report.attempts = s.report.attempts ∧
      t.line.activity = s.line.activity ∧ t.line.vetoStreak = s.line.vetoStreak ∧
      t.line.sendStreak = s.line.sendStreak ∧ t.loader = s.loader ∧ t.tickDivider = s.tickDivider ∧
      t.ticked = s.ticked ∧ t.startPeriods = s.startPeriods := by
  rw [← h]; simp

theorem setMember_beaconWork (s : State) (m : Membership) : BeaconWork s (s.setMember m) := rfl

theorem setTable_beaconWork (s : State) (t : List Holding) : BeaconWork s (s.setTable t) := rfl

theorem beaconRenewed_beaconWork (s : State) (d : Bool) : BeaconWork s (s.beaconRenewed d) :=
  ((setTable_beaconWork s _).trans (setMember_beaconWork _ _)).trans (beaconRenewed_work s d).beaconWork

theorem confirmDivergence_beaconWork (s : State) : BeaconWork s s.confirmDivergence := by
  have h : BeaconWork s (s.setFaults { s.report.faults with diverged := true }) := rfl
  exact ((h.trans (setTable_beaconWork _ _)).trans (setMember_beaconWork _ _)).trans
    (confirmDivergence_work s).beaconWork

theorem restartJoin_beaconWork (s : State) : BeaconWork s s.restartJoin := by
  have h : ∀ (t : State) (j : Bool), BeaconWork t (t.setFaults { t.report.faults with joinStalled := j }) :=
    fun _ _ => rfl
  exact (((setTable_beaconWork s _).trans (setMember_beaconWork _ _)).trans (h _ _)).trans
    (restartJoin_work s).beaconWork

theorem completeJoin_beaconWork (s : State) : BeaconWork s s.completeJoin := rfl

theorem beaconAdopted_beaconWork (s : State) (b : BeaconFields) (own : Bool) : BeaconWork s (s.beaconAdopted b own) :=
  (setMember_beaconWork s _).trans (beaconAdopted_work s b own).beaconWork

theorem beaconSynced_beaconWork (s : State) (b : BeaconFields) (own : Bool) (w : Option (Option Witness)) :
    BeaconWork s (s.beaconSynced b own w) := by
  rcases beaconSynced_cases s b own w with ⟨w, -, h⟩ | ⟨-, h⟩ <;> rw [h]
  · rfl
  · exact (setMember_beaconWork s _).trans (confirmDivergence_beaconWork _)

theorem beaconListening_beaconWork (s : State) (b : BeaconFields) (own : Bool) (snapshot : TableDigest) :
    BeaconWork s (s.beaconListening b own snapshot) := by
  have ha := beaconAdopted_beaconWork s b own
  rw [beaconListening_eq]
  split
  · exact ha.trans (completeJoin_beaconWork _)
  · split
    · exact ha.trans (restartJoin_beaconWork _)
    · exact ha

/-- A BEACON reaches nothing else, the calendar's part apart (R60). -/
theorem beaconSettled_work (s : State) (b : BeaconFields) (sender : Nat) (own : Bool) :
    BeaconWork s (s.beaconSettled b sender own) := by
  rw [beaconSettled_eq]
  refine BeaconWork.trans ?_ (judge_work _).beaconWork
  split
  · exact (beaconRenewed_beaconWork s _).trans (beaconSynced_beaconWork _ b own _)
  · exact (beaconRenewed_beaconWork s _).trans (beaconListening_beaconWork _ b own _)

theorem MaskWork.frame {s t : State} (h : MaskWork s t) :
    t.calendar = s.calendar ∧ t.lastMinute = s.lastMinute ∧ t.report = s.report := by
  rw [← h]; simp

/-- What a minute event comes down to: nothing, or a step forward of less than half the cycle with the passes' mask work
and, after a long step, the count of the minutes left out (R126 to R130). -/
theorem minuteEvent_cases (s : State) (minute : Nat) :
    s.minuteEvent minute = s ∨
      ∃ last t u, s.lastMinute = some last ∧ 1 ≤ forwardDistance last minute ∧
        forwardDistance last minute < Config.halfCycleMinutes ∧ MaskWork s t ∧
        (u = t ∨ ∃ n, u = t.countMissed n) ∧ s.minuteEvent minute = { u with lastMinute := some minute } := by
  unfold State.minuteEvent
  split
  · exact .inl rfl
  · rename_i last hl
    dsimp only
    split
    · rename_i hd
      exact .inr ⟨last, _, _, hl, hd.1, Nat.lt_of_le_of_lt hd.2 (by decide), evaluateAfter_work s last _, .inl rfl, rfl⟩
    · split
      · rename_i hd
        exact .inr ⟨last, _, _, hl, Nat.lt_of_le_of_lt (by decide) hd.1, hd.2, evaluateMinute_work s minute,
          .inr ⟨_, rfl⟩, rfl⟩
      · exact .inl rfl

/-! ## The time invariant -/

theorem zero_lt_cycleFractions : 0 < Config.cycleFractions := by decide

namespace State.timeInv

theorem congr {s t : State} (h : s.timeInv) (hc : t.calendar = s.calendar)
    (hf : t.report.faults.timeInvalid = s.report.faults.timeInvalid) (hl : t.lastMinute = s.lastMinute)
    (hp : t.phase = s.phase) (hs : t.startsInLoading) : t.timeInv := by
  obtain ⟨h1, h2, h3, h4, h5, h6, -⟩ := h
  refine ⟨?_, ?_, ?_, ?_, ?_, ?_, hs⟩
  · rw [hc]; exact h1
  · rw [hc]; exact h2
  · rw [hp, hf, hc]; exact h3
  · rw [hp, hc]; exact h4
  · rw [hl, hc]; exact h5
  · rw [hl]; exact h6

theorem of_working {s t : State} (h : s.timeInv) (hw : s.member.state.working = true) (hc : t.calendar = s.calendar)
    (hf : t.report.faults.timeInvalid = s.report.faults.timeInvalid) (hl : t.lastMinute = s.lastMinute)
    (hp : t.phase = s.phase) : t.timeInv :=
  h.congr hc hf hl hp (h.2.2.2.2.2.2.of_phase (MemberState.ne_loading_of_working hw) hp)

theorem beaconWork {s t : State} (h : s.timeInv) (hw : s.member.state.working = true) (hb : BeaconWork s t) :
    t.timeInv := by
  obtain ⟨-, h2, h3, h4, h5⟩ := hb.frame
  exact h.of_working hw h3 h5 h4 h2

theorem maskWork {s t : State} (h : s.timeInv) (hm : MaskWork s t) : t.timeInv := by
  obtain ⟨h1, h2, h3⟩ := hm.frame
  exact h.congr h1 (by rw [h3]) h2 hm.phase (h.2.2.2.2.2.2.of_eq hm.phase (congrArg Membership.state hm.member))

theorem setTable {s : State} (h : s.timeInv) (t : List Holding) : (s.setTable t).timeInv := h

theorem setCounters {s : State} (h : s.timeInv) (c : Counters) : (s.setCounters c).timeInv := h

theorem enterMute {s : State} (h : s.timeInv) (hw : s.member.state.working = true) {f : FaultSet}
    (hf : f.timeInvalid = s.report.faults.timeInvalid) : (s.enterMute f).timeInv := by
  have hm : (s.muted f).timeInv := h.of_working hw rfl hf rfl rfl
  exact hm.maskWork (enterMute_work s f).maskWork

theorem afterFrame {s : State} (h : s.timeInv) (f : Frame) (part : Option Offer) : (s.afterFrame f part).timeInv := by
  have hf : (s.afterFrame f part).report.faults.timeInvalid = s.report.faults.timeInvalid := by
    have hc : ((s.lineAccepted f).countJudgements f).report.faults.timeInvalid = s.report.faults.timeInvalid := by
      rw [(countJudgements_frame _ f).2]; rfl
    cases part with
    | none => exact hc
    | some o =>
      rw [← hc]
      change (State.endOwnAttempt _ o).report.faults.timeInvalid = _
      rw [endOwnAttempt_frame]
  have hfr := afterFrame_frame s f part
  refine h.congr ?_ hf ?_ ?_ (h.2.2.2.2.2.2.of_eq ?_ ?_) <;> rw [hfr]

/-- A minute event keeps the invariant where its minute is one of the cycle. -/
theorem minuteEvent {s : State} (h : s.timeInv) {minute : Nat} (hm : minute < Config.cycleMinutes) :
    (s.minuteEvent minute).timeInv := by
  rcases minuteEvent_cases s minute with he | ⟨last, t, u, hl, -, -, hw, hu, he⟩ <;> rw [he]
  · exact h
  · have hut : u.timeInv ∧ u.lastMinute = s.lastMinute := by
      obtain ⟨-, h2, -⟩ := hw.frame
      rcases hu with rfl | ⟨n, rfl⟩
      · exact ⟨h.maskWork hw, h2⟩
      · exact ⟨(h.maskWork hw).setCounters _, h2⟩
    obtain ⟨⟨h1, h2, h3, h4, h5, -, h7⟩, hlast⟩ := hut
    rw [hlast, hl] at h5
    refine ⟨h1, h2, h3, h4, h5, ?_, h7⟩
    rintro m ⟨⟩
    exact hm

/-- Taking a carried time keeps the invariant (R109, R113, R127). -/
theorem adjustTime {s : State} (h : s.timeInv) (hw : s.member.state.working = true) (v : CalendarValue)
    (restart : Bool) : (s.adjustTime v restart).timeInv := by
  obtain ⟨h1, h2, h3, h4, h5, h6, h7⟩ := id h
  have hp := h7.running (MemberState.ne_loading_of_working hw)
  have hv : (s.calendar.adjusted v restart).value.inRange = true :=
    (fractionPosition_valueAt (adjustedPosition_lt _ _ _)).1
  have hm := minuteNumber_lt hv
  unfold State.adjustTime
  split
  · dsimp only
    split
    · rename_i hvalid
      have ha : (s.setCalendar (s.calendar.adjusted v restart)).timeInv := by
        rw [hvalid] at h3 h5
        exact ⟨hv, h2, h3, fun hn => absurd hp hn, h5, h6, h7⟩
      split
      · exact ha
      · exact ha.minuteEvent hm
    · exact ⟨hv, h2, fun _ => rfl, fun hn => absurd hp hn, rfl, by rintro m ⟨⟩; exact hm, h7⟩
  · exact h

/-- A fraction step keeps the invariant (R102, R112). -/
theorem fractionStep {s : State} (h : s.timeInv) : s.fractionStep.timeInv := by
  obtain ⟨h1, h2, h3, h4, h5, h6, h7⟩ := id h
  have hv := (stepFraction_spec h1).1
  have hc : (s.setCalendar { s.calendar with value := stepFraction s.calendar.value, phase := 0 }).timeInv :=
    ⟨hv, h2, h3, h4, h5, h6, h7⟩
  unfold State.fractionStep
  dsimp only
  split
  · exact hc.minuteEvent (minuteNumber_lt hv)
  · exact hc

theorem endRead {s : State} (h : s.timeInv) (hl : s.isLoading = true) (image : List Byte) : (s.endRead image).timeInv := by
  obtain ⟨hp, -⟩ := State.isLoading_state hl
  have starts {t : State} (hpt : t.phase = s.phase) : t.startsInLoading := fun hn => absurd (hpt.trans hp) hn
  rcases endRead_cases s image with ⟨failure, -, he⟩ | ⟨outcome, he⟩ | ⟨c, hc, he⟩ <;> rw [he]
  · exact h
  · refine h.congr rfl ?_ rfl rfl (starts rfl)
    cases outcome <;> rfl
  · exact h.congr rfl rfl rfl rfl (starts rfl)

end State.timeInv

/-- The time invariant is kept by every operation of a step. -/
theorem timeInv_keeps : Keeps State.timeInv where
  pending _ _ h := h
  releases _ _ h _ := h
  starts s _ h hp := by
    obtain ⟨h1, h2, h3, h4, h5, h6, h7⟩ := h
    have hn : s.phase ≠ .running := by rw [hp]; nofun
    exact ⟨h1, h2, nofun, fun _ => h4 hn, h5, h6, fun _ => h7 hn⟩
  waits _ _ h _ _ := h
  waitEnds s h hp := by
    obtain ⟨-, -, -, h4, h5, -⟩ := h
    rw [h4 (by rw [hp]; nofun)] at h5
    refine ⟨rfl, zero_lt_cycleFractions, fun _ => rfl, fun hn => absurd rfl hn, h5, ?_, fun hn => absurd rfl hn⟩
    intro m hm
    have hs : s.lastMinute = some m := hm
    rw [hs] at h5
    cases h5
  loads _ _ h _ _ := h
  readEnds s image h hl := h.endRead hl image
  quiet _ _ _ _ _ h _ _ := h
  records s h _ := by
    obtain ⟨h1, h2, h3, h4, h5, h6, h7⟩ := h
    exact ⟨h1, fractionPosition_lt h1, h3, h4, h5, h6, h7⟩
  begins s o h _ _ := by
    have hr : s.recordSof.timeInv := by
      obtain ⟨h1, h2, h3, h4, h5, h6, h7⟩ := h
      exact ⟨h1, fractionPosition_lt h1, h3, h4, h5, h6, h7⟩
    unfold State.beginAttempt
    dsimp only
    split <;> exact hr
  counts _ _ h _ := h
  fails s o f a b h ho _ _ := by
    have hs : ((s.attemptFailed a b).sourceFailed o).timeInv := by
      rw [sourceFailed_frame]; exact h
    rcases failAttempt_cases s o a b with ⟨-, he⟩ | ⟨-, he⟩ <;> rw [he]
    · exact hs
    · exact hs.enterMute (by rw [sourceFailed_frame]; exact MemberState.working_of_online ho) rfl
  vetoes s b h ho := by
    have hs : (s.vetoCast b).timeInv := h
    rcases castVeto_cases s b with ⟨-, he⟩ | ⟨-, he⟩ <;> rw [he]
    · exact hs
    · exact hs.enterMute (MemberState.working_of_online ho) rfl
  accepts s f part h _ := h.afterFrame f part
  halts s f h ho _ hf := h.of_working (MemberState.working_of_online ho) rfl hf rfl rfl
  move s t h _ hm := h.maskWork hm.work.maskWork
  masks s m h _ := h.maskWork (changeMasks_work s m)
  beacon s b sender own h ho _ := h.beaconWork (MemberState.working_of_online ho) (beaconSettled_work s b sender own)
  claim s f part c u d h hp _ _ _ := by
    have ha := h.afterFrame f part
    obtain ⟨t, n, hw, -⟩ := applyClaim_frame f.source.toNat (Class.ofBits f.cls) c u d part.isSome (s.afterFrame f part)
    exact ((ha.setTable t).setCounters _).maskWork hw.maskWork
  release s f part c h _ _ _ _ _ := by
    have ha := h.afterFrame f part
    rcases applyRelease_work f.source.toNat c part.isSome (s.afterFrame f part) with hw | hw
    · exact ha.maskWork hw.maskWork
    · exact (ha.setTable _).maskWork hw.maskWork
  renew s source payload own h _ _ _ := by
    rw [applyRenew_eq]
    exact (h.setTable _).maskWork (judge_work _).maskWork
  query s target flags own h _ := by
    unfold State.applyQuery
    split
    · refine h.congr rfl ?_ rfl rfl h.2.2.2.2.2.2
      dsimp only
      change (if flags.getLsbD 0 then s.report.faults.clearLatched else s.report.faults).timeInvalid = _
      split <;> rfl
    · exact h
  beaconTimer _ _ h _ := h
  beaconOffer _ h _ := h
  muteCounts _ _ h _ := h
  muteEnds s h hm := h.of_working (by rw [hm]; rfl) rfl rfl rfl rfl
  counted _ h _ := h
  pin _ _ _ h := h
  input _ _ _ h _ := h
  raises s c h _ := by
    refine h.congr ?_ ?_ ?_ ?_ (h.2.2.2.2.2.2.of_eq ?_ ?_)
    case refine_2 =>
      unfold State.raiseCommand
      repeat' split
      all_goals rfl
    all_goals rw [raiseCommand_frame]
  blink _ _ h _ _ := h
  phases s p h _ := by
    obtain ⟨h1, h2, h3, h4, h5, h6, h7⟩ := h
    exact ⟨h1, h2, h3, h4, h5, h6, h7⟩
  divides _ _ _ h _ _ := h

/-- Settles O10: every operation of a step keeps the time invariant. -/
theorem stepKeepsTimeSound : Obligations.StepKeepsTimeSound := fun _ _ hs h =>
  timeInv_keeps.step (fun _ v restart hs ho => hs.adjustTime (MemberState.working_of_online ho) v restart)
    (fun _ hs _ => hs.fractionStep)
    (fun s k t _ h => by
      cases h
      exact ⟨rfl, zero_lt_cycleFractions, nofun, fun _ => rfl, rfl, nofun, fun _ => rfl⟩) hs h

/-! ## The last-evaluated minute -/

/-- A condition on the last-evaluated minute alone is kept by every operation that does not move the calendar. -/
theorem lastMinute_keeps (R : Option Nat → Prop) : Keeps fun s => R s.lastMinute := by
  have of_eq : ∀ {s t : State}, R s.lastMinute → t.lastMinute = s.lastMinute → R t.lastMinute :=
    fun h he => he ▸ h
  have mute : ∀ (s : State) f, (s.enterMute f).lastMinute = s.lastMinute := fun s f =>
    (enterMute_work s f).lastMinute
  exact {
    pending := fun _ _ h => h
    releases := fun _ _ h _ => h
    starts := fun _ _ h _ => h
    waits := fun _ _ h _ _ => h
    waitEnds := fun _ h _ => h
    loads := fun _ _ h _ _ => h
    readEnds := fun s image h _ => of_eq h (by rw [← endRead_frame])
    quiet := fun _ _ _ _ _ h _ _ => h
    records := fun _ h _ => h
    begins := fun s o h _ _ => by
      unfold State.beginAttempt
      dsimp only
      split <;> exact h
    counts := fun _ _ h _ => h
    fails := fun s o f a b h _ _ _ => by
      have hs : ((s.attemptFailed a b).sourceFailed o).lastMinute = s.lastMinute := by rw [sourceFailed_frame]; rfl
      rcases failAttempt_cases s o a b with ⟨-, he⟩ | ⟨-, he⟩ <;> rw [he]
      · exact of_eq h hs
      · exact of_eq h ((mute _ _).trans hs)
    vetoes := fun s b h _ => by
      rcases castVeto_cases s b with ⟨-, he⟩ | ⟨-, he⟩ <;> rw [he]
      · exact h
      · exact of_eq h (mute _ _)
    accepts := fun s f part h _ => of_eq h (by rw [afterFrame_frame])
    halts := fun _ _ h _ _ _ => h
    move := fun s t h _ hm => of_eq h hm.work.lastMinute
    masks := fun s m h _ => of_eq h (changeMasks_work s m).frame.2.1
    beacon := fun s b sender own h _ _ => of_eq h (beaconSettled_work s b sender own).frame.2.2.2.1
    claim := fun s f part c u d h _ _ _ _ => by
      obtain ⟨t, n, hw, -⟩ := applyClaim_frame f.source.toNat (Class.ofBits f.cls) c u d part.isSome
        (s.afterFrame f part)
      exact of_eq h (hw.lastMinute.trans (by rw [afterFrame_frame]; rfl))
    release := fun s f part c h _ _ _ _ _ => by
      rcases applyRelease_work f.source.toNat c part.isSome (s.afterFrame f part) with hw | hw
      · exact of_eq h (hw.lastMinute.trans (by rw [afterFrame_frame]))
      · exact of_eq h (hw.lastMinute.trans (by rw [afterFrame_frame]; rfl))
    renew := fun s source payload own h _ _ _ => of_eq h (judge_work (s.setTable _)).lastMinute
    query := fun s target flags own h _ => by
      unfold State.applyQuery
      split <;> exact h
    beaconTimer := fun _ _ h _ => h
    beaconOffer := fun _ h _ => h
    muteCounts := fun _ _ h _ => h
    muteEnds := fun _ h _ => h
    counted := fun _ h _ => h
    pin := fun _ _ _ h => h
    input := fun _ _ _ h _ => h
    raises := fun s c h _ => of_eq h (by rw [raiseCommand_frame])
    blink := fun _ _ h _ _ => h
    phases := fun _ _ h _ => h
    divides := fun _ _ _ h _ _ => h }

theorem Keeps.and {P Q : State → Prop} (K : Keeps P) (L : Keeps Q) : Keeps fun s => P s ∧ Q s where
  pending s q h := ⟨K.pending s q h.1, L.pending s q h.2⟩
  releases s r h hp := ⟨K.releases s r h.1 hp, L.releases s r h.2 hp⟩
  starts s r h hp := ⟨K.starts s r h.1 hp, L.starts s r h.2 hp⟩
  waits s n h hp hn := ⟨K.waits s n h.1 hp hn, L.waits s n h.2 hp hn⟩
  waitEnds s h hp := ⟨K.waitEnds s h.1 hp, L.waitEnds s h.2 hp⟩
  loads s l h hl hb := ⟨K.loads s l h.1 hl hb, L.loads s l h.2 hl hb⟩
  readEnds s i h hl := ⟨K.readEnds s i h.1 hl, L.readEnds s i h.2 hl⟩
  quiet s a n b g h ho ha := ⟨K.quiet s a n b g h.1 ho ha, L.quiet s a n b g h.2 ho ha⟩
  records s h ho := ⟨K.records s h.1 ho, L.records s h.2 ho⟩
  begins s o h ho hm := ⟨K.begins s o h.1 ho hm, L.begins s o h.2 ho hm⟩
  counts s c h hc := ⟨K.counts s c h.1 hc, L.counts s c h.2 hc⟩
  fails s o f a b h ho ht ha := ⟨K.fails s o f a b h.1 ho ht ha, L.fails s o f a b h.2 ho ht ha⟩
  vetoes s b h ho := ⟨K.vetoes s b h.1 ho, L.vetoes s b h.2 ho⟩
  accepts s f p h hp := ⟨K.accepts s f p h.1 hp, L.accepts s f p h.2 hp⟩
  halts s f h ho hn hf := ⟨K.halts s f h.1 ho hn hf, L.halts s f h.2 ho hn hf⟩
  move s t h hw hm := ⟨K.move s t h.1 hw hm, L.move s t h.2 hw hm⟩
  masks s m h hw := ⟨K.masks s m h.1 hw, L.masks s m h.2 hw⟩
  beacon s b x o h ho ha := ⟨K.beacon s b x o h.1 ho ha, L.beacon s b x o h.2 ho ha⟩
  claim s f p c u d h hp hn hj hk := ⟨K.claim s f p c u d h.1 hp hn hj hk, L.claim s f p c u d h.2 hp hn hj hk⟩
  release s f p c h hp hn hj hk hc := ⟨K.release s f p c h.1 hp hn hj hk hc, L.release s f p c h.2 hp hn hj hk hc⟩
  renew s x p o h ho h1 h2 := ⟨K.renew s x p o h.1 ho h1 h2, L.renew s x p o h.2 ho h1 h2⟩
  query s t f o h ho := ⟨K.query s t f o h.1 ho, L.query s t f o h.2 ho⟩
  beaconTimer s b h ho := ⟨K.beaconTimer s b h.1 ho, L.beaconTimer s b h.2 ho⟩
  beaconOffer s h ho := ⟨K.beaconOffer s h.1 ho, L.beaconOffer s h.2 ho⟩
  muteCounts s n h hm := ⟨K.muteCounts s n h.1 hm, L.muteCounts s n h.2 hm⟩
  muteEnds s h hm := ⟨K.muteEnds s h.1 hm, L.muteEnds s h.2 hm⟩
  counted s h hw := ⟨K.counted s h.1 hw, L.counted s h.2 hw⟩
  pin s n b h := ⟨K.pin s n b h.1, L.pin s n b h.2⟩
  input s n i h hw := ⟨K.input s n i h.1 hw, L.input s n i h.2 hw⟩
  raises s c h hw := ⟨K.raises s c h.1 hw, L.raises s c h.2 hw⟩
  blink s b h hm hb := ⟨K.blink s b h.1 hm hb, L.blink s b h.2 hm hb⟩
  phases s p h hp := ⟨K.phases s p h.1 hp, L.phases s p h.2 hp⟩
  divides s d k h hd hk := ⟨K.divides s d k h.1 hd hk, L.divides s d k h.2 hd hk⟩

/-- The last-evaluated minute stands at `last`, or less than half the cycle after it. -/
def notBehind (last : Nat) (minute : Option Nat) : Prop :=
  ∃ m, minute = some m ∧ (m = last ∨
    (1 ≤ forwardDistance last m ∧ forwardDistance last m < Config.halfCycleMinutes))

theorem minuteEvent_notBehind {s : State} {last : Nat} (h : s.lastMinute = some last) (minute : Nat) :
    notBehind last (s.minuteEvent minute).lastMinute := by
  rcases minuteEvent_cases s minute with he | ⟨last', t, u, hl, h1, h2, -, -, he⟩ <;> rw [he]
  · exact ⟨last, h, .inl rfl⟩
  · rw [h] at hl
    cases hl
    exact ⟨minute, rfl, .inr ⟨h1, h2⟩⟩

/-- Settles O11: of a step's operations only the calendar's movement writes the last-evaluated minute, once a step. -/
theorem lastMinuteNeverMovesBack : Obligations.LastMinuteNeverMovesBack := by
  intro s t last hinv hlast hreset hstep
  have K := timeInv_keeps.and (lastMinute_keeps fun m => m = some last)
  have L := lastMinute_keeps (notBehind last)
  have hPQ : ∀ u : State, u.timeInv ∧ u.lastMinute = some last → notBehind last u.lastMinute :=
    fun u hu => ⟨last, hu.2, .inl rfl⟩
  have hfraction : ∀ u : State, u.timeInv ∧ u.lastMinute = some last → u.calendarCounts = true →
      notBehind last u.fractionStep.lastMinute := by
    rintro u ⟨hu, hl⟩ -
    unfold State.fractionStep
    dsimp only
    split
    · exact minuteEvent_notBehind (by exact hl) _
    · exact hPQ u ⟨hu, hl⟩
  have hadjust : ∀ (u : State) (v : CalendarValue) (restart : Bool), u.timeInv ∧ u.lastMinute = some last →
      u.member.state.online = true → notBehind last (u.adjustTime v restart).lastMinute := by
    rintro u v restart ⟨hu, hl⟩ -
    have hvalid : u.calendar.valid = true := by
      have h5 := hu.2.2.2.2.1
      rw [hl] at h5
      exact h5.symm
    unfold State.adjustTime
    split
    · dsimp only
      split
      · exact hPQ u ⟨hu, hl⟩
      · exact minuteEvent_notBehind (by exact hl) _
    · exact hPQ u ⟨hu, hl⟩
  unfold Machine.step at hstep
  split at hstep
  · cases hstep
    exact K.oscillatorPeriod L.toKeepsEvents hPQ hfraction ⟨hinv, hlast⟩
  · rename_i c rest hp
    exact K.exec hPQ hadjust hfraction (fun k hk => hreset k rest (hk ▸ hp)) (K.pending s rest ⟨hinv, hlast⟩) hstep

end Sys2Proof.Machine
end

section
/-! PROOFS. Every step keeps the counts within their bounds (O9). -/

namespace Sys2Proof.Machine

/-! ## The operations as chains of moves and writes -/

/-- What the frames' effects are made of: moves, writes of the table, the membership controller, the masks and the
report unit, a confirmed divergence, the promotion of a PENDING channel, and the end of an admitted claim. -/
structure Effects (P : State → Prop) : Prop where
  move : ∀ s t, Move s t → P s → P t
  table : ∀ s t, P s → P (s.setTable t)
  member : ∀ s m, P s → (m.state = s.member.state ∨ m.state = .synced) → P (s.setMember m)
  changeMasks : ∀ s m, P s → P (s.changeMasks m)
  diverge : ∀ s, P s → s.member.state.online = true → P s.confirmDivergence
  beaconOffer : ∀ s, P s → P (s.setOffers { s.line.offers with beacon := false })
  faults : ∀ s f, P s → P (s.setFaults f)
  voided : ∀ s, P s → P s.countVoided
  promote : ∀ s n d, P s → s.channelState n = .pending d → P (s.switchOn n d)
  settle : ∀ s o b, P s → s.claims.outstanding = some o → P (s.settleAdmitted o b)

namespace Effects

variable {P : State → Prop}

theorem moves (E : Effects P) {s t : State} (h : Moves s t) (hs : P s) : P t := Moves.keeps E.move h hs

theorem givePromotion (E : Effects P) {s : State} (r : Option Holding) (hs : P s) : P (s.givePromotion r) := by
  unfold State.givePromotion
  split
  · split
    · unfold State.ownPromoted
      split
      · exact hs
      · split
        · exact E.promote s _ _ hs ‹_›
        · exact hs
    · exact hs
  · exact hs

theorem settleOwnClaim (E : Effects P) {s : State} (r : ClaimResult) (c : ChannelIx) (hs : P s) :
    P (s.settleOwnClaim r c) := by
  unfold State.settleOwnClaim
  split
  · rename_i o ho
    split
    · split
      · exact E.settle s o true hs ho
      · exact E.settle s o false hs ho
      · exact E.moves (settleRefused_moves (s := s.countVoided) ho) (E.voided s hs)
      · exact E.moves (settleRefused_moves (s := s.countVoided) ho) (E.voided s hs)
      · exact E.moves (settleRefused_moves ho) hs
    · exact hs
  · exact hs

theorem clearTable (E : Effects P) {s : State} (hs : P s) : P s.clearTable :=
  E.moves (clearTable_moves s) (E.table s [] hs)

theorem applyClaim (E : Effects P) (source : Nat) (cls : Class) (c : ChannelIx) (units : Nat) (d own : Bool) {s : State}
    (hs : P s) : P (State.applyClaim source cls c units d own s) := by
  rcases applyClaim_cases source cls c units d own s with ⟨-, h⟩ | ⟨hm, -, h⟩ <;> rw [h]
  · exact hs
  · have hshed : P ((s.setTable (s.evaluated source cls c units d).table).giveSheds
        (s.evaluated source cls c units d).victims) :=
      E.moves (giveSheds_moves _ (by change s.member.state.online = true; rw [hm]; rfl)) (E.table s _ hs)
    refine E.moves ((dropIdleRenew_moves _).trans (judge_moves _)) ?_
    split
    · exact E.settleOwnClaim _ _ hshed
    · exact hshed

theorem applyRelease (E : Effects P) (source : Nat) (c : ChannelIx) (own : Bool) {s : State} (hs : P s) :
    P (State.applyRelease source c own s) := by
  rcases applyRelease_cases source c own s with ⟨-, h⟩ | ⟨-, h⟩ <;> rw [h]
  · exact E.moves (judge_moves s) hs
  · have hc := E.moves Move.holdClear.moves (E.table s (s.releasedTable source c).1 hs)
    refine E.moves ((dropIdleRenew_moves _).trans (judge_moves _)) (E.givePromotion _ ?_)
    split
    · exact E.moves (ownReleased_moves _ c) hc
    · exact hc

theorem beaconTable (E : Effects P) {s : State} (d : Bool) (hl : s.drivesLine = false) (hs : P s) :
    P (s.beaconTable d) := by
  have he : P ((s.setTable s.agedTable.1).giveExpiries (expiredRecords (ageTable s.table))) :=
    E.moves (giveExpiries_moves _ hl) (E.table s _ hs)
  have hsig : P (if expiredRecords (ageTable s.table) = [] then
      (s.setTable s.agedTable.1).giveExpiries (expiredRecords (ageTable s.table))
    else ((s.setTable s.agedTable.1).giveExpiries (expiredRecords (ageTable s.table))).holdClear) := by
    split
    · exact he
    · exact E.moves Move.holdClear.moves he
  unfold State.beaconTable
  dsimp only
  split
  · exact hsig
  · exact E.givePromotion _ hsig

theorem beaconRenewed (E : Effects P) {s : State} (d : Bool) (hl : s.drivesLine = false)
    (ho : s.member.state.online = true) (hs : P s) : P (s.beaconRenewed d) := by
  have ho' : (s.beaconTable d).restartBeacon.dropIdleRenew.member.state.online = true := by
    rw [(dropIdleRenew_work _).member, ← ho, ← beaconTable_member s d]
    rfl
  exact E.moves ((dropIdleRenew_moves _).trans (placeRenew_moves ho'))
    (E.beaconOffer _ (E.member _ _ (E.beaconTable d hl hs) (.inl rfl)))

theorem beaconListening (E : Effects P) {s : State} (b : BeaconFields) (own : Bool) (snapshot : TableDigest)
    (hs : P s) : P (s.beaconListening b own snapshot) := by
  have ha : P (s.beaconAdopted b own) := by
    unfold State.beaconAdopted
    dsimp only
    split
    · exact E.changeMasks _ _ (E.member s _ hs (.inl rfl))
    · exact E.member s _ hs (.inl rfl)
  rw [beaconListening_eq]
  split
  · exact E.faults _ _ (E.member _ _ ha (.inr rfl))
  · split
    · exact E.faults _ _ (E.member _ _ (E.clearTable ha) (.inl rfl))
    · exact ha

theorem beaconSettled (E : Effects P) {s : State} (b : BeaconFields) (sender : Nat) (own : Bool)
    (hl : s.drivesLine = false) (ho : s.member.state.online = true) (hs : P s) :
    P (s.beaconSettled b sender own) := by
  rw [beaconSettled_eq]
  refine E.moves (judge_moves _) ?_
  split
  · have hr := E.beaconRenewed (s.witnessUpdate b sender own).isNone hl ho hs
    have hro : (s.beaconRenewed (s.witnessUpdate b sender own).isNone).member.state.online = true := by
      rw [(beaconRenewed_work s _).member]; exact ho
    generalize s.beaconRenewed (s.witnessUpdate b sender own).isNone = t at *
    rcases beaconSynced_cases t b own (s.witnessUpdate b sender own) with ⟨w, -, h⟩ | ⟨-, h⟩ <;> rw [h]
    · exact E.member _ _ hr (.inl rfl)
    · exact E.diverge _ (E.member _ _ hr (.inl rfl)) hro
  · exact E.beaconListening b own _ (E.beaconRenewed false hl ho hs)

end Effects

/-- One channel at MUTE entry: a chain of moves, or a STOPPING channel that goes OFF (table of R74). -/
theorem muteChannel_cases (s : State) (n : ChannelIx) :
    Moves s (s.muteChannel n) ∨ (s.channelState n = .stopping ∧ s.muteChannel n = s.setChannelState n .off) := by
  unfold State.muteChannel
  split
  · exact .inl .refl
  · split
    · rename_i d h
      exact .inl (goOff_rest_requeue_moves h)
    · rename_i d h
      exact .inl (goOff_requeue_moves h)
    · exact .inr ⟨‹_›, rfl⟩
    · exact .inl .refl
    · split
      · rename_i o ho
        split
        · exact .inl (Move.returnClaim o o false ho rfl rfl).moves
        · exact .inl .refl
      · exact .inl .refl

/-- A predicate that moves and the channels' going OFF keep is kept by the channels' part of MUTE entry. -/
theorem muteChannels_keeps {P : State → Prop} (hmove : ∀ s t, Move s t → P s → P t)
    (hstop : ∀ s n, P s → s.channelState n = .stopping → P (s.setChannelState n .off)) {s : State} {f : FaultSet}
    (hs : P (s.muteDropped f)) : P (s.muteChannels f) := by
  unfold State.muteChannels
  generalize s.muteDropped f = t at *
  generalize allEight = l
  induction l generalizing t with
  | nil => exact hs
  | cons n l ih =>
    refine ih _ ?_
    rcases muteChannel_cases t n with h | ⟨h, he⟩
    · exact Moves.keeps hmove h hs
    · rw [he]; exact hstop t n hs h

/-- A predicate that moves keep, whatever the table, the membership controller and the faults, is kept by a confirmed
divergence. -/
theorem confirmDivergence_keeps {P : State → Prop} (hmove : ∀ s t, Move s t → P s → P t)
    (htable : ∀ s t, P s → P (s.setTable t)) (hmember : ∀ s m, P s → P (s.setMember m))
    (hfaults : ∀ s f, P s → P (s.setFaults f)) {s : State} (ho : s.member.state.online = true) (hs : P s) :
    P s.confirmDivergence :=
  hmember _ _ (Moves.keeps hmove (clearTable_moves _)
    (htable _ _ (Moves.keeps hmove (divergeChannels_moves (by exact ho)) (hfaults s _ hs))))

/-! ## The outstanding claim's attempts -/

/-- Joining the queue leaves the outstanding claim, its number apart (R34). -/
theorem enqueue_outstanding (u : ClaimUnit) (n : ChannelIx) (d : Demand) :
    ∃ f : Nat → Nat, (u.enqueue n d).outstanding = u.outstanding.map fun c => { c with number := f c.number } := by
  have hid : u.outstanding = u.outstanding.map fun c => { c with number := c.number } := by
    cases u.outstanding <;> rfl
  unfold ClaimUnit.enqueue
  split
  · exact ⟨id, hid⟩
  · unfold ClaimUnit.append
    dsimp only
    split
    · exact ⟨_, rfl⟩
    · exact ⟨id, hid⟩

/-- The outstanding claim's attempt count is below its limit (R184). -/
def State.attemptsBounded (s : State) : Prop :=
  ∀ o, s.claims.outstanding = some o → o.attempts < Config.attemptLimit

theorem attemptsBounded_of_none {s : State} (h : s.claims.outstanding = none) : s.attemptsBounded := by
  intro o ho
  rw [h] at ho
  cases ho

theorem serveEntry_outstanding (s : State) (e : Entry) :
    (s.serveEntry e).claims.outstanding = s.claims.outstanding := by
  unfold State.serveEntry
  split <;> rfl

theorem enqueue_attemptsBounded {s : State} (h : s.attemptsBounded) (n : ChannelIx) (d : Demand) :
    (s.setClaims (s.claims.enqueue n d)).attemptsBounded := by
  obtain ⟨f, hf⟩ := enqueue_outstanding s.claims n d
  intro o ho
  rw [State.setClaims_claims, hf] at ho
  obtain ⟨c, hc, rfl⟩ := Option.map_eq_some_iff.1 ho
  exact h c hc

theorem requeue_outstanding_none {s : State} (h : s.claims.outstanding = none) (n : ChannelIx) (d : Demand) :
    (s.requeue n d).claims.outstanding = none := by
  unfold State.requeue
  split
  · exact h
  · obtain ⟨f, hf⟩ := enqueue_outstanding s.claims n d
    rw [State.setClaims_claims, hf, h]
    rfl

/-- An admitted claim is outstanding no longer (R48). -/
theorem settleAdmitted_outstanding (s : State) (o : OutstandingClaim) (b : Bool) :
    (s.settleAdmitted o b).claims.outstanding = none := by
  unfold State.settleAdmitted
  dsimp only
  repeat' split
  all_goals first | rfl | exact requeue_outstanding_none rfl _ _

theorem Move.attemptsBounded {s t : State} (hm : Move s t) (h : s.attemptsBounded) : t.attemptsBounded := by
  cases hm with
  | enqueue n d _ => exact enqueue_attemptsBounded h n d
  | serve e =>
    intro o ho
    exact h o ((serveEntry_outstanding s e).symm.trans ho)
  | takeUp e =>
    rintro o ⟨⟩
    exact Nat.zero_lt_succ 2
  | dropClaim => exact attemptsBounded_of_none rfl
  | returnClaim => exact attemptsBounded_of_none rfl
  | amend o c ho _ _ ha =>
    rintro x ⟨⟩
    exact ha (h o ho)
  | _ => exact h

theorem attemptsBounded_effects : Effects State.attemptsBounded where
  move _ _ hm h := hm.attemptsBounded h
  table _ _ h := h
  member _ _ h _ := h
  changeMasks s m h := Moves.keeps (fun _ _ => Move.attemptsBounded) (changeMasks_moves s m) h
  diverge _ h ho := confirmDivergence_keeps (P := State.attemptsBounded) (fun _ _ => Move.attemptsBounded)
    (fun _ _ h => h) (fun _ _ h => h) (fun _ _ h => h) ho h
  beaconOffer _ h := h
  faults _ _ h := h
  voided _ h := h
  promote _ _ _ h _ := h
  settle s o b _ _ := attemptsBounded_of_none (settleAdmitted_outstanding s o b)

/-! ## The bounds -/

/-- The bounds of the counts, block by block, the two streaks apart. -/
structure State.Limits (s : State) : Prop where
  counters : s.report.counters.bounded
  attempts : s.report.attempts < Config.attemptLimit
  blink : s.member.state = .halted → s.report.blink < blinkCycle s.report.faults.haltCode
  queue : s.commands.queue.length ≤ Config.commandCapacity
  headAttempts : s.commands.headAttempts < Config.attemptLimit
  witness : ∀ w, s.member.witness = some w → 1 ≤ w.count ∧ w.count < Config.witnessLimit
  heard : s.member.state = .listening → s.member.beaconsHeard < 2 * s.settings.lease
  lease : s.member.state.working = true → 4 ≤ s.settings.lease
  claim : s.attemptsBounded
  phase : s.calendar.phase < Config.dividerPeriods
  divider : s.tickDivider < Config.dividerPeriods
  ticked : s.ticked = true → s.tickDivider = 0
  loader : s.loader.bounded
  wait : s.startPeriods ≤ Config.startWaitPeriods
  starts : s.startsInLoading

/-- The bounds, the two streaks with them. -/
structure State.Bounds (s : State) : Prop extends s.Limits where
  vetoStreak : s.line.vetoStreak < Config.vetoStreakLimit
  sendStreak : s.line.sendStreak < Config.sendStreakLimit

theorem boundsInv_iff (s : State) : s.boundsInv ↔ s.Bounds := by
  constructor
  · rintro ⟨h1, h2, h3, h4, h5, h6, h7, h8, h9, h10, h11, h12, h13, h14, h15, h16, h17, h18, h19⟩
    exact ⟨⟨h1, h7, h18, h2, h6, h3, h9, h10, h8, h11, h12, h13, ⟨h14, h15, h16⟩, h17, h19⟩, h4, h5⟩
  · rintro ⟨⟨h1, h7, h18, h2, h6, h3, h9, h10, h8, h11, h12, h13, ⟨h14, h15, h16⟩, h17, h19⟩, h4, h5⟩
    exact ⟨h1, h2, h3, h4, h5, h6, h7, h8, h9, h10, h11, h12, h13, h14, h15, h16, h17, h18, h19⟩

theorem raised_le (count amount : Nat) : raised count amount ≤ Config.counterMax := Nat.min_le_left _ _

namespace State.Limits

/-- Where the claim unit, the channels, the masks and the offers alone may differ, the claim's attempts are all there is to
show. -/
theorem of_work {s t : State} (h : s.Limits) (hw : MaskWork s t) (hc : t.attemptsBounded) : t.Limits := by
  rw [← hw] at hc ⊢
  exact { h with claim := hc }

theorem moves {s t : State} (h : s.Limits) (hm : Moves s t) : t.Limits :=
  h.of_work hm.work.maskWork (attemptsBounded_effects.moves hm h.claim)

/-- The head of the command queue leaves it (R141). -/
theorem popCommand {s : State} (h : s.Limits) : s.popCommand.Limits :=
  { h with
    queue := by
      change s.commands.queue.tail.length ≤ _
      rw [List.length_tail]
      exact (Nat.sub_le _ _).trans h.queue
    headAttempts := Nat.zero_lt_succ 2 }

/-- The source of a failed attempt keeps its count below the limit (R184). -/
theorem sourceFailed {s : State} (h : s.Limits) (o : Offer) : (s.sourceFailed o).Limits := by
  cases o with
  | claim =>
    unfold State.sourceFailed
    dsimp only
    split
    · rename_i c hc
      refine h.moves (settleEndedAttempt_moves _ hc rfl rfl fun hu _ => ?_)
      simpa using hu
    · exact h
  | command =>
    unfold State.sourceFailed
    dsimp only
    split
    · have hp := h.popCommand
      have ⟨h1, h2, h3, h4, h5, _, h7⟩ := hp.counters
      exact { hp with counters := ⟨h1, h2, h3, h4, h5, raised_le _ _, h7⟩ }
    · exact { h with headAttempts := Nat.not_le.1 ‹_› }
  | report =>
    unfold State.sourceFailed
    dsimp only
    split
    · exact { h with attempts := Nat.zero_lt_succ 2 }
    · exact { h with attempts := Nat.not_le.1 ‹_› }
  | beacon => exact h
  | release n => exact h
  | renew => exact h

theorem muted {s : State} (h : s.Limits) (hw : s.member.state.working = true) (f : FaultSet) : (s.muted f).Bounds :=
  have ⟨h1, h2, h3, h4, h5, _, h7⟩ := h.counters
  { h with
    counters := ⟨h1, h2, h3, h4, h5, raised_le _ _, h7⟩
    attempts := Nat.zero_lt_succ 2
    blink := nofun
    vetoStreak := Nat.zero_lt_succ 7
    sendStreak := Nat.zero_lt_succ 15
    queue := Nat.zero_le _
    headAttempts := Nat.zero_lt_succ 2
    witness := nofun
    heard := nofun
    lease := fun _ => h.lease hw
    starts := h.starts.of_phase (MemberState.ne_loading_of_working hw) rfl }

end State.Limits

namespace State.Bounds

theorem of_work {s t : State} (h : s.Bounds) (hw : MaskWork s t) (hc : t.attemptsBounded) : t.Bounds := by
  rw [← hw] at hc ⊢
  exact { h with claim := hc }

theorem moves {s t : State} (h : s.Bounds) (hm : Moves s t) : t.Bounds :=
  h.of_work hm.work.maskWork (attemptsBounded_effects.moves hm h.claim)

theorem changeMasks {s : State} (h : s.Bounds) (m : InhibitMasks) : (s.changeMasks m).Bounds :=
  h.of_work (changeMasks_work s m) (attemptsBounded_effects.changeMasks s m h.claim)

theorem runAction {s : State} (h : s.Bounds) (a : ScheduleAction) : (s.runAction a).Bounds :=
  runAction_keeps (P := State.Bounds) (fun _ _ hm h => h.moves hm) (fun _ m h => h.changeMasks m) s a h

theorem countMissed {s : State} (h : s.Bounds) (n : Nat) : (s.countMissed n).Bounds :=
  have ⟨h1, h2, h3, h4, h5, h6, _⟩ := h.counters
  { h with counters := ⟨h1, h2, h3, h4, h5, h6, raised_le _ _⟩ }

theorem popCommand {s : State} (h : s.Bounds) : s.popCommand.Bounds :=
  { h.toLimits.popCommand with vetoStreak := h.vetoStreak, sendStreak := h.sendStreak }

theorem sourceFailed {s : State} (h : s.Bounds) (o : Offer) : (s.sourceFailed o).Bounds := by
  have hf := sourceFailed_frame s o
  exact ⟨h.toLimits.sourceFailed o, by rw [hf]; exact h.vetoStreak, by rw [hf]; exact h.sendStreak⟩

/-- Entering MUTE returns the streaks to 0, so it asks nothing of them. -/
theorem enterMute {s : State} (h : s.Limits) (hw : s.member.state.working = true) (f : FaultSet) :
    (s.enterMute f).Bounds := by
  have hc : (s.muteChannels f).attemptsBounded :=
    muteChannels_keeps attemptsBounded_effects.move (fun _ _ h _ => h) h.claim
  have hoff : (s.muteOff f).attemptsBounded := by
    unfold State.muteOff
    generalize s.muteChannels f = u at *
    exact hc
  have hcl : (s.muteEntered f).attemptsBounded := by
    have := attemptsBounded_effects.clearTable hoff
    unfold State.muteEntered
    generalize (s.muteOff f).clearTable = u at *
    exact this
  refine (h.muted hw f).of_work (enterMute_work s f).maskWork ?_
  rw [enterMute_eq]
  exact attemptsBounded_effects.moves (judge_moves _) hcl

theorem minuteEvent {s : State} (h : s.Bounds) (minute : Nat) : (s.minuteEvent minute).Bounds :=
  minuteEvent_keeps (P := State.Bounds) (fun _ a h => h.runAction a) (fun _ n h => h.countMissed n)
    (fun _ _ h => { h with }) minute h

theorem adjustTime {s : State} (h : s.Bounds) (hw : s.member.state.working = true) (v : CalendarValue) (restart : Bool) :
    (s.adjustTime v restart).Bounds := by
  have hp : (s.calendar.adjusted v restart).phase < Config.dividerPeriods := by
    unfold Calendar.adjusted
    dsimp only
    split
    · decide
    · exact h.phase
  have hne : s.member.state ≠ .halted := by
    intro hm; rw [hm] at hw; cases hw
  have ha : (s.setCalendar (s.calendar.adjusted v restart)).Bounds := { h with phase := hp }
  unfold State.adjustTime
  split
  · dsimp only
    split
    · split
      · exact ha
      · exact ha.minuteEvent _
    · exact { ha with blink := fun hm => absurd hm hne }
  · exact h

theorem fractionStep {s : State} (h : s.Bounds) : s.fractionStep.Bounds := by
  have hc : (s.setCalendar { s.calendar with value := stepFraction s.calendar.value, phase := 0 }).Bounds :=
    { h with phase := (by decide : 0 < Config.dividerPeriods) }
  unfold State.fractionStep
  dsimp only
  split
  · exact hc.minuteEvent _
  · exact hc

theorem blinkCycle_pos (code : Nat) : 0 < blinkCycle code := by
  simp only [blinkCycle, Config.blinkGap]
  omega

theorem endRead {s : State} (h : s.Bounds) (hl : s.isLoading = true) (image : List Byte) : (s.endRead image).Bounds := by
  obtain ⟨hp, hm⟩ := State.isLoading_state hl
  have starts {t : State} (hpt : t.phase = s.phase) : t.startsInLoading := fun hn => absurd (hpt.trans hp) hn
  have idle (o : ImageCheck) : (s.readChecked o .idle).Bounds :=
    { h with loader := ⟨h.loader.1, nofun, nofun⟩ }
  rcases endRead_cases s image with ⟨failure, -, he⟩ | ⟨outcome, he⟩ | ⟨c, hc, he⟩ <;> rw [he]
  · refine { h with loader := ⟨h.loader.1, nofun, ?_⟩ }
    rintro p ⟨⟩
    decide
  · exact { idle outcome with
      blink := fun _ => blinkCycle_pos _, heard := nofun, lease := nofun, starts := starts rfl }
  · have h4 := (readSettings_ranges hc).2.2
    exact { idle .sound with
      blink := nofun, starts := starts rfl, lease := fun _ => h4
      heard := fun _ => by change 0 < 2 * c.lease; omega }

/-- The judgements' counts stay within 255 (R177, R201). -/
theorem countJudgements {s : State} (h : s.Bounds) (hne : s.member.state ≠ .halted) (f : Frame) :
    (s.countJudgements f).Bounds := by
  have ⟨h1, h2, h3, h4, h5, h6, h7⟩ := h.counters
  unfold State.countJudgements
  split
  · exact h
  · split
    · exact { h with
        counters := ⟨raised_le _ _, h2, h3, h4, h5, h6, h7⟩, blink := fun hm => absurd hm hne }
    · split
      · exact { h with counters := ⟨h1, raised_le _ _, h3, h4, h5, h6, h7⟩ }
      · exact h

theorem endOwnAttempt {s : State} (h : s.Bounds) (o : Offer) : (s.endOwnAttempt o).Bounds := by
  have he : (s.setLine { s.line with sendStreak := 0, courtesyGap := true }).Bounds :=
    { h with sendStreak := (by decide : 0 < Config.sendStreakLimit) }
  cases o with
  | release n =>
    unfold State.endOwnAttempt
    dsimp only
    split
    · exact { he with }
    · exact { he with }
  | claim => exact { he.moves (setInFlight_moves _ false) with }
  | command => exact he.popCommand
  | report => exact { he with attempts := Nat.zero_lt_succ 2 }
  | beacon => exact { he with }
  | renew => exact { he with }

theorem afterFrame {s : State} (h : s.Bounds) (ho : s.member.state.online = true) (f : Frame) (part : Option Offer) :
    (s.afterFrame f part).Bounds := by
  have hne : s.member.state ≠ .halted := by
    intro hm; rw [hm] at ho; cases ho
  have hl : (s.lineAccepted f).Bounds := { h with vetoStreak := (by decide : 0 < Config.vetoStreakLimit) }
  have hc := hl.countJudgements hne f
  cases part with
  | none => exact hc
  | some o => exact hc.endOwnAttempt o

/-- The witness record's count lies in 1..3 while divergence is not confirmed (R62). -/
theorem witnessUpdate {s : State} (h : s.Bounds) (b : BeaconFields) (sender : Nat) (own : Bool) {w : Option Witness}
    (hw : s.witnessUpdate b sender own = some w) :
    ∀ x, w = some x → 1 ≤ x.count ∧ x.count < Config.witnessLimit := by
  rintro x rfl
  unfold State.witnessUpdate witnessAfter at hw
  split at hw
  · exact h.witness x (by simpa using hw)
  · split at hw
    · cases hw
    · split at hw
      · cases hw
        exact ⟨Nat.le_refl 1, Nat.succ_lt_succ (Nat.zero_lt_succ 2)⟩
      · split at hw
        · rename_i hc
          cases hw
          exact ⟨Nat.le_add_left 1 _, hc.2⟩
        · cases hw

end State.Bounds

/-- The bounds at a BEACON: the witness record in SYNCED, and the beacons heard in LISTENING (R62, R67, R70). -/
theorem beaconSettled_member_bounds {s : State} (h : s.Bounds) (ho : s.member.state.online = true) (b : BeaconFields)
    (sender : Nat) (own : Bool) :
    let m := (s.beaconSettled b sender own).member
    (∀ w, m.witness = some w → 1 ≤ w.count ∧ w.count < Config.witnessLimit) ∧
      (m.state = .listening → m.beaconsHeard < 2 * s.settings.lease) := by
  have hlease := h.lease (MemberState.working_of_online ho)
  have hr (d : Bool) : (s.beaconRenewed d).member = { s.member with beaconTimer := .counting 0 } :=
    (beaconRenewed_work s d).member
  dsimp only
  rw [beaconSettled_eq, (judge_work _).member]
  split
  · rename_i hsync
    have hm := hr (s.witnessUpdate b sender own).isNone
    generalize s.beaconRenewed (s.witnessUpdate b sender own).isNone = t at *
    rcases beaconSynced_cases t b own (s.witnessUpdate b sender own) with ⟨w, hw, he⟩ | ⟨-, he⟩ <;> rw [he]
    · refine ⟨h.witnessUpdate b sender own hw, fun hl => ?_⟩
      have : s.member.state = .listening := by rw [← hl, State.setMember_member, hm]
      rw [hsync] at this
      cases this
    · rw [(confirmDivergence_work _).member]
      exact ⟨nofun, fun _ => by change 0 < _; omega⟩
  · have hm := hr false
    have hs : (s.beaconRenewed false).settings = s.settings := (beaconRenewed_work s false).settings
    generalize s.beaconRenewed false = t at *
    have ha : (t.beaconAdopted b own).member.witness = s.member.witness ∧
        (t.beaconAdopted b own).member.beaconsHeard = t.member.beaconsHeard + 1 := by
      rw [(beaconAdopted_work t b own).member, State.setMember_member, hm]
      exact ⟨rfl, rfl⟩
    rw [beaconListening_eq]
    split
    · exact ⟨nofun, nofun⟩
    · split
      · rw [(restartJoin_work _).member]
        refine ⟨fun w hw => h.witness w ?_, fun _ => by change 0 < _; omega⟩
        rw [← hw, ← ha.1]
        rfl
      · rename_i hlt
        refine ⟨fun w hw => h.witness w ?_, fun _ => ?_⟩
        · rw [← hw, ha.1]
        · rw [ha.2, ← hs]; exact Nat.not_le.1 hlt

/-- The bounds are kept by every operation of a step. -/
theorem bounds_keeps : Keeps State.Bounds where
  pending _ _ h := { h with }
  releases _ _ h _ := { h with }
  starts s _ h hp :=
    { h with wait := Nat.zero_le _, starts := fun _ => h.starts (by rw [hp]; nofun) }
  waits _ _ h _ hn := { h with wait := Nat.le_of_lt hn }
  waitEnds s h _ :=
    { h with
      blink := nofun, heard := nofun, lease := nofun, phase := (by decide : 0 < Config.dividerPeriods)
      divider := (by decide : 0 < Config.dividerPeriods), ticked := fun _ => rfl, wait := Nat.le_refl _
      starts := fun hn => absurd rfl hn
      loader := ⟨Nat.le_succ 1, by rintro p bits ⟨⟩; exact ⟨Nat.zero_lt_succ 33215, rfl⟩, nofun⟩ }
  loads _ _ h _ hl := { h with loader := hl h.loader }
  readEnds _ image h hl := h.endRead hl image
  quiet _ _ _ _ _ h _ _ := { h with }
  records _ h _ := { h with }
  begins s o h _ _ := by
    have hr : s.recordSof.Bounds := { h with }
    have hm : (if o = .claim then s.recordSof.setInFlight true else s.recordSof).Bounds := by
      split
      · exact hr.moves (setInFlight_moves _ true)
      · exact hr
    exact { hm with }
  counts _ _ h hc := { h with counters := hc h.counters }
  fails s o f a b h ho _ _ := by
    have hb : (s.attemptFailed a b).Limits := { h with }
    rcases failAttempt_cases s o a b with ⟨hlt, he⟩ | ⟨-, he⟩ <;> rw [he]
    · exact State.Bounds.sourceFailed { hb with vetoStreak := h.vetoStreak, sendStreak := hlt } o
    · exact State.Bounds.enterMute (hb.sourceFailed o)
        (by rw [sourceFailed_frame]; exact MemberState.working_of_online ho) _
  vetoes s b h ho := by
    have ⟨h1, h2, _, h4, h5, h6, h7⟩ := h.counters
    have hb : (s.vetoCast b).Limits := { h with counters := ⟨h1, h2, raised_le _ _, h4, h5, h6, h7⟩ }
    rcases castVeto_cases s b with ⟨hlt, he⟩ | ⟨-, he⟩ <;> rw [he]
    · exact { hb with vetoStreak := hlt, sendStreak := h.sendStreak }
    · exact State.Bounds.enterMute hb (MemberState.working_of_online ho) _
  accepts s f part h hp := h.afterFrame hp.1 f part
  halts s f h ho _ _ :=
    { h with
      blink := fun _ => State.Bounds.blinkCycle_pos _, heard := nofun, lease := nofun
      starts := h.starts.of_phase (MemberState.ne_loading_of_working (MemberState.working_of_online ho)) rfl }
  move s t h _ hm := h.moves hm.moves
  masks s m h _ := h.changeMasks m
  beacon s b sender own h ho ha := by
    have hw := MemberState.working_of_online ho
    have hon := beaconSettled_online b sender own ho
    obtain ⟨hwit, hheard⟩ := beaconSettled_member_bounds h ho b sender own
    have hclaim : (s.beaconSettled b sender own).attemptsBounded :=
      attemptsBounded_effects.beaconSettled b sender own (by simp [State.drivesLine, ha]) ho h.claim
    have hwork := beaconSettled_work s b sender own
    generalize s.beaconSettled b sender own = t at *
    rw [← hwork] at hon hwit hheard hclaim ⊢
    exact { h with
      blink := fun hm => by rw [hm] at hon; cases hon
      witness := hwit, heard := hheard, lease := fun _ => h.lease hw, claim := hclaim
      starts := h.starts.of_phase (MemberState.ne_loading_of_working hw) rfl }
  claim s f part c u d h hp _ _ _ := by
    have ha := h.afterFrame hp.1 f part
    have hclaim := attemptsBounded_effects.applyClaim f.source.toNat (Class.ofBits f.cls) c u d part.isSome ha.claim
    generalize s.afterFrame f part = a at *
    obtain ⟨t, n, hw, hn, -⟩ := applyClaim_frame f.source.toNat (Class.ofBits f.cls) c u d part.isSome a
    have ⟨h1, h2, h3, h4, h5, h6, h7⟩ := ha.counters
    have hn' : n ≤ Config.counterMax := by
      rcases hn with rfl | rfl
      · exact h5
      · exact raised_le _ _
    have hb : ((a.setTable t).setCounters { a.report.counters with claimsVoided := n }).Bounds :=
      { ha with counters := ⟨h1, h2, h3, h4, hn', h6, h7⟩ }
    exact hb.of_work hw.maskWork hclaim
  release s f part c h hp _ _ _ _ := by
    have ha := h.afterFrame hp.1 f part
    have hclaim := attemptsBounded_effects.applyRelease f.source.toNat c part.isSome ha.claim
    generalize s.afterFrame f part = a at *
    rcases applyRelease_work f.source.toNat c part.isSome a with hw | hw
    · exact ha.of_work hw.maskWork hclaim
    · have ht : (a.setTable (a.releasedTable f.source.toNat c).1).Bounds := { ha with }
      exact ht.of_work hw.maskWork hclaim
  renew s source payload own h _ _ _ := by
    rw [applyRenew_eq]
    have ht : (s.setTable (s.renewedTable source payload)).Bounds := { h with }
    exact ht.moves (judge_moves _)
  query s target flags own h ho := by
    have hne : s.member.state ≠ .halted := by
      intro hm; rw [hm] at ho; cases ho
    unfold State.applyQuery
    split
    · refine { h with counters := ?_, attempts := Nat.zero_lt_succ 2, blink := fun hm => absurd hm hne }
      change Counters.bounded (if flags.getLsbD 1 then Counters.zero else s.report.counters)
      split
      · exact ⟨Nat.zero_le _, Nat.zero_le _, Nat.zero_le _, Nat.zero_le _, Nat.zero_le _, Nat.zero_le _, Nat.zero_le _⟩
      · exact h.counters
    · exact h
  beaconTimer _ _ h _ := { h with }
  beaconOffer _ h _ := { h with }
  muteCounts _ _ h _ := { h with }
  muteEnds s h hm :=
    have h4 := h.lease (by rw [hm]; rfl)
    { h with
      blink := nofun, lease := fun _ => h4, heard := fun _ => by change 0 < 2 * s.settings.lease; omega
      starts := h.starts.of_phase (by rw [hm]; nofun) rfl }
  counted _ h _ := { h with }
  pin _ _ _ h := { h with }
  input _ _ _ h _ := { h with }
  raises s c h hw := by
    have ⟨h1, h2, h3, h4, h5, _, h7⟩ := h.counters
    have hne : s.member.state ≠ .halted := by
      intro hm; rw [hm] at hw; cases hw
    have hd : (s.countDropped 1).Bounds := { h with counters := ⟨h1, h2, h3, h4, h5, raised_le _ _, h7⟩ }
    unfold State.raiseCommand
    split
    · exact hd
    · split
      · split
        · rename_i hlen
          refine { h with queue := ?_, headAttempts := ?_ }
          · change (s.commands.queue ++ [c]).length ≤ _
            rw [List.length_append]
            exact hlen
          · change (if s.commands.queue = [] then 0 else s.commands.headAttempts) < _
            split
            · decide
            · exact h.headAttempts
        · exact { hd with blink := fun hm => absurd hm hne }
      · exact h
  blink _ _ h _ hb := { h with blink := fun _ => hb }
  phases _ _ h hp := { h with phase := hp }
  divides _ _ _ h hd hk := { h with divider := hd, ticked := hk }

/-- Settles O9: every operation of a step keeps the bounds. -/
theorem stepKeepsCountsBounded : Obligations.StepKeepsCountsBounded := by
  intro s t hs h
  rw [boundsInv_iff] at *
  refine bounds_keeps.step (fun _ v restart hs ho => hs.adjustTime (MemberState.working_of_online ho) v restart)
    (fun _ hs _ => hs.fractionStep) (fun s k t _ h => ?_) hs h
  cases h
  exact
    { counters := ⟨Nat.zero_le _, Nat.zero_le _, Nat.zero_le _, Nat.zero_le _, Nat.zero_le _, Nat.zero_le _, Nat.zero_le _⟩
      attempts := Nat.zero_lt_succ 2
      blink := nofun
      vetoStreak := Nat.zero_lt_succ 7
      sendStreak := Nat.zero_lt_succ 15
      queue := Nat.zero_le _
      headAttempts := Nat.zero_lt_succ 2
      witness := nofun
      heard := nofun
      lease := nofun
      claim := nofun
      phase := Nat.zero_lt_succ 511
      divider := Nat.zero_lt_succ 511
      ticked := nofun
      loader := ⟨Nat.zero_le _, nofun, nofun⟩
      wait := Nat.zero_le _
      starts := fun _ => rfl }

end Sys2Proof.Machine
end

section
/-! PROOFS. The claim unit's queue: its order, its entries by channel, and the enqueue numbers (chapter 2). -/

namespace Sys2Proof.Machine

/-! ## Queue order (R34) -/

theorem Entry.before_iff (a b : Entry) :
    a.before b = true ↔ a.cls.number < b.cls.number ∨ (a.cls = b.cls ∧ a.number < b.number) := by
  simp [Entry.before]

theorem Class.number_injective {a b : Class} (h : a.number = b.number) : a = b := by
  cases a <;> cases b <;> first | rfl | cases h

theorem Entry.before_trans {a b c : Entry} (h : a.before b = true) (k : b.before c = true) : a.before c = true := by
  rw [Entry.before_iff] at *
  rcases h with h | ⟨h, hn⟩ <;> rcases k with k | ⟨k, kn⟩
  · exact .inl (h.trans k)
  · exact .inl (k ▸ h)
  · exact .inl (h ▸ k)
  · exact .inr ⟨h.trans k, hn.trans kn⟩

/-- Two entries of different enqueue numbers stand in one order or the other. -/
theorem Entry.before_total {a b : Entry} (hn : a.number ≠ b.number) (h : a.before b = false) : b.before a = true := by
  rw [← Bool.not_eq_true, Entry.before_iff] at h
  rw [Entry.before_iff]
  by_cases hc : a.cls = b.cls
  · exact .inr ⟨hc.symm, lt_of_le_of_ne (Nat.not_lt.1 fun k => h (.inr ⟨hc, k⟩)) hn.symm⟩
  · exact .inl (lt_of_le_of_ne (Nat.not_lt.1 fun k => h (.inl k)) fun k => hc (Class.number_injective k.symm))

theorem insertEntry_ordered {e : Entry} {q : List Entry} (h : q.Pairwise fun a b => a.before b = true)
    (hn : ∀ x ∈ q, x.number ≠ e.number) : (insertEntry e q).Pairwise fun a b => a.before b = true := by
  induction q with
  | nil => exact List.pairwise_singleton _ _
  | cons x xs ih =>
    obtain ⟨hx, hxs⟩ := List.pairwise_cons.1 h
    unfold insertEntry
    split
    · rename_i hb
      refine List.pairwise_cons.2 ⟨fun y hy => ?_, h⟩
      rcases List.mem_cons.1 hy with rfl | hy
      · exact hb
      · exact Entry.before_trans hb (hx y hy)
    · rename_i hb
      refine List.pairwise_cons.2 ⟨fun y hy => ?_, ih hxs fun z hz => hn z (List.mem_cons_of_mem _ hz)⟩
      rcases (mem_insertEntry e y xs).1 hy with rfl | hy
      · exact Entry.before_total (hn x List.mem_cons_self).symm (by simpa using hb)
      · exact hx y hy

/-! ## Entries by channel (R33) -/

/-- The entry of a channel in a queue, if there is one. -/
def entryIn (n : ChannelIx) (q : List Entry) : Option Entry := q.find? fun e => e.channel == n

theorem State.entryOf_eq (s : State) (n : ChannelIx) : s.entryOf n = entryIn n s.claims.queue := rfl

theorem entryIn_eq_none {n : ChannelIx} {q : List Entry} : entryIn n q = none ↔ ∀ e ∈ q, e.channel ≠ n := by
  simp [entryIn]

theorem mem_of_entryIn {n : ChannelIx} {q : List Entry} {e : Entry} (h : entryIn n q = some e) :
    e ∈ q ∧ e.channel = n :=
  ⟨List.mem_of_find?_eq_some h, by simpa using List.find?_some h⟩

/-- In a queue with one entry a channel, an entry is the entry of its channel. -/
theorem entryIn_of_mem {n : ChannelIx} {q : List Entry} {e : Entry} (hq : (q.map Entry.channel).Nodup) (he : e ∈ q)
    (hn : e.channel = n) : entryIn n q = some e := by
  cases h : entryIn n q with
  | none => exact absurd hn (entryIn_eq_none.1 h e he)
  | some f =>
    obtain ⟨hf, hc⟩ := mem_of_entryIn h
    rw [List.inj_on_of_nodup_map hq hf he (hc.trans hn.symm)]

theorem nodup_insertEntry {e : Entry} {q : List Entry} (hq : (q.map Entry.channel).Nodup)
    (he : ∀ x ∈ q, x.channel ≠ e.channel) : ((insertEntry e q).map Entry.channel).Nodup := by
  rw [((insertEntry_perm e q).map Entry.channel).nodup_iff, List.map_cons, List.nodup_cons]
  refine ⟨fun hm => ?_, hq⟩
  obtain ⟨x, hx, hc⟩ := List.mem_map.1 hm
  exact he x hx hc

theorem removeEntry_sublist (n : ChannelIx) (q : List Entry) : (removeEntry n q).Sublist q := List.filter_sublist

/-- Without its channel's entry a queue holds the others. -/
theorem perm_removeEntry {e : Entry} {q : List Entry} (hq : (q.map Entry.channel).Nodup) (he : e ∈ q) :
    q.Perm (e :: removeEntry e.channel q) := by
  refine (List.perm_ext_iff_of_nodup (List.Nodup.of_map _ hq) ?_).2 fun x => ?_
  · refine List.nodup_cons.2 ⟨fun hm => ((mem_removeEntry _ _ _).1 hm).2 rfl, ?_⟩
    exact (removeEntry_sublist _ q).nodup (List.Nodup.of_map _ hq)
  · rw [List.mem_cons, mem_removeEntry]
    constructor
    · intro hx
      by_cases hc : x.channel = e.channel
      · exact .inl (List.inj_on_of_nodup_map hq hx he hc)
      · exact .inr ⟨hx, hc⟩
    · rintro (rfl | ⟨hx, -⟩)
      · exact he
      · exact hx

theorem entryIn_insertEntry_self {e : Entry} {q : List Entry} (hq : (q.map Entry.channel).Nodup)
    (he : ∀ x ∈ q, x.channel ≠ e.channel) : entryIn e.channel (insertEntry e q) = some e :=
  entryIn_of_mem (nodup_insertEntry hq he) ((mem_insertEntry e e q).2 (.inl rfl)) rfl

theorem entryIn_insertEntry_ne {e : Entry} {n : ChannelIx} (h : e.channel ≠ n) (q : List Entry) :
    entryIn n (insertEntry e q) = entryIn n q := by
  induction q with
  | nil => simp [insertEntry, entryIn, h]
  | cons x xs ih =>
    unfold insertEntry
    split
    · simp [entryIn, h]
    · simp only [entryIn, List.find?_cons] at *
      rw [ih]

theorem entryIn_removeEntry_self (n : ChannelIx) (q : List Entry) : entryIn n (removeEntry n q) = none :=
  entryIn_eq_none.2 fun _ he => ((mem_removeEntry _ _ _).1 he).2

theorem entryIn_removeEntry_ne {m n : ChannelIx} (h : m ≠ n) (q : List Entry) :
    entryIn n (removeEntry m q) = entryIn n q := by
  unfold entryIn removeEntry
  rw [List.find?_filter]
  congr 1
  funext e
  by_cases hc : e.channel = n
  · simp [hc, h.symm]
  · simp [hc]

/-! ## Renumbering (R34) -/

theorem rankOf_cons (x : Nat) (l : List Nat) (k : Nat) :
    rankOf (x :: l) k = (if x < k then 1 else 0) + rankOf l k := by
  unfold rankOf
  by_cases h : x < k <;> simp [h, Nat.add_comm]

theorem rankOf_le {l : List Nat} {a b : Nat} (h : a ≤ b) : rankOf l a ≤ rankOf l b := by
  induction l with
  | nil => exact Nat.le_refl _
  | cons x l ih => rw [rankOf_cons, rankOf_cons]; split <;> split <;> omega

/-- Renumbering keeps the order of the numbers in use. -/
theorem rankOf_lt {l : List Nat} {a b : Nat} (ha : a ∈ l) (h : a < b) : rankOf l a < rankOf l b := by
  induction l with
  | nil => cases ha
  | cons x l ih =>
    rw [rankOf_cons, rankOf_cons]
    rcases List.mem_cons.1 ha with rfl | ha
    · have := rankOf_le (l := l) (Nat.le_of_lt h)
      rw [if_neg (Nat.lt_irrefl a), if_pos h]
      omega
    · have := ih ha
      split <;> split <;> omega

theorem rankOf_lt_length {l : List Nat} {k : Nat} (hk : k ∈ l) : rankOf l k < l.length :=
  (rankOf_lt hk (Nat.lt_succ_self k)).trans_le (List.length_filter_le _ _)

/-! ## A sound claim unit (R33, R34) -/

/-- The claim unit's own part of the queue invariant: queue order, one entry a channel, enqueue numbers distinct, below
the count, and the count within 65,535. -/
structure ClaimUnit.Sound (u : ClaimUnit) : Prop where
  ordered : u.queue.Pairwise fun a b => a.before b = true
  channels : (u.queue.map Entry.channel).Nodup
  numbers : u.numbers.Nodup
  below : ∀ k ∈ u.numbers, k < u.enqueueCount
  count : u.enqueueCount ≤ Config.enqueueMax

theorem ClaimUnit.mem_numbers {u : ClaimUnit} {k : Nat} :
    k ∈ u.numbers ↔ (∃ e ∈ u.queue, e.number = k) ∨ ∃ o, u.outstanding = some o ∧ o.number = k := by
  simp [ClaimUnit.numbers, Option.mem_toList]

/-- At most eight entries and a claim have numbers. -/
theorem ClaimUnit.length_numbers_le {u : ClaimUnit} (h : (u.queue.map Entry.channel).Nodup) : u.numbers.length ≤ 9 := by
  have hq : u.queue.length ≤ 8 := by simpa using h.length_le_card
  have ho : u.outstanding.toList.length ≤ 1 := by cases u.outstanding <;> simp
  simp only [ClaimUnit.numbers, List.length_append, List.length_map]
  omega

theorem ClaimUnit.numbers_renumbered (u : ClaimUnit) : u.renumbered.numbers = u.numbers.map (rankOf u.numbers) := by
  simp only [ClaimUnit.renumbered, ClaimUnit.numbers, List.map_append, List.map_map]
  cases u.outstanding <;> rfl

theorem ClaimUnit.channels_renumbered (u : ClaimUnit) :
    u.renumbered.queue.map Entry.channel = u.queue.map Entry.channel := by
  simp [ClaimUnit.renumbered, Function.comp_def]

/-- A renumbered claim unit is sound, whatever its count was. -/
theorem ClaimUnit.renumbered_sound {u : ClaimUnit} (ho : u.queue.Pairwise fun a b => a.before b = true)
    (hc : (u.queue.map Entry.channel).Nodup) (hn : u.numbers.Nodup) : u.renumbered.Sound where
  ordered := by
    refine List.pairwise_map.2 (ho.imp_of_mem fun {a b} ha _ hab => ?_)
    rw [Entry.before_iff] at *
    refine hab.imp id fun h => ⟨h.1, rankOf_lt (ClaimUnit.mem_numbers.2 (.inl ⟨a, ha, rfl⟩)) h.2⟩
  channels := by rw [ClaimUnit.channels_renumbered]; exact hc
  numbers := by
    rw [ClaimUnit.numbers_renumbered]
    refine hn.map_on fun a ha b hb hab => ?_
    rcases Nat.lt_trichotomy a b with h | h | h
    · exact absurd hab (Nat.ne_of_lt (rankOf_lt ha h))
    · exact h
    · exact absurd hab.symm (Nat.ne_of_lt (rankOf_lt hb h))
  below := by
    intro k hk
    rw [ClaimUnit.numbers_renumbered] at hk
    obtain ⟨a, ha, rfl⟩ := List.mem_map.1 hk
    exact rankOf_lt_length ha
  count := (ClaimUnit.length_numbers_le hc).trans (Nat.le_of_ble_eq_true rfl)

theorem ClaimUnit.perm_numbers_insertEntry (q : List Entry) (o : Option OutstandingClaim) (c : Nat) (e : Entry) :
    (ClaimUnit.numbers { queue := insertEntry e q, outstanding := o, enqueueCount := c }).Perm
      (e.number :: ClaimUnit.numbers { queue := q, outstanding := o, enqueueCount := c }) :=
  ((insertEntry_perm e q).map Entry.number).append_right _

namespace ClaimUnit.Sound

/-- An entry with a new number and a channel that has none joins. -/
theorem insert {q : List Entry} {o : Option OutstandingClaim} {c : Nat} (e : Entry)
    (h : ClaimUnit.Sound { queue := q, outstanding := o, enqueueCount := c })
    (hn : e.number ∉ ClaimUnit.numbers { queue := q, outstanding := o, enqueueCount := c }) (hlt : e.number < c)
    (he : ∀ x ∈ q, x.channel ≠ e.channel) :
    ClaimUnit.Sound { queue := insertEntry e q, outstanding := o, enqueueCount := c } where
  ordered := insertEntry_ordered h.ordered fun x hx hxe => hn (ClaimUnit.mem_numbers.2 (.inl ⟨x, hx, hxe⟩))
  channels := nodup_insertEntry h.channels he
  numbers := by
    rw [(ClaimUnit.perm_numbers_insertEntry q o c e).nodup_iff, List.nodup_cons]
    exact ⟨hn, h.numbers⟩
  below k hk := by
    rcases List.mem_cons.1 ((ClaimUnit.perm_numbers_insertEntry q o c e).mem_iff.1 hk) with rfl | hk
    · exact hlt
    · exact h.below k hk
  count := h.count

/-- Entries and the claim can leave. -/
theorem sublist {q r : List Entry} {o p : Option OutstandingClaim} {c : Nat}
    (h : ClaimUnit.Sound { queue := q, outstanding := o, enqueueCount := c }) (hq : r.Sublist q)
    (ho : p = o ∨ p = none) : ClaimUnit.Sound { queue := r, outstanding := p, enqueueCount := c } := by
  have hn : (ClaimUnit.numbers { queue := r, outstanding := p, enqueueCount := c }).Sublist
      (ClaimUnit.numbers { queue := q, outstanding := o, enqueueCount := c }) := by
    rcases ho with rfl | rfl
    · exact (hq.map _).append_right _
    · exact ((hq.map _).append_right _).trans (List.Sublist.append_left (List.nil_sublist _) _)
  exact ⟨h.ordered.sublist hq, h.channels.sublist (hq.map _), h.numbers.sublist hn, fun k hk => h.below k (hn.subset hk),
    h.count⟩

/-- An outstanding claim's number stands with no entry (R34). -/
theorem number_notMem {q : List Entry} {o : OutstandingClaim} {c : Nat}
    (h : ClaimUnit.Sound { queue := q, outstanding := some o, enqueueCount := c }) :
    o.number ∉ ClaimUnit.numbers { queue := q, outstanding := none, enqueueCount := c } := by
  intro hm
  obtain ⟨e, he, hk⟩ | ⟨x, hx, -⟩ := ClaimUnit.mem_numbers.1 hm
  · have hd := h.numbers
    simp only [ClaimUnit.numbers, Option.toList_some, List.map_cons, List.map_nil] at hd
    exact (List.nodup_append.1 hd).2.2 e.number (List.mem_map_of_mem he) o.number (List.mem_singleton.2 rfl) hk
  · cases hx

theorem clearHolds {u : ClaimUnit} (h : u.Sound) : ClaimUnit.Sound { u with queue := Machine.clearHolds u.queue } := by
  have hn : ClaimUnit.numbers { u with queue := Machine.clearHolds u.queue } = u.numbers := by
    simp [ClaimUnit.numbers, Machine.clearHolds, Function.comp_def]
  have hc : (Machine.clearHolds u.queue).map Entry.channel = u.queue.map Entry.channel := by
    simp [Machine.clearHolds, Function.comp_def]
  exact ⟨List.pairwise_map.2 h.ordered, hc ▸ h.channels, hn ▸ h.numbers, hn ▸ h.below, h.count⟩

/-- The candidate's number passes to the claim (R34, R45). -/
theorem takeUp {u : ClaimUnit} (h : u.Sound) (hnone : u.outstanding = none) {e : Entry} (he : e ∈ u.queue)
    (o : OutstandingClaim) (ho : o.number = e.number) :
    ClaimUnit.Sound { u with queue := removeEntry e.channel u.queue, outstanding := some o } := by
  have hp : (ClaimUnit.numbers { u with queue := removeEntry e.channel u.queue, outstanding := some o }).Perm
      u.numbers := by
    simp only [ClaimUnit.numbers, hnone, Option.toList_some, Option.toList_none, List.map_cons, List.map_nil,
      List.append_nil, ho]
    exact (List.perm_append_singleton _ _).trans ((perm_removeEntry h.channels he).map Entry.number).symm
  exact ⟨h.ordered.sublist (removeEntry_sublist _ _), h.channels.sublist ((removeEntry_sublist _ _).map _),
    hp.nodup_iff.2 h.numbers, fun k hk => h.below k (hp.subset hk), h.count⟩

/-- A demand merges into its channel's entry, which keeps its number (R36). -/
theorem mergeInto {u : ClaimUnit} (h : u.Sound) {e : Entry} (he : e ∈ u.queue) (d : Demand) : (u.mergeInto e d).Sound := by
  have hp := perm_removeEntry h.channels he
  have hnum : u.numbers.Perm
      (e.number :: ClaimUnit.numbers { u with queue := removeEntry e.channel u.queue }) :=
    (hp.map Entry.number).append_right _
  have hs : ClaimUnit.Sound { u with queue := removeEntry e.channel u.queue } :=
    h.sublist (removeEntry_sublist _ _) (.inl rfl)
  refine hs.insert { e with cls := e.cls.higher d.cls, allowance := longer e.allowance d.allowance } ?_
    (h.below _ (ClaimUnit.mem_numbers.2 (.inl ⟨e, he, rfl⟩))) fun x hx => ((mem_removeEntry _ _ _).1 hx).2
  exact (List.nodup_cons.1 (hnum.nodup_iff.1 h.numbers)).1

/-- A demand for a channel without an entry is appended with the next number, and all are renumbered where the count
would pass 65,535 (R34). -/
theorem append {u : ClaimUnit} (h : u.Sound) {n : ChannelIx} (hn : ∀ x ∈ u.queue, x.channel ≠ n) (d : Demand) :
    (u.append n d).Sound := by
  have hnew : u.enqueueCount ∉ u.numbers := fun hm => Nat.lt_irrefl _ (h.below _ hm)
  have hperm := ClaimUnit.perm_numbers_insertEntry u.queue u.outstanding (u.enqueueCount + 1)
    { channel := n, cls := d.cls, allowance := d.allowance, hold := false, number := u.enqueueCount }
  have hord := insertEntry_ordered
    (e := { channel := n, cls := d.cls, allowance := d.allowance, hold := false, number := u.enqueueCount }) h.ordered
    fun x hx hxe => hnew (ClaimUnit.mem_numbers.2 (.inl ⟨x, hx, hxe⟩))
  have hchan := nodup_insertEntry
    (e := { channel := n, cls := d.cls, allowance := d.allowance, hold := false, number := u.enqueueCount }) h.channels hn
  have hnum := hperm.nodup_iff.2 (List.nodup_cons.2 ⟨hnew, h.numbers⟩)
  unfold ClaimUnit.append
  dsimp only
  split
  · exact ClaimUnit.renumbered_sound hord hchan hnum
  · rename_i hle
    refine ⟨hord, hchan, hnum, fun k hk => ?_, Nat.not_lt.1 hle⟩
    rcases List.mem_cons.1 (hperm.mem_iff.1 hk) with rfl | hk
    · exact Nat.lt_succ_self _
    · exact (h.below k hk).trans (Nat.lt_succ_self _)

theorem enqueue {u : ClaimUnit} (h : u.Sound) (n : ChannelIx) (d : Demand) : (u.enqueue n d).Sound := by
  unfold ClaimUnit.enqueue
  split
  · rename_i e he
    exact h.mergeInto (List.mem_of_find?_eq_some he) d
  · rename_i he
    exact h.append (entryIn_eq_none.1 he) d

end ClaimUnit.Sound

/-- Joining the queue leaves the other entries' channels. -/
theorem mem_enqueue_channel {u : ClaimUnit} {n : ChannelIx} {d : Demand} {x : Entry} (hx : x ∈ (u.enqueue n d).queue) :
    x.channel = n ∨ ∃ y ∈ u.queue, y.channel = x.channel := by
  have hins {e : Entry} {q : List Entry} (hq : q ⊆ u.queue) (h : x ∈ insertEntry e q) (he : e.channel = n) :
      x.channel = n ∨ ∃ y ∈ u.queue, y.channel = x.channel := by
    rcases (mem_insertEntry _ _ _).1 h with rfl | h
    · exact .inl he
    · exact .inr ⟨x, hq h, rfl⟩
  unfold ClaimUnit.enqueue at hx
  split at hx
  · rename_i e he
    exact hins (removeEntry_sublist _ _).subset hx (mem_of_entryIn he).2
  · unfold ClaimUnit.append at hx
    dsimp only at hx
    split at hx
    · obtain ⟨y, hy, rfl⟩ := List.mem_map.1 hx
      rcases (mem_insertEntry _ _ _).1 hy with rfl | hy
      · exact .inl rfl
      · exact .inr ⟨y, hy, rfl⟩
    · exact hins (List.Subset.refl _) hx rfl

end Sys2Proof.Machine
end

section
/-! PROOFS. Every step keeps the claim queue sound (O7). -/

namespace Sys2Proof.Machine

theorem mem_allEight (n : Fin 8) : n ∈ allEight := by revert n; decide

theorem State.restsInLoading.of_ne {s : State} (h : s.member.state ≠ .loading) : s.restsInLoading :=
  fun hl => absurd hl h

theorem State.restsInLoading.of_working {s : State} (h : s.member.state.working = true) : s.restsInLoading :=
  .of_ne (MemberState.ne_loading_of_working h)

theorem State.restsInLoading.of_eq {s t : State} (h : s.restsInLoading) (hm : t.member.state = s.member.state)
    (hc : ∀ n, t.channelState n = s.channelState n) : t.restsInLoading := fun hl n => by
  rw [hc n]; exact h (hm ▸ hl) n

theorem MemberState.ne_loading_of_online {m : MemberState} (h : m.online = true) : m ≠ .loading :=
  MemberState.ne_loading_of_working (MemberState.working_of_online h)

theorem State.startsInLoading.of_online {s t : State} (h : s.startsInLoading) (ho : s.member.state.online = true)
    (hp : t.phase = s.phase) : t.startsInLoading := h.of_phase (MemberState.ne_loading_of_online ho) hp

/-! ## The claimed channel -/

/-- The channel of the outstanding claim, if there is one. -/
def State.claimed (s : State) : Option ChannelIx := s.claims.outstanding.map OutstandingClaim.channel

theorem State.claimed_eq_some {s : State} {n : ChannelIx} :
    s.claimed = some n ↔ ∃ o, s.claims.outstanding = some o ∧ o.channel = n := Option.map_eq_some_iff

theorem State.claimed_eq_none {s : State} : s.claimed = none ↔ s.claims.outstanding = none := Option.map_eq_none_iff

theorem State.claimsOneChannel_iff (s : State) :
    s.claimsOneChannel ↔ ∀ n, s.channelState n = .claiming ↔ s.claimed = some n :=
  forall_congr' fun _ => iff_congr Iff.rfl State.claimed_eq_some.symm

theorem claimed_setEnqueued (s : State) (n : ChannelIx) (d : Demand) :
    (s.setClaims (s.claims.enqueue n d)).claimed = s.claimed := by
  obtain ⟨f, hf⟩ := enqueue_outstanding s.claims n d
  unfold State.claimed
  rw [State.setClaims_claims, hf, Option.map_map]
  rfl

theorem claimed_requeue (s : State) (n : ChannelIx) (d : Demand) : (s.requeue n d).claimed = s.claimed := by
  unfold State.requeue
  split
  · rfl
  · exact claimed_setEnqueued s n d

theorem claims_beginRest (s : State) (n : ChannelIx) : (s.beginRest n).claims = s.claims := by
  unfold State.beginRest
  split <;> rfl

theorem claims_switchOff (s : State) (n : ChannelIx) : (s.switchOff n).claims = s.claims := by
  unfold State.switchOff
  rw [claims_beginRest]
  split <;> rfl

theorem claimed_of_claims {s t : State} (h : t.claims = s.claims) : t.claimed = s.claimed :=
  congrArg (fun u : ClaimUnit => u.outstanding.map OutstandingClaim.channel) h

theorem requeue_channelState (s : State) (n k : ChannelIx) (d : Demand) :
    (s.requeue n d).channelState k = s.channelState k := by
  unfold State.requeue
  split <;> rfl

/-! ## The CLAIMING channel (R45) -/

/-- A channel is CLAIMING exactly while it is the claimed one. -/
def State.claimsOne (s : State) : Prop := ∀ n, s.channelState n = .claiming ↔ s.claimed = some n

/-- The claimed channel is CLAIMING. -/
def State.claimedClaims (s : State) : Prop := ∀ n, s.claimed = some n → s.channelState n = .claiming

/-- What a change can do to the claimed channel and to CLAIMING: nothing, take up a channel, or end the claim. -/
inductive ClaimTurn (s t : State) : Prop where
  | stands (hc : t.claimed = s.claimed) (hk : ∀ k, t.channelState k = .claiming ↔ s.channelState k = .claiming)
  | takes (n : ChannelIx) (hs : s.claimed = none) (ht : t.claimed = some n)
      (hk : ∀ k, t.channelState k = .claiming ↔ k = n ∨ s.channelState k = .claiming)
  | ends (n : ChannelIx) (hs : s.claimed = some n) (ht : t.claimed = none)
      (hk : ∀ k, t.channelState k = .claiming ↔ k ≠ n ∧ s.channelState k = .claiming)

theorem ClaimTurn.claimsOne {s t : State} (h : ClaimTurn s t) (hs : s.claimsOne) : t.claimsOne := by
  intro k
  cases h with
  | stands hc hk => rw [hk, hc, hs k]
  | takes n hn ht hk => rw [hk, ht, hs k, hn, Option.some.injEq, eq_comm]; simp
  | ends n hn ht hk => rw [hk, ht, hs k, hn, Option.some.injEq, eq_comm (a := n)]; simp

theorem ClaimTurn.claimedClaims {s t : State} (h : ClaimTurn s t) (hs : s.claimedClaims) : t.claimedClaims := by
  intro k hc
  cases h with
  | stands hc' hk => exact (hk k).2 (hs k (hc' ▸ hc))
  | takes n hn ht hk => rw [ht] at hc; cases hc; exact (hk k).2 (.inl rfl)
  | ends n hn ht hk => rw [ht] at hc; cases hc

/-- A channel that is not CLAIMING goes to a state that is not CLAIMING. -/
theorem setChannelState_claimTurn {s : State} {n : ChannelIx} {c : ChannelState} (hold : s.channelState n ≠ .claiming)
    (hnew : c ≠ .claiming) : ClaimTurn s (s.setChannelState n c) := by
  refine .stands rfl fun k => ?_
  rw [State.channelState_setChannelState]
  split
  · rename_i hk
    subst hk
    exact iff_of_false hnew hold
  · exact Iff.rfl

/-- The outstanding claim ends and its channel goes to another state. -/
theorem endClaim_claimTurn {s : State} {o : OutstandingClaim} (ho : s.claims.outstanding = some o) {c : ChannelState}
    (hc : c ≠ .claiming) :
    ClaimTurn s ((s.setClaims { s.claims with outstanding := none }).setChannelState o.channel c) := by
  refine .ends o.channel (State.claimed_eq_some.2 ⟨o, ho, rfl⟩) rfl fun k => ?_
  rw [State.channelState_setChannelState]
  split
  · exact iff_of_false hc fun h => h.1 ‹_›
  · exact ⟨fun h => ⟨‹_›, h⟩, fun h => h.2⟩

theorem ClaimTurn.setClaims {s t : State} (h : ClaimTurn s t) {u : ClaimUnit} (hu : (t.setClaims u).claimed = t.claimed) :
    ClaimTurn s (t.setClaims u) := by
  cases h with
  | stands hc hk => exact .stands (hu.trans hc) hk
  | takes n hn ht hk => exact .takes n hn (hu.trans ht) hk
  | ends n hn ht hk => exact .ends n hn (hu.trans ht) hk

theorem ClaimTurn.setOffers {s t : State} (h : ClaimTurn s t) (o : OfferSet) : ClaimTurn s (t.setOffers o) := by
  cases h with
  | stands hc hk => exact .stands hc hk
  | takes n hn ht hk => exact .takes n hn ht hk
  | ends n hn ht hk => exact .ends n hn ht hk

theorem ClaimTurn.refl (s : State) : ClaimTurn s s := .stands rfl fun _ => Iff.rfl

theorem dropClaim_claimTurn {s : State} {o c : OutstandingClaim} (ho : s.claims.outstanding = some o)
    (hc : c.channel = o.channel) : ClaimTurn s (s.dropClaim c) := by
  unfold State.dropClaim
  rw [hc]
  exact (endClaim_claimTurn ho (c := .off) nofun).setOffers _

theorem Move.claimTurn {s t : State} (hm : Move s t) : ClaimTurn s t := by
  cases hm with
  | enqueue n d _ => exact (ClaimTurn.refl s).setClaims (claimed_setEnqueued s n d)
  | forget n => exact (ClaimTurn.refl s).setClaims rfl
  | holdClear => exact (ClaimTurn.refl s).setClaims rfl
  | serve e he hr hw =>
    have hoff : s.channelState e.channel ≠ .claiming := by
      intro hc
      simp [State.ready, hc, ChannelState.isOff] at hr
    refine .stands (congrArg (Option.map _) (serveEntry_outstanding s e)) fun k => ?_
    unfold State.serveEntry
    rw [if_pos (by simp [he, hr, hw])]
    unfold State.switchOn
    rw [State.channelState_setChannelState]
    split
    · rename_i hk
      subst hk
      exact iff_of_false nofun hoff
    · exact Iff.rfl
  | takeUp e _ _ _ ho =>
    refine .takes e.channel (State.claimed_eq_none.2 ho) rfl fun k => ?_
    unfold State.takeUp
    rw [State.channelState_setOffers, State.channelState_setChannelState]
    split
    · exact iff_of_true rfl (.inl ‹_›)
    · exact (or_iff_right ‹_›).symm
  | dropClaim o c ho hc => exact dropClaim_claimTurn ho hc
  | returnClaim o c hold ho hc _ => exact (dropClaim_claimTurn ho hc).setClaims rfl
  | amend o c ho hc _ _ =>
    exact (ClaimTurn.refl s).setClaims (by simp [State.claimed, ho, hc])
  | extendPending n d e hp => exact setChannelState_claimTurn (by rw [hp]; nofun) nofun
  | extendOn n d e hp => exact setChannelState_claimTurn (by rw [hp]; nofun) nofun
  | stopPending n d hp => exact (setChannelState_claimTurn (n := n) (c := .stopping) (by rw [hp]; nofun) nofun).setOffers _
  | stopBudgeted n _ hp =>
    refine (setChannelState_claimTurn (n := n) (c := .stopping) (fun hc => ?_) nofun).setOffers _
    rcases hp with hp | ⟨hp, -⟩ <;> rw [hc] at hp <;> cases hp
  | goOff n hp =>
    refine setChannelState_claimTurn (fun hc => ?_) nofun
    rcases hp with ⟨d, hp⟩ | hp <;> rw [hc] at hp <;> cases hp
  | endStopping n hp => exact (setChannelState_claimTurn (n := n) (c := .off) (by rw [hp]; nofun) nofun).setOffers _
  | rest n r => exact .stands rfl fun k => by rw [State.channelState_setRest]
  | renew b _ => exact (ClaimTurn.refl s).setOffers _

theorem settleAdmitted_claimTurn {s : State} {o : OutstandingClaim} (b : Bool) (ho : s.claims.outstanding = some o) :
    ClaimTurn s (s.settleAdmitted o b) := by
  have hstop : ClaimTurn s ((s.setClaims { s.claims with outstanding := none }).enterStopping o.channel) :=
    (endClaim_claimTurn ho (c := .stopping) nofun).setOffers _
  unfold State.settleAdmitted
  dsimp only
  split
  · exact hstop
  · split
    · unfold State.requeue
      split
      · exact hstop
      · exact hstop.setClaims (claimed_setEnqueued _ _ _)
    · split
      · exact endClaim_claimTurn ho nofun
      · exact endClaim_claimTurn ho nofun

/-! ## The queue's part of the state -/

/-- The queue invariant without what it says of the membership state: the claim unit sound, entries for channels that are
OFF or STOPPING alone, and the outstanding claim for the one CLAIMING channel, a budgeted one. -/
structure State.QueueCore (s : State) : Prop where
  unit : s.claims.Sound
  waits : ∀ e ∈ s.claims.queue, (s.channelState e.channel).isEngaged = false
  claims : s.claimsOne
  budgeted : ∀ n, s.claimed = some n → s.exempt n = false

namespace State.QueueCore

/-- A change of the channels that moves none into or out of CLAIMING, and none that is OFF or STOPPING out of these. -/
theorem channels {s t : State} (h : s.QueueCore) (hc : t.claims = s.claims) (he : ∀ n, t.exempt n = s.exempt n)
    (hk : ∀ k, (t.channelState k = .claiming ↔ s.channelState k = .claiming) ∧
      ((s.channelState k).isEngaged = false → (t.channelState k).isEngaged = false)) : t.QueueCore where
  unit := hc ▸ h.unit
  waits e hm := (hk e.channel).2 (h.waits e (hc ▸ hm))
  claims n := by rw [(hk n).1, claimed_of_claims hc, h.claims n]
  budgeted n hn := by rw [he n]; exact h.budgeted n (claimed_of_claims hc ▸ hn)

/-- One channel changes its state. -/
theorem setChannelState {s : State} (h : s.QueueCore) {n : ChannelIx} {c : ChannelState}
    (hold : s.channelState n ≠ .claiming) (hnew : c ≠ .claiming)
    (hidle : c.isEngaged = false ∨ (s.channelState n).isEngaged = true) : (s.setChannelState n c).QueueCore := by
  refine h.channels rfl (fun _ => rfl) fun k => ?_
  rw [State.channelState_setChannelState]
  split
  · rename_i hk
    subst hk
    refine ⟨iff_of_false hnew hold, fun hi => hidle.resolve_right ?_⟩
    rw [hi]
    nofun
  · exact ⟨Iff.rfl, id⟩

/-- An entry's channel is none that is CLAIMING, PENDING or ON. -/
theorem channel_ne {s : State} (h : s.QueueCore) {n : ChannelIx} (hn : (s.channelState n).isEngaged = true) {e : Entry}
    (he : e ∈ s.claims.queue) : e.channel ≠ n := by
  rintro rfl
  rw [h.waits e he] at hn
  cases hn

theorem claiming {s : State} (h : s.QueueCore) {o : OutstandingClaim} (ho : s.claims.outstanding = some o) :
    s.channelState o.channel = .claiming := (h.claims _).2 (State.claimed_eq_some.2 ⟨o, ho, rfl⟩)

theorem sound_outstanding {s : State} (h : s.QueueCore) {o : OutstandingClaim} (ho : s.claims.outstanding = some o) :
    ClaimUnit.Sound { s.claims with outstanding := some o } := by
  rw [← ho]; exact h.unit

/-- The outstanding claim ends and its channel goes to another state. -/
theorem endClaim {s : State} (h : s.QueueCore) {o : OutstandingClaim} (ho : s.claims.outstanding = some o)
    {c : ChannelState} (hc : c ≠ .claiming) :
    ((s.setClaims { s.claims with outstanding := none }).setChannelState o.channel c).QueueCore where
  unit := (h.sound_outstanding ho).sublist (List.Sublist.refl _) (.inr rfl)
  waits e he := by
    rw [State.channelState_setChannelState,
      if_neg (h.channel_ne (by rw [h.claiming ho]; rfl) he)]
    exact h.waits e he
  claims := (endClaim_claimTurn ho hc).claimsOne h.claims
  budgeted n hn := by cases hn

theorem enqueue {s : State} (h : s.QueueCore) {n : ChannelIx} (hn : (s.channelState n).isEngaged = false) (d : Demand) :
    (s.setClaims (s.claims.enqueue n d)).QueueCore where
  unit := h.unit.enqueue n d
  waits e he := by
    change (s.channelState e.channel).isEngaged = false
    rcases mem_enqueue_channel he with hc | ⟨y, hy, hc⟩
    · rw [hc]; exact hn
    · rw [← hc]; exact h.waits y hy
  claims k := by rw [claimed_setEnqueued]; exact h.claims k
  budgeted k hk := h.budgeted k (by rw [claimed_setEnqueued] at hk; exact hk)

theorem forget {s : State} (h : s.QueueCore) (n : ChannelIx) :
    (s.setClaims { s.claims with queue := removeEntry n s.claims.queue }).QueueCore where
  unit := h.unit.sublist (removeEntry_sublist n _) (.inl rfl)
  waits e he := h.waits e ((removeEntry_sublist n _).subset he)
  claims := h.claims
  budgeted := h.budgeted

theorem returnClaim {s : State} (h : s.QueueCore) {o c : OutstandingClaim} (hold : Bool)
    (ho : s.claims.outstanding = some o) (hc : c.channel = o.channel) (hn : c.number = o.number) :
    (s.returnClaim c hold).QueueCore := by
  have hd : (s.dropClaim c).QueueCore := by
    have := h.endClaim ho (c := .off) nofun
    unfold State.dropClaim
    rw [hc]
    exact { this with }
  refine ⟨?_, fun e he => ?_, hd.claims, hd.budgeted⟩
  · refine hd.unit.insert (c.entry hold) ?_ ?_ fun x hx => ?_
    · change c.number ∉ _
      rw [hn]
      exact (h.sound_outstanding ho).number_notMem
    · change c.number < _
      rw [hn]
      exact h.unit.below o.number (ClaimUnit.mem_numbers.2 (.inr ⟨o, ho, rfl⟩))
    · change x.channel ≠ c.channel
      rw [hc]
      exact h.channel_ne (by rw [h.claiming ho]; rfl) hx
  · rcases (mem_insertEntry _ _ _).1 he with rfl | he
    · change ((s.dropClaim c).channelState c.channel).isEngaged = false
      unfold State.dropClaim
      rw [State.channelState_setOffers, State.channelState_setChannelState_self]
      rfl
    · exact hd.waits e he

end State.QueueCore

theorem Move.queueCore {s t : State} (hm : Move s t) (h : s.QueueCore) : t.QueueCore := by
  cases hm with
  | enqueue n d hn => exact h.enqueue hn d
  | forget n => exact h.forget n
  | holdClear =>
    refine ⟨h.unit.clearHolds, fun e he => ?_, h.claims, h.budgeted⟩
    obtain ⟨x, hx, rfl⟩ := List.mem_map.1 he
    exact h.waits x hx
  | serve e he hr hw =>
    have hone := (Move.serve e he hr hw).claimTurn.claimsOne h.claims
    have hf := h.forget e.channel
    unfold State.serveEntry at *
    rw [if_pos (by simp [he, hr, hw])] at *
    refine ⟨hf.unit, fun x hx => ?_, hone, hf.budgeted⟩
    unfold State.switchOn
    rw [State.channelState_setChannelState, if_neg ((mem_removeEntry _ _ _).1 hx).2]
    exact hf.waits x hx
  | takeUp e hm hq hs ho =>
    have hone := (Move.takeUp e hm hq hs ho).claimTurn.claimsOne h.claims
    unfold State.takeUp at *
    refine ⟨h.unit.takeUp ho hm _ rfl, fun x hx => ?_, hone, fun n hn => ?_⟩
    · rw [State.channelState_setOffers, State.channelState_setChannelState,
        if_neg ((mem_removeEntry _ _ _).1 hx).2]
      exact h.waits x ((removeEntry_sublist _ _).subset hx)
    · cases hn
      simp only [State.qualifies, Bool.and_eq_true, Bool.not_eq_true'] at hq
      exact hq.1.1
  | dropClaim o c ho hc =>
    have := h.endClaim ho (c := .off) nofun
    unfold State.dropClaim
    rw [hc]
    exact { this with }
  | returnClaim o c hold ho hc hn => exact h.returnClaim hold ho hc hn
  | amend o c ho hc hn _ =>
    have hcl : (s.setClaims { s.claims with outstanding := some c }).claimed = s.claimed := by
      simp [State.claimed, ho, hc]
    have hnum : ClaimUnit.numbers { s.claims with outstanding := some c } = s.claims.numbers := by
      simp [ClaimUnit.numbers, ho, hn]
    exact ⟨⟨h.unit.ordered, h.unit.channels, hnum ▸ h.unit.numbers, hnum ▸ h.unit.below, h.unit.count⟩, h.waits,
      fun k => hcl ▸ h.claims k, hcl ▸ h.budgeted⟩
  | extendPending n d e hp =>
    exact h.setChannelState (by rw [hp]; nofun) nofun (.inr (by rw [hp]; rfl))
  | extendOn n d e hp =>
    exact h.setChannelState (by rw [hp]; nofun) nofun (.inr (by rw [hp]; rfl))
  | stopPending n d hp =>
    have := h.setChannelState (n := n) (c := .stopping) (by rw [hp]; nofun) nofun (.inl rfl)
    exact { this with }
  | stopBudgeted n _ hp =>
    have hne : s.channelState n ≠ .claiming := by
      intro hc
      rcases hp with hp | ⟨hp, -⟩ <;> rw [hc] at hp <;> cases hp
    have := h.setChannelState (n := n) (c := .stopping) hne nofun (.inl rfl)
    exact { this with }
  | goOff n hp =>
    refine h.setChannelState (fun hc => ?_) nofun (.inl rfl)
    rcases hp with ⟨d, hp⟩ | hp <;> rw [hc] at hp <;> cases hp
  | endStopping n hp =>
    have := h.setChannelState (n := n) (c := .off) (by rw [hp]; nofun) nofun (.inl rfl)
    exact { this with }
  | rest n r =>
    refine h.channels rfl (fun _ => rfl) fun k => ?_
    rw [State.channelState_setRest]
    exact ⟨Iff.rfl, id⟩
  | renew b _ => exact { h with }

/-- An admitted claim leaves the queue's part sound (R48). -/
theorem State.QueueCore.settleAdmitted {s : State} (h : s.QueueCore) {o : OutstandingClaim} (b : Bool)
    (ho : s.claims.outstanding = some o) : (s.settleAdmitted o b).QueueCore := by
  have hstop : ((s.setClaims { s.claims with outstanding := none }).enterStopping o.channel).QueueCore :=
    { h.endClaim ho (c := .stopping) nofun with }
  unfold State.settleAdmitted
  dsimp only
  split
  · exact hstop
  · split
    · refine Moves.keeps (fun _ _ => Move.queueCore) (requeue_moves _ ?_) hstop
      rw [State.channelState_enterStopping, if_pos rfl]
      rfl
    · split
      · exact h.endClaim ho nofun
      · exact h.endClaim ho nofun

theorem queueCore_effects : Effects State.QueueCore where
  move _ _ hm h := hm.queueCore h
  table _ _ h := { h with }
  member _ _ h _ := { h with }
  changeMasks s m h := Moves.keeps (fun _ _ => Move.queueCore) (changeMasks_moves s m) { h with }
  diverge _ h ho := confirmDivergence_keeps (P := State.QueueCore) (fun _ _ => Move.queueCore)
    (fun _ _ h => { h with }) (fun _ _ h => { h with }) (fun _ _ h => { h with }) ho h
  beaconOffer _ h := { h with }
  faults _ _ h := { h with }
  voided _ h := { h with }
  promote _ n d h hp := h.setChannelState (by rw [hp]; nofun) nofun (.inr (by rw [hp]; rfl))
  settle _ _ b h ho := h.settleAdmitted b ho

/-! ## A claim is outstanding only in SYNCED (R45) -/

/-- A claim is outstanding only in SYNCED. -/
def State.claimsInSynced (s : State) : Prop := s.claimed.isSome = true → s.member.state = .synced

theorem State.claimsInSynced_of_none {s : State} (h : s.claims.outstanding = none) : s.claimsInSynced := by
  unfold State.claimsInSynced
  rw [State.claimed_eq_none.2 h]
  nofun

theorem State.claimsInSynced.none {s : State} (h : s.claimsInSynced) (hm : s.member.state ≠ .synced) :
    s.claims.outstanding = none := by
  rw [← State.claimed_eq_none]
  cases hc : s.claimed with
  | none => rfl
  | some n => exact absurd (h (by rw [hc]; rfl)) hm

theorem Move.claimsInSynced {s t : State} (hm : Move s t) (h : s.claimsInSynced) : t.claimsInSynced := by
  cases hm with
  | enqueue n d _ =>
    unfold State.claimsInSynced
    rw [claimed_setEnqueued]
    exact h
  | serve e =>
    unfold State.claimsInSynced State.claimed
    rw [serveEntry_outstanding, (serveEntry_work s e).member]
    exact h
  | takeUp e _ _ hs _ => exact fun _ => hs
  | dropClaim => exact State.claimsInSynced_of_none rfl
  | returnClaim => exact State.claimsInSynced_of_none rfl
  | amend o c ho _ _ _ =>
    intro _
    exact h (by rw [State.claimed, ho]; rfl)
  | _ => exact h

/-- Where a channel's claim ends as it is dealt with, whatever channel it was is claimed no longer afterwards. -/
theorem claimed_foldl {Q : State → Prop} (hQ : ∀ s, Q s → s.QueueCore) {f : State → ChannelIx → State}
    (hf : ∀ s n, Q s → Q (f s n))
    (hc : ∀ s n, s.QueueCore → (f s n).claimed = if s.claimed = some n then none else s.claimed) (l : List ChannelIx)
    {s : State} (h : Q s) (hl : ∀ n, s.claimed = some n → n ∈ l) : (l.foldl f s).claims.outstanding = none := by
  induction l generalizing s with
  | nil =>
    rw [← State.claimed_eq_none]
    cases hs : s.claimed with
    | none => exact hs
    | some n => exact absurd (hl n hs) List.not_mem_nil
  | cons a l ih =>
    refine ih (hf s a h) fun n hn => ?_
    rw [hc s a (hQ s h)] at hn
    split at hn
    · cases hn
    · rename_i ha
      exact (List.mem_cons.1 (hl n hn)).resolve_left fun he => ha (he ▸ hn)

/-- The outstanding claim ends at its own channel's turn, and at no other's. -/
theorem claimed_of_turn {s t : State} (h : s.QueueCore) {n : ChannelIx} (hc : t.claimed = s.claimed)
    (hn : s.channelState n ≠ .claiming) : t.claimed = if s.claimed = some n then none else s.claimed := by
  rw [if_neg fun hcl => hn ((h.claims n).2 hcl), hc]

theorem claimed_returnClaim {s : State} (h : s.QueueCore) (n : ChannelIx) (hn : s.channelState n = .claiming) :
    State.claimed (match s.claims.outstanding with
      | some o => if o.channel = n then s.returnClaim o false else s
      | none => s) = if s.claimed = some n then none else s.claimed := by
  obtain ⟨o, ho, rfl⟩ := State.claimed_eq_some.1 ((h.claims n).1 hn)
  rw [if_pos ((h.claims _).1 hn), ho]
  dsimp only
  rw [if_pos rfl]
  rfl

theorem claimed_divergeChannel (s : State) (n : ChannelIx) (h : s.QueueCore) :
    (s.divergeChannel n).claimed = if s.claimed = some n then none else s.claimed := by
  unfold State.divergeChannel
  split
  · rename_i he
    rw [if_neg fun hc => by rw [h.budgeted n hc] at he; cases he]
  · split
    · rename_i d hn
      exact claimed_of_turn h ((claimed_requeue _ _ _).trans (claimed_of_claims (claims_switchOff s n))) (by rw [hn]; nofun)
    · rename_i d hn
      exact claimed_of_turn h (claimed_requeue _ _ _) (by rw [hn]; nofun)
    · rename_i hn
      exact claimed_of_turn h rfl (by rw [hn]; nofun)
    · rename_i hn
      exact claimed_of_turn h (by split <;> rfl) (by rw [hn]; nofun)
    · exact claimed_returnClaim h n ‹_›

theorem claimed_muteChannel (s : State) (n : ChannelIx) (h : s.QueueCore) :
    (s.muteChannel n).claimed = if s.claimed = some n then none else s.claimed := by
  unfold State.muteChannel
  split
  · rename_i he
    rw [if_neg fun hc => by rw [h.budgeted n hc] at he; cases he]
  · split
    · rename_i d hn
      exact claimed_of_turn h ((claimed_requeue _ _ _).trans (claimed_of_claims (claims_beginRest _ n)))
        (by rw [hn]; nofun)
    · rename_i d hn
      exact claimed_of_turn h (claimed_requeue _ _ _) (by rw [hn]; nofun)
    · rename_i hn
      exact claimed_of_turn h rfl (by rw [hn]; nofun)
    · rename_i hn
      exact claimed_of_turn h rfl (by rw [hn]; nofun)
    · exact claimed_returnClaim h n ‹_›

theorem State.QueueCore.muteChannel {s : State} (h : s.QueueCore) (n : ChannelIx) : (s.muteChannel n).QueueCore := by
  rcases muteChannel_cases s n with hm | ⟨hn, he⟩
  · exact Moves.keeps (fun _ _ => Move.queueCore) hm h
  · rw [he]
    exact h.setChannelState (by rw [hn]; nofun) nofun (.inl rfl)

theorem moves_outstanding_none {s t : State} (h : Moves s t) (hs : s.claims.outstanding = none)
    (hm : s.member.state ≠ .synced) : t.claims.outstanding = none :=
  (Moves.keeps (fun _ _ => Move.claimsInSynced) h (State.claimsInSynced_of_none hs)).none
    (by rw [h.work.member]; exact hm)

/-- The channels at a confirmed divergence leave no claim outstanding (R63). -/
theorem divergeChannels_outstanding {s : State} (h : s.QueueCore) (ho : s.member.state.online = true) :
    (allEight.foldl State.divergeChannel s).claims.outstanding = none := by
  have hall := mem_allEight
  generalize allEight = l at *
  exact claimed_foldl (Q := fun s => s.QueueCore ∧ s.member.state.online = true) (fun _ h => h.1)
    (fun s n h => ⟨Moves.keeps (fun _ _ => Move.queueCore) (divergeChannel_moves n h.2) h.1, by
      rw [(divergeChannel_work s n).member]; exact h.2⟩)
    claimed_divergeChannel l ⟨h, ho⟩ fun n _ => hall n

/-- The channels at MUTE entry leave no claim outstanding (R74). -/
theorem muteChannels_outstanding {s : State} (h : s.QueueCore) (f : FaultSet) :
    (s.muteChannels f).claims.outstanding = none := by
  have hall := mem_allEight
  have hd : (s.muteDropped f).QueueCore := { h with }
  unfold State.muteChannels
  generalize allEight = l at *
  generalize s.muteDropped f = t at *
  exact claimed_foldl (Q := State.QueueCore) (fun _ => id) (fun _ n h => h.muteChannel n) claimed_muteChannel l hd
    fun n _ => hall n

theorem clearTable_claims (s : State) :
    s.clearTable.claims = { s.claims with queue := clearHolds s.claims.queue } := by
  unfold State.clearTable State.dropIdleRenew
  split <;> rfl

/-- A confirmed divergence leaves no claim outstanding (R63). -/
theorem confirmDivergence_outstanding {s : State} (h : s.QueueCore) (ho : s.member.state.online = true) :
    s.confirmDivergence.claims.outstanding = none := by
  have hd := divergeChannels_outstanding (s := s.setFaults { s.report.faults with diverged := true }) { h with } ho
  have hc := clearTable_claims (allEight.foldl State.divergeChannel (s.setFaults { s.report.faults with diverged := true }))
  unfold State.confirmDivergence
  dsimp only
  generalize allEight.foldl State.divergeChannel (s.setFaults { s.report.faults with diverged := true }) = t at *
  rw [State.setMember_claims, hc]
  exact hd

/-! ## The queue invariant -/

/-- The queue's part of the state with what it says of the membership state. -/
structure State.QueueSound (s : State) : Prop extends s.QueueCore where
  synced : s.claimsInSynced

theorem Move.queueSound {s t : State} (hm : Move s t) (h : s.QueueSound) : t.QueueSound :=
  ⟨hm.queueCore h.toQueueCore, hm.claimsInSynced h.synced⟩

theorem State.QueueSound.of_none {s : State} (h : s.QueueCore) (ho : s.claims.outstanding = none) : s.QueueSound :=
  ⟨h, State.claimsInSynced_of_none ho⟩

theorem queueSound_effects : Effects State.QueueSound where
  move _ _ hm h := hm.queueSound h
  table _ _ h := { h with }
  member s m h hm := by
    refine { h with synced := fun hc => ?_ }
    rcases hm with hm | hm
    · exact hm.trans (h.synced hc)
    · exact hm
  changeMasks s m h := Moves.keeps (fun _ _ => Move.queueSound) (changeMasks_moves s m) { h with }
  diverge s h ho := .of_none (queueCore_effects.diverge s h.toQueueCore ho) (confirmDivergence_outstanding h.toQueueCore ho)
  beaconOffer _ h := { h with }
  faults _ _ h := { h with }
  voided _ h := { h with }
  promote s n d h hp := ⟨queueCore_effects.promote s n d h.toQueueCore hp, h.synced⟩
  settle s o b h ho := .of_none (h.settleAdmitted b ho) (settleAdmitted_outstanding s o b)

/-- The queue invariant, part by part. -/
structure State.QueueInv (s : State) : Prop extends s.QueueSound where
  rests : s.restsInLoading
  starts : s.startsInLoading

theorem queueInv_iff (s : State) : s.queueInv ↔ s.QueueInv := by
  constructor
  · rintro ⟨h1, h2, h3, h4, h5, h6, h7, h8, h9, h10⟩
    refine ⟨⟨⟨⟨h1, h2, h4, h5, h6⟩, h3, (s.claimsOneChannel_iff).1 h7, fun n hn => ?_⟩, fun hc => ?_⟩, h9, h10⟩
    · obtain ⟨o, ho, rfl⟩ := State.claimed_eq_some.1 hn
      exact (h8 o ho).2
    · obtain ⟨n, hn⟩ := Option.isSome_iff_exists.1 hc
      obtain ⟨o, ho, -⟩ := State.claimed_eq_some.1 hn
      exact (h8 o ho).1
  · rintro ⟨⟨⟨⟨h1, h2, h4, h5, h6⟩, h3, h7, h8⟩, h9⟩, h10, h11⟩
    refine ⟨h1, h2, h3, h4, h5, h6, (s.claimsOneChannel_iff).2 h7, fun o ho => ?_, h10, h11⟩
    have hc : s.claimed = some o.channel := State.claimed_eq_some.2 ⟨o, ho, rfl⟩
    exact ⟨h9 (by rw [hc]; rfl), h8 _ hc⟩

namespace State.QueueInv

theorem of_working {s : State} (h : s.QueueSound) (hw : s.member.state.working = true) (hs : s.startsInLoading) :
    s.QueueInv := ⟨h, .of_working hw, hs⟩

theorem moves {s t : State} (h : s.QueueInv) (hw : s.member.state.working = true) (hm : Moves s t) : t.QueueInv :=
  of_working (queueSound_effects.moves hm h.toQueueSound) (by rw [hm.work.member]; exact hw)
    (h.starts.of_eq hm.work.phase (by rw [hm.work.member]))

theorem changeMasks {s : State} (h : s.QueueInv) (hw : s.member.state.working = true) (m : InhibitMasks) :
    (s.changeMasks m).QueueInv :=
  of_working (queueSound_effects.changeMasks s m h.toQueueSound) (by rw [changeMasks_member]; exact hw)
    (h.starts.of_eq (changeMasks_work s m).phase (by rw [changeMasks_member]))

end State.QueueInv

/-- The source of a failed attempt keeps the queue's part (R184). -/
theorem State.QueueSound.sourceFailed {s : State} (h : s.QueueSound) (o : Offer) : (s.sourceFailed o).QueueSound := by
  cases o with
  | claim =>
    unfold State.sourceFailed
    dsimp only
    split
    · rename_i c hc
      exact queueSound_effects.moves
        (settleEndedAttempt_moves _ hc rfl rfl fun hu _ => Nat.not_le.1 (of_decide_eq_false hu)) h
    · exact h
  | command => unfold State.sourceFailed; dsimp only; split <;> exact { h with }
  | report => unfold State.sourceFailed; dsimp only; split <;> exact { h with }
  | beacon => exact h
  | release n => exact h
  | renew => exact h

/-- MUTE entry keeps the queue's part (R74). -/
theorem State.QueueCore.enterMute {s : State} (h : s.QueueCore) (f : FaultSet) : (s.enterMute f).QueueSound := by
  have hc : (s.muteChannels f).QueueCore := muteChannels_keeps (fun _ _ => Move.queueCore)
    (fun s n h hn => h.setChannelState (by rw [hn]; nofun) nofun (.inl rfl)) { h with }
  have ho := muteChannels_outstanding h f
  rw [enterMute_eq]
  refine Moves.keeps (fun _ _ => Move.queueSound) (judge_moves _) ?_
  unfold State.muteEntered State.muteOff
  generalize s.muteChannels f = t at *
  have hcl := queueCore_effects.clearTable
    (s := t.setLine { t.line.left with vetoStreak := 0, sendStreak := 0, courtesyGap := false }) { hc with }
  have hcc := clearTable_claims (t.setLine { t.line.left with vetoStreak := 0, sendStreak := 0, courtesyGap := false })
  generalize (t.setLine { t.line.left with vetoStreak := 0, sendStreak := 0, courtesyGap := false }).clearTable = u at *
  refine .of_none { hcl with } ?_
  change u.claims.outstanding = none
  rw [hcc]
  exact ho

theorem enterMute_member (s : State) (f : FaultSet) : (s.enterMute f).member.state = .mute := by
  rw [(enterMute_work s f).member]; rfl

theorem enterMute_starts {s : State} (h : s.startsInLoading) (ho : s.member.state.online = true) (f : FaultSet) :
    (s.enterMute f).startsInLoading := h.of_online ho (enterMute_work s f).phase

theorem Channel.counted_state (c : Channel) :
    (c.counted.state = .claiming ↔ c.state = .claiming) ∧ (c.counted.state = .off ↔ c.state = .off) ∧
      (c.counted.state = .stopping ↔ c.state = .stopping) ∧ c.counted.state.isOn = c.state.isOn ∧
      c.counted.state.isEngaged = c.state.isEngaged := by
  unfold Channel.counted
  cases c.state <;> simp [ChannelState.isOn, ChannelState.isEngaged]

theorem State.channelState_counted (s : State) (n : ChannelIx) :
    State.channelState { s with channels := s.channels.map Channel.counted } n = (s.channel n).counted.state := by
  simp [State.channelState, State.channel]

/-- The end of an own attempt keeps the queue's part (R86, R183). -/
theorem State.QueueSound.endOwnAttempt {s : State} (h : s.QueueSound) (o : Offer) : (s.endOwnAttempt o).QueueSound := by
  have hl : (s.setLine { s.line with sendStreak := 0, courtesyGap := true }).QueueSound := { h with }
  unfold State.endOwnAttempt
  dsimp only
  generalize s.setLine { s.line with sendStreak := 0, courtesyGap := true } = t at *
  cases o with
  | release n =>
    dsimp only
    split
    · rename_i hn
      have := hl.setChannelState (n := n) (c := .off) (by rw [hn]; nofun) nofun (.inl rfl)
      exact { this with synced := hl.synced }
    · exact { hl with }
  | claim => exact { queueSound_effects.moves (setInFlight_moves t false) hl with }
  | _ => exact { hl with }

theorem State.QueueSound.afterFrame {s : State} (h : s.QueueSound) (f : Frame) (part : Option Offer) :
    (s.afterFrame f part).QueueSound := by
  have hc : ((s.lineAccepted f).countJudgements f).QueueSound := by
    rw [(countJudgements_frame (s.lineAccepted f) f).1]
    exact { h with }
  unfold State.afterFrame
  cases part with
  | none => exact hc
  | some o => exact hc.endOwnAttempt o

theorem afterFrame_starts {s : State} (h : s.startsInLoading) (f : Frame) (part : Option Offer) :
    (s.afterFrame f part).startsInLoading :=
  h.of_eq (by rw [afterFrame_frame]) (congrArg Membership.state (afterFrame_member s f part))

/-- The queue invariant is kept by every operation of a step. -/
theorem queueInv_keeps : Keeps State.QueueInv where
  pending _ _ h := { h with }
  releases _ _ h _ := { h with }
  starts s _ h hp := { h with starts := fun _ => h.starts (by rw [hp]; nofun) }
  waits _ _ h _ _ := { h with }
  waitEnds s h hp := by
    have hl := h.starts (by rw [hp]; nofun)
    have ho := h.synced.none (by rw [hl]; nofun)
    exact { h with
      synced := State.claimsInSynced_of_none ho, rests := fun _ => h.rests hl, starts := fun hn => absurd rfl hn }
  loads _ _ h _ _ := { h with }
  readEnds s image h hl := by
    obtain ⟨hp, hm⟩ := State.isLoading_state hl
    have ho := h.synced.none (by rw [hm]; nofun)
    have starts {t : State} (hpt : t.phase = s.phase) : t.startsInLoading := fun hn => absurd (hpt.trans hp) hn
    rcases endRead_cases s image with ⟨failure, -, he⟩ | ⟨outcome, he⟩ | ⟨c, hc, he⟩ <;> rw [he]
    · exact { h with }
    · exact { h with synced := State.claimsInSynced_of_none ho, rests := .of_ne nofun, starts := starts rfl }
    · exact { h with
        synced := State.claimsInSynced_of_none ho, rests := .of_ne nofun, starts := starts rfl
        budgeted := fun n hn => by
          change s.claimed = some n at hn
          rw [State.claimed_eq_none.2 ho] at hn
          cases hn }
  quiet _ _ _ _ _ h _ _ := { h with }
  records _ h _ := { h with }
  begins s o h ho _ := by
    have hr : s.recordSof.QueueInv := { h with }
    have hm : (if o = .claim then s.recordSof.setInFlight true else s.recordSof).QueueInv := by
      split
      · exact hr.moves (MemberState.working_of_online ho) (setInFlight_moves _ true)
      · exact hr
    exact { hm with }
  counts _ _ h _ := { h with }
  fails s o f a b h ho _ _ := by
    have hb : (s.attemptFailed a b).QueueInv := { h with }
    have hf := hb.toQueueSound.sourceFailed o
    have hmem : ((s.attemptFailed a b).sourceFailed o).member = s.member := by rw [sourceFailed_frame]; rfl
    have hst : ((s.attemptFailed a b).sourceFailed o).startsInLoading :=
      h.starts.of_eq (by rw [sourceFailed_frame]; rfl) (by rw [hmem])
    rcases failAttempt_cases s o a b with ⟨-, he⟩ | ⟨-, he⟩ <;> rw [he]
    · exact .of_working hf (by rw [hmem]; exact MemberState.working_of_online ho) hst
    · exact .of_working (hf.enterMute _) (by rw [enterMute_member]; rfl) (enterMute_starts hst (by rw [hmem]; exact ho) _)
  vetoes s b h ho := by
    have hb : (s.vetoCast b).QueueInv := { h with }
    rcases castVeto_cases s b with ⟨-, he⟩ | ⟨-, he⟩ <;> rw [he]
    · exact hb
    · exact .of_working (hb.enterMute _) (by rw [enterMute_member]; rfl) (enterMute_starts hb.starts ho _)
  accepts s f part h hp :=
    .of_working (h.toQueueSound.afterFrame f part)
      (by rw [afterFrame_member]; exact MemberState.working_of_online hp.1) (afterFrame_starts h.starts f part)
  halts s f h ho hnone _ :=
    { h with
      synced := State.claimsInSynced_of_none hnone, rests := .of_ne nofun, starts := h.starts.of_online ho rfl }
  move s t h hw hm := h.moves hw hm.moves
  masks s m h hw := h.changeMasks hw m
  beacon s b sender own h ho ha :=
    .of_working (queueSound_effects.beaconSettled b sender own (by simp [State.drivesLine, ha]) ho h.toQueueSound)
      (MemberState.working_of_online (beaconSettled_online b sender own ho))
      (h.starts.of_online ho (beaconSettled_table s b sender own).2.1)
  claim s f part c u d h hp _ _ _ := by
    have ha := h.toQueueSound.afterFrame f part
    have hw : (s.afterFrame f part).member.state.working = true := by
      rw [afterFrame_member]; exact MemberState.working_of_online hp.1
    have hst := afterFrame_starts h.starts f part
    generalize s.afterFrame f part = a at *
    obtain ⟨t, n, hwork, -⟩ := applyClaim_frame f.source.toNat (Class.ofBits f.cls) c u d part.isSome a
    exact .of_working (queueSound_effects.applyClaim _ _ c u d _ ha) (by rw [hwork.member]; exact hw)
      (hst.of_eq hwork.phase (by rw [hwork.member]; rfl))
  release s f part c h hp _ _ _ _ := by
    have ha := h.toQueueSound.afterFrame f part
    have hw : (s.afterFrame f part).member.state.working = true := by
      rw [afterFrame_member]; exact MemberState.working_of_online hp.1
    have hst := afterFrame_starts h.starts f part
    generalize s.afterFrame f part = a at *
    have hr := queueSound_effects.applyRelease f.source.toNat c part.isSome ha
    rcases applyRelease_work f.source.toNat c part.isSome a with hwork | hwork
    · exact .of_working hr (by rw [hwork.member]; exact hw) (hst.of_eq hwork.phase (by rw [hwork.member]))
    · exact .of_working hr (by rw [hwork.member]; exact hw) (hst.of_eq hwork.phase (by rw [hwork.member]; rfl))
  renew s source payload own h ho _ _ := by
    rw [applyRenew_eq]
    have ht : (s.setTable (s.renewedTable source payload)).QueueInv := { h with }
    exact ht.moves (MemberState.working_of_online ho) (judge_moves _)
  query s target flags own h _ := by
    unfold State.applyQuery
    split
    · exact { h with }
    · exact h
  beaconTimer _ _ h _ := { h with }
  beaconOffer _ h _ := { h with }
  muteCounts _ _ h _ := { h with }
  muteEnds s h hm :=
    { h with
      synced := State.claimsInSynced_of_none (h.synced.none (by rw [hm]; nofun)), rests := .of_ne nofun
      starts := h.starts.of_phase (by rw [hm]; nofun) rfl }
  counted s h hw := by
    have hc : State.QueueCore { s with channels := s.channels.map Channel.counted } :=
      h.channels rfl (fun _ => rfl) fun k => by
        rw [State.channelState_counted]
        obtain ⟨h1, -, -, -, h5⟩ := (s.channel k).counted_state
        exact ⟨h1, fun he => h5.trans he⟩
    exact .of_working ⟨hc, h.synced⟩ hw h.starts
  pin _ _ _ h := { h with }
  input _ _ _ h _ := { h with }
  raises s c h _ := by
    rw [raiseCommand_frame]
    exact { h with }
  blink _ _ h _ _ := { h with }
  phases _ _ h _ := { h with }
  divides _ _ _ h _ _ := { h with }

/-! ## Steps -/

theorem Keeps.runAction {P : State → Prop} (K : Keeps P) {s : State} (hs : P s) (hw : s.member.state.working = true)
    (a : ScheduleAction) : P (s.runAction a) := by
  have both : P (s.runAction a) ∧ (s.runAction a).member.state.working = true :=
    runAction_keeps (P := fun t => P t ∧ t.member.state.working = true)
      (fun t u hm h => ⟨K.moves hm h.1 h.2, by rw [hm.work.member]; exact h.2⟩)
      (fun t m h => ⟨K.masks t m h.1 h.2, by rw [changeMasks_member]; exact h.2⟩) s a ⟨hs, hw⟩
  exact both.1

/-- A predicate that every operation keeps, and that does not speak of the calendar, the last-evaluated minute, the
missed-minute count or TIME-INVALID, is kept by every step if a reset's onset keeps it. -/
theorem Keeps.step_untimed {P : State → Prop} (K : Keeps P) (hmissed : ∀ s n, P s → P (s.countMissed n))
    (hlast : ∀ (s : State) m, P s → P { s with lastMinute := some m }) (hcalendar : ∀ s c, P s → P (s.setCalendar c))
    (hfirst : ∀ s, P s → P (s.setFaults { s.report.faults with timeInvalid := false }))
    (honset : ∀ s k t, P s → execResetOnset k s = .next t → P t) {s t : State} (hs : P s)
    (h : Machine.step s = .next t) : P t := by
  have hrun (s : State) (a : ScheduleAction) (h : P s ∧ s.member.state.working = true) :
      P (s.runAction a) ∧ (s.runAction a).member.state.working = true :=
    ⟨K.runAction h.1 h.2 a, by rw [(runAction_work s a).member]; exact h.2⟩
  refine K.step (fun s v restart hs ho => ?_) (fun s hs _ => ?_) honset hs h
  · exact (adjustTime_keeps (P := fun t => P t ∧ t.member.state.working = true) hrun (fun t n h => ⟨hmissed t n h.1, h.2⟩)
      (fun t m h => ⟨hlast t m h.1, h.2⟩) (fun t c h => ⟨hcalendar t c h.1, h.2⟩) (fun t h => ⟨hfirst t h.1, h.2⟩) v restart
      ⟨hs, MemberState.working_of_online ho⟩).1
  · by_cases hw : s.member.state.working = true
    · exact (fractionStep_keeps (P := fun t => P t ∧ t.member.state.working = true) hrun
        (fun t n h => ⟨hmissed t n h.1, h.2⟩) (fun t m h => ⟨hlast t m h.1, h.2⟩) (fun t c h => ⟨hcalendar t c h.1, h.2⟩)
        ⟨hs, hw⟩).1
    · unfold State.fractionStep
      dsimp only
      rw [if_neg fun hc => hw (by simp only [Bool.and_eq_true] at hc; exact hc.2)]
      exact hcalendar s _ hs

/-- A reset takes every channel OFF (R187). -/
theorem channelState_of_resetOnset {s t : State} {k : ResetKind} (h : execResetOnset k s = .next t) (n : ChannelIx) :
    t.channelState n = .off := by
  cases h
  simp [State.channelState, State.channel, State.reset]

/-- Settles O7: every operation of a step keeps the queue invariant. -/
theorem stepKeepsTheClaimQueueSound : Obligations.StepKeepsTheClaimQueueSound := by
  intro s t hs h
  rw [queueInv_iff] at *
  refine queueInv_keeps.step_untimed (fun _ _ h => { h with }) (fun _ _ h => { h with }) (fun _ _ h => { h with })
    (fun _ h => { h with }) (fun s k t _ h => ?_) hs h
  have off := channelState_of_resetOnset h
  cases h
  exact
    { unit := ⟨.nil, .nil, .nil, nofun, Nat.zero_le _⟩
      waits := nofun
      claims := fun n => iff_of_false (by rw [off n]; nofun) nofun
      budgeted := nofun
      synced := State.claimsInSynced_of_none rfl
      rests := fun _ => off
      starts := fun _ => rfl }

end Sys2Proof.Machine
end

section
/-! PROOFS. Every step keeps the offer set, the command queue and the exempt channels as the membership state allows
(O8). -/

namespace Sys2Proof.Machine

/-! ## Exempt channels, the CLAIMING channel and the command offer -/

/-- An exempt channel uses OFF and ON alone, a channel is CLAIMING exactly while it is claimed, and the command offer stands
exactly while the command queue is not empty. -/
structure State.OfferCore (s : State) : Prop where
  exempt : ∀ n, s.exempt n = true → s.channelState n = .off ∨ (s.channelState n).isOn = true
  claims : s.claimsOne
  command : s.line.offers.command = !s.commands.queue.isEmpty

namespace State.OfferCore

/-- An exempt channel is not in a state that budgeted channels alone use. -/
theorem budgeted {s : State} (h : s.OfferCore) {n : ChannelIx} (hoff : s.channelState n ≠ .off)
    (hon : (s.channelState n).isOn = false) : s.exempt n = false := by
  by_contra he
  rcases h.exempt n (by simpa using he) with hc | hc
  · exact hoff hc
  · rw [hon] at hc; cases hc

/-- A change that moves a budgeted channel, or a channel to OFF or ON. -/
theorem of_turn {s t : State} (h : s.OfferCore) (ht : ClaimTurn s t) (he : ∀ k, t.exempt k = s.exempt k)
    (hk : ∀ k, s.exempt k = true →
      t.channelState k = s.channelState k ∨ t.channelState k = .off ∨ (t.channelState k).isOn = true)
    (hc : t.line.offers.command = s.line.offers.command) (hq : t.commands = s.commands) : t.OfferCore where
  exempt k hx := by
    rw [he k] at hx
    rcases hk k hx with hs | hs
    · rw [hs]; exact h.exempt k hx
    · exact hs
  claims := ht.claimsOne h.claims
  command := by rw [hc, hq]; exact h.command

end State.OfferCore

theorem channelState_serveEntry (s : State) (e : Entry) (k : ChannelIx) :
    (s.serveEntry e).channelState k = s.channelState k ∨ ((s.serveEntry e).channelState k).isOn = true := by
  unfold State.serveEntry
  split
  · unfold State.switchOn
    rw [State.channelState_setChannelState]
    split
    · exact .inr rfl
    · exact .inl rfl
  · exact .inl rfl

/-- A state of one channel is written that an exempt channel uses, or the channel is budgeted. -/
theorem setChannelState_exempt {s : State} {n : ChannelIx} {c : ChannelState}
    (hc : s.exempt n = false ∨ c = .off ∨ c.isOn = true) (k : ChannelIx) (hk : s.exempt k = true) :
    (s.setChannelState n c).channelState k = s.channelState k ∨ (s.setChannelState n c).channelState k = .off ∨
      ((s.setChannelState n c).channelState k).isOn = true := by
  rw [State.channelState_setChannelState]
  split
  · rename_i hn
    subst hn
    exact .inr (hc.resolve_left (by rw [hk]; nofun))
  · exact .inl rfl

theorem Move.offerCore {s t : State} (hm : Move s t) (h : s.OfferCore) : t.OfferCore := by
  have ht := hm.claimTurn
  have he := hm.work.exempt
  have hq := hm.work.commands
  have one {u : State} (n : ChannelIx) (c : ChannelState) (hu : ∀ k, u.channelState k = (s.setChannelState n c).channelState k)
      (hc : s.exempt n = false ∨ c = .off ∨ c.isOn = true) (k : ChannelIx) (hk : s.exempt k = true) :
      u.channelState k = s.channelState k ∨ u.channelState k = .off ∨ (u.channelState k).isOn = true := by
    rw [hu k]; exact setChannelState_exempt hc k hk
  cases hm with
  | enqueue n d _ => exact h.of_turn ht he (fun _ _ => .inl rfl) rfl hq
  | forget n => exact h.of_turn ht he (fun _ _ => .inl rfl) rfl hq
  | holdClear => exact h.of_turn ht he (fun _ _ => .inl rfl) rfl hq
  | serve e =>
    refine h.of_turn ht he (fun k _ => ?_) ?_ hq
    · exact (channelState_serveEntry s e k).imp_right .inr
    · unfold State.serveEntry; split <;> rfl
  | takeUp e _ hx _ _ =>
    refine h.of_turn ht he (one e.channel .claiming (fun _ => rfl) (.inl ?_)) rfl hq
    simp only [State.qualifies, Bool.and_eq_true, Bool.not_eq_true'] at hx
    exact hx.1.1
  | dropClaim o c _ _ => exact h.of_turn ht he (one c.channel .off (fun _ => rfl) (.inr (.inl rfl))) rfl hq
  | returnClaim o c hold _ _ _ => exact h.of_turn ht he (one c.channel .off (fun _ => rfl) (.inr (.inl rfl))) rfl hq
  | amend o c _ _ _ _ => exact h.of_turn ht he (fun _ _ => .inl rfl) rfl hq
  | extendPending n d e hp =>
    exact h.of_turn ht he (one n _ (fun _ => rfl) (.inl (h.budgeted (by rw [hp]; nofun) (by rw [hp]; rfl)))) rfl hq
  | extendOn n d e _ => exact h.of_turn ht he (one n _ (fun _ => rfl) (.inr (.inr rfl))) rfl hq
  | stopPending n d hp =>
    exact h.of_turn ht he (one n .stopping (fun _ => rfl) (.inl (h.budgeted (by rw [hp]; nofun) (by rw [hp]; rfl)))) rfl hq
  | stopBudgeted n hb _ => exact h.of_turn ht he (one n .stopping (fun _ => rfl) (.inl hb)) rfl hq
  | goOff n _ => exact h.of_turn ht he (one n .off (fun _ => rfl) (.inr (.inl rfl))) rfl hq
  | endStopping n _ => exact h.of_turn ht he (one n .off (fun _ => rfl) (.inr (.inl rfl))) rfl hq
  | rest n r => exact h.of_turn ht he (fun k _ => .inl (State.channelState_setRest s n k r)) rfl hq
  | renew b _ => exact h.of_turn ht he (fun _ _ => .inl rfl) rfl hq

/-- The outstanding claim's channel is budgeted. -/
theorem State.OfferCore.claim_budgeted {s : State} (h : s.OfferCore) {o : OutstandingClaim}
    (ho : s.claims.outstanding = some o) : s.exempt o.channel = false := by
  have hc := (h.claims o.channel).2 (State.claimed_eq_some.2 ⟨o, ho, rfl⟩)
  exact h.budgeted (by rw [hc]; nofun) (by rw [hc]; rfl)

theorem settleAdmitted_channelState {s : State} {o : OutstandingClaim} (b : Bool) (k : ChannelIx) (hk : k ≠ o.channel) :
    (s.settleAdmitted o b).channelState k = s.channelState k := by
  unfold State.settleAdmitted
  dsimp only
  split
  · rw [State.channelState_enterStopping, if_neg hk]; rfl
  · split
    · rw [requeue_channelState, State.channelState_enterStopping, if_neg hk]; rfl
    · split <;> exact State.channelState_setChannelState_ne _ _ _ _ hk

theorem settleAdmitted_command (s : State) (o : OutstandingClaim) (b : Bool) :
    (s.settleAdmitted o b).line.offers.command = s.line.offers.command := by
  unfold State.settleAdmitted State.requeue
  dsimp only
  repeat' split
  all_goals rfl

theorem offerCore_effects : Effects State.OfferCore where
  move _ _ hm h := hm.offerCore h
  table _ _ h := { h with }
  member _ _ h _ := { h with }
  changeMasks s m h := Moves.keeps (fun _ _ => Move.offerCore) (changeMasks_moves s m) { h with }
  diverge _ h ho := confirmDivergence_keeps (P := State.OfferCore) (fun _ _ => Move.offerCore)
    (fun _ _ h => { h with }) (fun _ _ h => { h with }) (fun _ _ h => { h with }) ho h
  beaconOffer _ h := { h with }
  faults _ _ h := { h with }
  voided _ h := { h with }
  promote s n d h hp :=
    h.of_turn (setChannelState_claimTurn (by rw [hp]; nofun) nofun) (fun _ => rfl)
      (setChannelState_exempt (.inr (.inr rfl))) rfl rfl
  settle s o b h ho := by
    refine h.of_turn (settleAdmitted_claimTurn b ho) (settleAdmitted_work s o b).exempt (fun k hk => .inl ?_)
      (settleAdmitted_command s o b) (settleAdmitted_work s o b).commands
    refine settleAdmitted_channelState b k ?_
    rintro rfl
    rw [h.claim_budgeted ho] at hk
    cases hk

/-! ## MUTE (R74) -/

/-- The station in MUTE: no offer, no command, and every budgeted channel OFF. -/
structure State.OfferMute (s : State) : Prop where
  exempt : ∀ n, s.exempt n = true → s.channelState n = .off ∨ (s.channelState n).isOn = true
  claims : s.claimsOne
  offers : s.line.offers = OfferSet.empty
  apart : s.line.activity = .apart
  queue : s.commands.queue = []
  off : ∀ n, s.exempt n = false → s.channelState n = .off
  mute : s.member.state = .mute

theorem State.OfferMute.core {s : State} (h : s.OfferMute) : s.OfferCore :=
  ⟨h.exempt, h.claims, by rw [h.offers, h.queue]; rfl⟩

/-- In MUTE a channel is OFF, or exempt and ON. -/
theorem State.OfferMute.off_or_on {s : State} (h : s.OfferMute) (n : ChannelIx) :
    s.channelState n = .off ∨ (s.channelState n).isOn = true := by
  cases he : s.exempt n with
  | false => exact .inl (h.off n he)
  | true => exact h.exempt n he

theorem State.OfferMute.not_claimed {s : State} (h : s.OfferMute) : s.claims.outstanding = none := by
  rw [← State.claimed_eq_none]
  cases hc : s.claimed with
  | none => rfl
  | some n =>
    have := (h.claims n).2 hc
    rcases h.off_or_on n with ho | ho <;> rw [this] at ho <;> cases ho

theorem Move.offerMute {s t : State} (hm : Move s t) (h : s.OfferMute) : t.OfferMute := by
  have hc := hm.offerCore h.core
  have hw := hm.work
  have make (ho : t.line.offers = OfferSet.empty)
      (hoff : ∀ k, s.exempt k = false → t.channelState k = .off) : t.OfferMute :=
    ⟨hc.exempt, hc.claims, ho, by rw [hw.activity]; exact h.apart, by rw [hw.commands]; exact h.queue,
      fun k hk => hoff k (by rw [hw.exempt k] at hk; exact hk), by rw [hw.member]; exact h.mute⟩
  have hne {P : Prop} {n : ChannelIx} {c : ChannelState} (hs : s.channelState n = c) (hoff : c ≠ .off)
      (hon : c.isOn = false) : P := by
    rcases h.off_or_on n with hx | hx <;> rw [hs] at hx
    · exact absurd hx hoff
    · rw [hon] at hx; cases hx
  cases hm with
  | enqueue n d _ => exact make h.offers h.off
  | forget n => exact make h.offers h.off
  | holdClear => exact make h.offers h.off
  | serve e he =>
    refine make ?_ fun k hk => ?_
    · rw [← h.offers]; unfold State.serveEntry; split <;> rfl
    · unfold State.serveEntry
      split
      · unfold State.switchOn
        rw [State.channelState_setChannelState, if_neg (by rintro rfl; rw [he] at hk; cases hk)]
        exact h.off k hk
      · exact h.off k hk
  | takeUp e _ _ hs _ => rw [h.mute] at hs; cases hs
  | dropClaim o c ho _ => rw [h.not_claimed] at ho; cases ho
  | returnClaim o c hold ho _ _ => rw [h.not_claimed] at ho; cases ho
  | amend o c ho _ _ _ => rw [h.not_claimed] at ho; cases ho
  | extendPending n d e hp => exact hne hp nofun rfl
  | extendOn n d e hp =>
    refine make h.offers fun k hk => ?_
    rw [State.channelState_setChannelState]
    split
    · rename_i hkn
      subst hkn
      rw [h.off k hk] at hp
      cases hp
    · exact h.off k hk
  | stopPending n d hp => exact hne hp nofun rfl
  | stopBudgeted n hb hp =>
    rcases hp with hp | ⟨-, hp⟩
    · rw [h.off n hb] at hp; cases hp
    · rw [h.mute] at hp; cases hp
  | goOff n _ =>
    refine make h.offers fun k hk => ?_
    rw [State.channelState_setChannelState]
    split
    · rfl
    · exact h.off k hk
  | endStopping n hp => exact hne hp nofun rfl
  | rest n r => exact make h.offers fun k hk => by rw [State.channelState_setRest]; exact h.off k hk
  | renew b hb =>
    cases b with
    | false => exact make (by change { s.line.offers with renew := false } = _; rw [h.offers]; rfl) h.off
    | true =>
      have := hb rfl
      rw [h.mute] at this
      cases this

/-- A channel at MUTE entry: a budgeted one is OFF afterwards, and the others stand (R74). -/
theorem channelState_muteChannel {s : State} (h : s.claimsOne) (n k : ChannelIx) :
    (s.muteChannel n).channelState k = if k = n ∧ s.exempt n = false then .off else s.channelState k := by
  unfold State.muteChannel
  split
  · rename_i he
    rw [if_neg (by rintro ⟨-, hx⟩; rw [he] at hx; cases hx)]
  · rename_i he
    have hif (c : ChannelState) :
        (if k = n then c else s.channelState k) = if k = n ∧ s.exempt n = false then c else s.channelState k := by
      simp [Bool.not_eq_true _ ▸ he]
    rw [← hif]
    split
    · rw [requeue_channelState, State.channelState_beginRest, State.channelState_setChannelState]
    · rw [requeue_channelState, State.channelState_setChannelState]
    · rw [State.channelState_setChannelState]
    · rename_i hn
      split
      · rename_i hk
        rw [hk, hn]
      · rfl
    · rename_i hn
      obtain ⟨o, ho, rfl⟩ := State.claimed_eq_some.1 ((h n).1 hn)
      rw [ho]
      dsimp only
      rw [if_pos rfl]
      exact State.channelState_setChannelState _ _ _ _

theorem muteChannel_claimsOne {s : State} (h : s.claimsOne) (n : ChannelIx) : (s.muteChannel n).claimsOne := by
  rcases muteChannel_cases s n with hm | ⟨hn, he⟩
  · exact Moves.keeps (fun _ _ hm => hm.claimTurn.claimsOne) hm h
  · rw [he]
    exact (setChannelState_claimTurn (c := .off) (by rw [hn]; nofun) nofun).claimsOne h

/-- The channels at MUTE entry: every budgeted one is OFF afterwards, and the exempt ones stand (R74). -/
theorem channelState_foldl_muteChannel {s : State} (h : s.claimsOne) (l : List ChannelIx) (k : ChannelIx) :
    (l.foldl State.muteChannel s).channelState k =
      if k ∈ l ∧ s.exempt k = false then .off else s.channelState k := by
  induction l generalizing s with
  | nil => simp
  | cons n l ih =>
    rw [List.foldl_cons, ih (muteChannel_claimsOne h n), channelState_muteChannel h, (muteChannel_work s n).exempt]
    by_cases hk : k = n
    · subst hk
      cases s.exempt k <;> simp
    · simp [hk]

theorem channelState_muteChannels {s : State} (h : s.claimsOne) (f : FaultSet) (k : ChannelIx) :
    (s.muteChannels f).channelState k = if s.exempt k = false then .off else s.channelState k := by
  have hall := mem_allEight k
  have hd : (s.muteDropped f).claimsOne := h
  have hx : (s.muteDropped f).exempt k = s.exempt k := rfl
  have hk : (s.muteDropped f).channelState k = s.channelState k := rfl
  unfold State.muteChannels
  generalize allEight = l at *
  generalize s.muteDropped f = t at *
  rw [channelState_foldl_muteChannel hd, hx, hk]
  simp [hall]

theorem muteChannels_claimsOne {s : State} (h : s.claimsOne) (f : FaultSet) : (s.muteChannels f).claimsOne :=
  muteChannels_keeps (P := State.claimsOne) (fun _ _ hm => hm.claimTurn.claimsOne)
    (fun _ _ h hn => (setChannelState_claimTurn (c := .off) (by rw [hn]; nofun) nofun).claimsOne h) h

theorem clearTable_offers_empty {s : State} (h : s.line.offers = OfferSet.empty) :
    s.clearTable.line.offers = OfferSet.empty := by
  unfold State.clearTable State.dropIdleRenew
  split
  · change { s.line.offers with renew := false } = _
    rw [h]; rfl
  · exact h

theorem clearTable_channels (s : State) : s.clearTable.channels = s.channels := by
  unfold State.clearTable State.dropIdleRenew
  split <;> rfl

theorem clearTable_claimed (s : State) : s.clearTable.claimed = s.claimed := by
  unfold State.claimed
  rw [clearTable_claims]

/-- MUTE entry empties the offers and takes every budgeted channel OFF (R74). -/
theorem State.OfferCore.enterMute {s : State} (h : s.OfferCore) (f : FaultSet) : (s.enterMute f).OfferMute := by
  rw [enterMute_eq]
  refine Moves.keeps (fun _ _ => Move.offerMute) (judge_moves _) ?_
  have hw := muteEntered_work s f
  have hone := muteChannels_claimsOne h.claims f
  have hoff := channelState_muteChannels h.claims f
  have hcl : (s.muteEntered f).claimsOne ∧ (∀ k, (s.muteEntered f).channelState k = (s.muteChannels f).channelState k) ∧
      (s.muteEntered f).line.offers = OfferSet.empty := by
    unfold State.muteEntered State.muteOff
    generalize s.muteChannels f = t at *
    have h1 := clearTable_claimed (t.setLine { t.line.left with vetoStreak := 0, sendStreak := 0, courtesyGap := false })
    have h2 := clearTable_channels (t.setLine { t.line.left with vetoStreak := 0, sendStreak := 0, courtesyGap := false })
    have h3 := clearTable_offers_empty (s := t.setLine { t.line.left with vetoStreak := 0, sendStreak := 0, courtesyGap := false }) rfl
    generalize (t.setLine { t.line.left with vetoStreak := 0, sendStreak := 0, courtesyGap := false }).clearTable = u at *
    have h4 (k : ChannelIx) : u.channelState k = t.channelState k := by
      unfold State.channelState State.channel
      rw [h2]
      rfl
    refine ⟨fun k => ?_, h4, h3⟩
    change u.channelState k = _ ↔ u.claimed = _
    rw [h4 k, h1]
    exact hone k
  obtain ⟨h1, h2, h3⟩ := hcl
  have hx (k : ChannelIx) : (s.muteEntered f).exempt k = s.exempt k := hw.exempt k
  refine ⟨fun k hk => ?_, h1, h3, hw.activity, by rw [hw.commands]; rfl, fun k hk => ?_, by rw [hw.member]; rfl⟩
  · rw [hx k] at hk
    rw [h2, hoff, if_neg (by rw [hk]; nofun)]
    exact h.exempt k hk
  · rw [hx k] at hk
    rw [h2, hoff, if_pos hk]

/-! ## The offer invariant -/

/-- The offer invariant, part by part. -/
structure State.OfferInv (s : State) : Prop where
  apart : s.member.state.online = false → s.line.offers = OfferSet.empty ∧ s.line.activity = .apart
  command : s.member.state.online = true → s.line.offers.command = !s.commands.queue.isEmpty
  queue : s.member.state = .loading ∨ s.member.state = .mute → s.commands.queue = []
  off : s.member.state = .mute → ∀ n, s.exempt n = false → s.channelState n = .off
  exempt : ∀ n, s.exempt n = true → s.channelState n = .off ∨ (s.channelState n).isOn = true
  claims : s.claimsOne
  rests : s.restsInLoading
  starts : s.startsInLoading

theorem offerInv_iff (s : State) : s.offerInv ↔ s.OfferInv := by
  constructor
  · rintro ⟨h1, h2, h3, h4, h5, h6, h7, h8⟩
    exact ⟨h1, h2, h3, h4, h5, s.claimsOneChannel_iff.1 h6, h7, h8⟩
  · rintro ⟨h1, h2, h3, h4, h5, h6, h7, h8⟩
    exact ⟨h1, h2, h3, h4, h5, s.claimsOneChannel_iff.2 h6, h7, h8⟩

namespace State.OfferInv

theorem core {s : State} (h : s.OfferInv) (ho : s.member.state.online = true) : s.OfferCore :=
  ⟨h.exempt, h.claims, h.command ho⟩

/-- On the line. -/
theorem of_online {s : State} (h : s.OfferCore) (ho : s.member.state.online = true) (hs : s.startsInLoading) :
    s.OfferInv where
  apart hn := by rw [ho] at hn; cases hn
  command _ := h.command
  queue hm := by rcases hm with hm | hm <;> rw [hm] at ho <;> cases ho
  off hm := by rw [hm] at ho; cases ho
  exempt := h.exempt
  claims := h.claims
  rests := .of_ne (MemberState.ne_loading_of_online ho)
  starts := hs

/-- In MUTE. -/
theorem of_mute {s : State} (h : s.OfferMute) (hs : s.startsInLoading) : s.OfferInv where
  apart _ := ⟨h.offers, h.apart⟩
  command ho := by rw [h.mute] at ho; cases ho
  queue _ := h.queue
  off _ := h.off
  exempt := h.exempt
  claims := h.claims
  rests := .of_ne (by rw [h.mute]; nofun)
  starts := hs

theorem mute {s : State} (h : s.OfferInv) (hm : s.member.state = .mute) : s.OfferMute :=
  have ha := h.apart (by rw [hm]; rfl)
  ⟨h.exempt, h.claims, ha.1, ha.2, h.queue (.inr hm), h.off hm, hm⟩

theorem online_or_mute {m : MemberState} (hw : m.working = true) : m.online = true ∨ m = .mute := by
  cases m <;> simp [MemberState.online, MemberState.working] at *

theorem moves {s t : State} (h : s.OfferInv) (hw : s.member.state.working = true) (hm : Moves s t) : t.OfferInv := by
  have hs : t.startsInLoading := h.starts.of_eq hm.work.phase (by rw [hm.work.member])
  rcases online_or_mute hw with ho | hmu
  · exact of_online (offerCore_effects.moves hm (h.core ho)) (by rw [hm.work.member]; exact ho) hs
  · exact of_mute (Moves.keeps (fun _ _ => Move.offerMute) hm (h.mute hmu)) hs

theorem changeMasks {s : State} (h : s.OfferInv) (hw : s.member.state.working = true) (m : InhibitMasks) :
    (s.changeMasks m).OfferInv :=
  moves (s := s.setMasks m) { h with } hw (changeMasks_moves s m)

end State.OfferInv

theorem popCommand_offerCore {s : State} (h : s.OfferCore) : s.popCommand.OfferCore := { h with command := rfl }

/-- The source of a failed attempt keeps the command offer with the queue (R141, R184). -/
theorem State.OfferCore.sourceFailed {s : State} (h : s.OfferCore) (o : Offer) : (s.sourceFailed o).OfferCore := by
  cases o with
  | claim =>
    unfold State.sourceFailed
    dsimp only
    split
    · rename_i c hc
      exact offerCore_effects.moves
        (settleEndedAttempt_moves _ hc rfl rfl fun hu _ => Nat.not_le.1 (of_decide_eq_false hu)) h
    · exact h
  | command =>
    unfold State.sourceFailed
    dsimp only
    split
    · exact { popCommand_offerCore h with }
    · exact { h with }
  | report => unfold State.sourceFailed; dsimp only; split <;> exact { h with }
  | beacon => exact h
  | release n => exact h
  | renew => exact h

theorem State.OfferCore.endOwnAttempt {s : State} (h : s.OfferCore) (o : Offer) : (s.endOwnAttempt o).OfferCore := by
  have hl : (s.setLine { s.line with sendStreak := 0, courtesyGap := true }).OfferCore := { h with }
  unfold State.endOwnAttempt
  dsimp only
  generalize s.setLine { s.line with sendStreak := 0, courtesyGap := true } = t at *
  cases o with
  | release n =>
    dsimp only
    split
    · rename_i hn
      exact hl.of_turn ((setChannelState_claimTurn (n := n) (c := .off) (by rw [hn]; nofun) nofun).setOffers _)
        (fun _ => rfl) (setChannelState_exempt (c := .off) (.inr (.inl rfl))) rfl rfl
    · exact { hl with }
  | claim => exact { offerCore_effects.moves (setInFlight_moves t false) hl with }
  | command => exact popCommand_offerCore hl
  | _ => exact { hl with }

theorem State.OfferCore.afterFrame {s : State} (h : s.OfferCore) (f : Frame) (part : Option Offer) :
    (s.afterFrame f part).OfferCore := by
  have hc : ((s.lineAccepted f).countJudgements f).OfferCore := by
    rw [(countJudgements_frame (s.lineAccepted f) f).1]
    exact { h with }
  unfold State.afterFrame
  cases part with
  | none => exact hc
  | some o => exact hc.endOwnAttempt o

/-- The offer invariant is kept by every operation of a step. -/
theorem offerInv_keeps : Keeps State.OfferInv where
  pending _ _ h := { h with }
  releases _ _ h _ := { h with }
  starts s _ h hp := { h with starts := fun _ => h.starts (by rw [hp]; nofun) }
  waits _ _ h _ _ := { h with }
  waitEnds s h hp := by
    have hl := h.starts (by rw [hp]; nofun)
    exact { h with
      apart := fun _ => h.apart (by rw [hl]; rfl), command := nofun, queue := fun _ => h.queue (.inl hl), off := nofun
      rests := fun _ => h.rests hl, starts := fun hn => absurd rfl hn }
  loads _ _ h _ _ := { h with }
  readEnds s image h hl := by
    obtain ⟨hp, hm⟩ := State.isLoading_state hl
    have hoff := h.rests hm
    have ha := h.apart (by rw [hm]; rfl)
    have hq := h.queue (.inl hm)
    have starts {t : State} (hpt : t.phase = s.phase) : t.startsInLoading := fun hn => absurd (hpt.trans hp) hn
    rcases endRead_cases s image with ⟨failure, -, he⟩ | ⟨outcome, he⟩ | ⟨c, hc, he⟩ <;> rw [he]
    · exact { h with }
    · exact { h with
        apart := fun _ => ⟨rfl, rfl⟩, command := nofun, queue := nofun, off := nofun, rests := .of_ne nofun
        starts := starts rfl }
    · refine .of_online ⟨fun n _ => .inl (hoff n), h.claims, ?_⟩ rfl (starts rfl)
      change s.line.offers.command = !s.commands.queue.isEmpty
      rw [ha.1, hq]
      rfl
  quiet s a n b g h ho _ := .of_online { h.core ho with } ho h.starts
  records _ h _ := { h with }
  begins s o h ho _ := by
    have hr : s.recordSof.OfferInv := { h with }
    have hm : (if o = .claim then s.recordSof.setInFlight true else s.recordSof).OfferInv := by
      split
      · exact hr.moves (MemberState.working_of_online ho) (setInFlight_moves _ true)
      · exact hr
    have hon : (if o = .claim then s.recordSof.setInFlight true else s.recordSof).member.state.online = true := by
      split <;> exact ho
    exact .of_online { hm.core hon with } hon hm.starts
  counts _ _ h _ := { h with }
  fails s o f a b h ho _ _ := by
    have hb : (s.attemptFailed a b).OfferCore := { h.core ho with }
    have hf := hb.sourceFailed o
    have hmem : ((s.attemptFailed a b).sourceFailed o).member = s.member := by rw [sourceFailed_frame]; rfl
    have hst : ((s.attemptFailed a b).sourceFailed o).startsInLoading :=
      h.starts.of_eq (by rw [sourceFailed_frame]; rfl) (by rw [hmem])
    rcases failAttempt_cases s o a b with ⟨-, he⟩ | ⟨-, he⟩ <;> rw [he]
    · exact .of_online hf (by rw [hmem]; exact ho) hst
    · exact .of_mute (hf.enterMute _) (enterMute_starts hst (by rw [hmem]; exact ho) _)
  vetoes s b h ho := by
    have hb : (s.vetoCast b).OfferCore := { h.core ho with }
    rcases castVeto_cases s b with ⟨-, he⟩ | ⟨-, he⟩ <;> rw [he]
    · exact .of_online hb ho h.starts
    · exact .of_mute (hb.enterMute _) (enterMute_starts (s := s.vetoCast b) h.starts ho _)
  accepts s f part h hp :=
    .of_online ((h.core hp.1).afterFrame f part) (by rw [afterFrame_member]; exact hp.1) (afterFrame_starts h.starts f part)
  halts s f h ho hnone _ :=
    { h with
      apart := fun _ => ⟨rfl, rfl⟩, command := nofun, queue := nofun, off := nofun, rests := .of_ne nofun
      starts := h.starts.of_online ho rfl }
  move s t h hw hm := h.moves hw hm.moves
  masks s m h hw := h.changeMasks hw m
  beacon s b sender own h ho ha :=
    .of_online (offerCore_effects.beaconSettled b sender own (by simp [State.drivesLine, ha]) ho (h.core ho))
      (beaconSettled_online b sender own ho) (h.starts.of_online ho (beaconSettled_table s b sender own).2.1)
  claim s f part c u d h hp _ _ _ := by
    have ha := (h.core hp.1).afterFrame f part
    have ho : (s.afterFrame f part).member.state.online = true := by rw [afterFrame_member]; exact hp.1
    have hst := afterFrame_starts h.starts f part
    generalize s.afterFrame f part = a at *
    obtain ⟨t, n, hwork, -⟩ := applyClaim_frame f.source.toNat (Class.ofBits f.cls) c u d part.isSome a
    exact .of_online (offerCore_effects.applyClaim _ _ c u d _ ha) (by rw [hwork.member]; exact ho)
      (hst.of_eq hwork.phase (by rw [hwork.member]; rfl))
  release s f part c h hp _ _ _ _ := by
    have ha := (h.core hp.1).afterFrame f part
    have ho : (s.afterFrame f part).member.state.online = true := by rw [afterFrame_member]; exact hp.1
    have hst := afterFrame_starts h.starts f part
    generalize s.afterFrame f part = a at *
    have hr := offerCore_effects.applyRelease f.source.toNat c part.isSome ha
    rcases applyRelease_work f.source.toNat c part.isSome a with hwork | hwork
    · exact .of_online hr (by rw [hwork.member]; exact ho) (hst.of_eq hwork.phase (by rw [hwork.member]))
    · exact .of_online hr (by rw [hwork.member]; exact ho) (hst.of_eq hwork.phase (by rw [hwork.member]; rfl))
  renew s source payload own h ho _ _ := by
    rw [applyRenew_eq]
    exact State.OfferInv.moves (s := s.setTable (s.renewedTable source payload)) { h with }
      (MemberState.working_of_online ho) (judge_moves _)
  query s target flags own h ho := by
    unfold State.applyQuery
    split
    · exact .of_online { h.core ho with } ho h.starts
    · exact h
  beaconTimer _ _ h _ := { h with }
  beaconOffer s h ho := .of_online { h.core ho with } ho h.starts
  muteCounts _ _ h _ := { h with }
  muteEnds s h hm := by
    have hmu := h.mute hm
    exact .of_online { hmu.core with } rfl (h.starts.of_phase (by rw [hm]; nofun) rfl)
  counted s h hw := by
    have hk (k : ChannelIx) := (s.channel k).counted_state
    refine { h with off := fun hm k hx => ?_, exempt := fun k hx => ?_, claims := fun k => ?_, rests := .of_working hw }
    · rw [State.channelState_counted]
      exact (hk k).2.1.2 (h.off hm k hx)
    · rw [State.channelState_counted, (hk k).2.1, (hk k).2.2.2.1]
      exact h.exempt k hx
    · rw [State.channelState_counted, (hk k).1]
      exact h.claims k
  pin _ _ _ h := { h with }
  input _ _ _ h _ := { h with }
  raises s c h hw := by
    unfold State.raiseCommand
    split
    · exact { h with }
    · split
      · rename_i ho
        split
        · exact .of_online { h.core ho with command := by simp [State.setOffers, State.setCommands, State.setLine] } ho h.starts
        · exact { h with }
      · exact h
  blink _ _ h _ _ := { h with }
  phases _ _ h _ := { h with }
  divides _ _ _ h _ _ := { h with }

/-- Settles O8: every operation of a step keeps the offer invariant. -/
theorem stepKeepsOffersSound : Obligations.StepKeepsOffersSound := by
  intro s t hs h
  rw [offerInv_iff] at *
  refine offerInv_keeps.step_untimed (fun _ _ h => { h with }) (fun _ _ h => { h with }) (fun _ _ h => { h with })
    (fun _ h => { h with }) (fun s k t _ h => ?_) hs h
  have off := channelState_of_resetOnset h
  cases h
  exact
    { apart := fun _ => ⟨rfl, rfl⟩
      command := nofun
      queue := fun _ => rfl
      off := nofun
      exempt := fun n _ => .inl (off n)
      claims := fun n => iff_of_false (by rw [off n]; nofun) nofun
      rests := fun _ => off
      starts := fun _ => rfl }

end Sys2Proof.Machine
end

section
/-! PROOFS. No step leaves an inhibited channel PENDING or ON (O6). -/

namespace Sys2Proof.Machine

/-- A channel state that is neither PENDING nor ON. -/
def ChannelState.quiet (c : ChannelState) : Prop := c = .off ∨ c = .claiming ∨ c = .stopping

theorem ChannelState.quiet_off : ChannelState.quiet .off := .inl rfl
theorem ChannelState.quiet_stopping : ChannelState.quiet .stopping := .inr (.inr rfl)

/-- An inhibited channel is OFF, CLAIMING or STOPPING. -/
def State.inhibitsSound (s : State) : Prop := ∀ n, s.inhibited n = true → (s.channelState n).quiet

namespace State.inhibitsSound

/-- A change that leaves each channel, or takes it to a quiet state, or is none of an inhibited channel. -/
theorem of_channels {s t : State} (h : s.inhibitsSound) (hi : ∀ n, t.inhibited n = s.inhibited n)
    (hk : ∀ k, s.inhibited k = true → t.channelState k = s.channelState k ∨ (t.channelState k).quiet) :
    t.inhibitsSound := fun k hx => by
  rw [hi k] at hx
  rcases hk k hx with hs | hs
  · rw [hs]; exact h k hx
  · exact hs

/-- One channel's state is written: a quiet one, or the channel is not inhibited. -/
theorem setChannelState {s : State} (h : s.inhibitsSound) {n : ChannelIx} {c : ChannelState}
    (hc : s.inhibited n = false ∨ c.quiet) : (s.setChannelState n c).inhibitsSound := by
  refine h.of_channels (fun _ => rfl) fun k hk => ?_
  rw [State.channelState_setChannelState]
  split
  · rename_i hn
    subst hn
    exact .inr (hc.resolve_left (by rw [hk]; nofun))
  · exact .inl rfl

/-- A PENDING or ON channel is not inhibited. -/
theorem not_inhibited {s : State} (h : s.inhibitsSound) {n : ChannelIx} (hn : ¬ (s.channelState n).quiet) :
    s.inhibited n = false := by
  by_contra hi
  exact hn (h n (by simpa using hi))

end State.inhibitsSound

theorem Move.inhibitsSound {s t : State} (hm : Move s t) (h : s.inhibitsSound) : t.inhibitsSound := by
  cases hm with
  | enqueue n d _ => exact h
  | forget n => exact h
  | holdClear => exact h
  | serve e _ hr _ =>
    unfold State.serveEntry
    split
    · refine State.inhibitsSound.setChannelState (s := s.setClaims _) h (.inl ?_)
      simp only [State.ready, Bool.and_eq_true, Bool.not_eq_true'] at hr
      exact hr.1.2
    · exact h
  | takeUp e _ _ _ _ => exact h.setChannelState (n := e.channel) (c := .claiming) (.inr (.inr (.inl rfl)))
  | dropClaim o c _ _ => exact h.setChannelState (n := c.channel) (.inr ChannelState.quiet_off)
  | returnClaim o c hold _ _ _ => exact h.setChannelState (n := c.channel) (.inr ChannelState.quiet_off)
  | amend o c _ _ _ _ => exact h
  | extendPending n d e hp => exact h.setChannelState (.inl (h.not_inhibited (by rw [hp]; rintro (h | h | h) <;> cases h)))
  | extendOn n d e hp => exact h.setChannelState (.inl (h.not_inhibited (by rw [hp]; rintro (h | h | h) <;> cases h)))
  | stopPending n d _ => exact h.setChannelState (n := n) (.inr ChannelState.quiet_stopping)
  | stopBudgeted n _ _ => exact h.setChannelState (n := n) (.inr ChannelState.quiet_stopping)
  | goOff n _ => exact h.setChannelState (.inr ChannelState.quiet_off)
  | endStopping n _ => exact h.setChannelState (n := n) (.inr ChannelState.quiet_off)
  | rest n r => exact h.of_channels (fun _ => rfl) fun k _ => .inl (State.channelState_setRest s n k r)
  | renew b _ => exact h

/-! ## The masks change (R94, R97) -/

/-- A channel that becomes inhibited leaves PENDING and ON, and no other channel moves (R97). -/
theorem becomeInhibited_channelState (s : State) (n k : ChannelIx) :
    (k ≠ n → (s.becomeInhibited n).channelState k = s.channelState k) ∧ ((s.becomeInhibited n).channelState n).quiet := by
  unfold State.becomeInhibited
  split
  · rename_i hn
    exact ⟨fun _ => rfl, by rw [hn]; exact ChannelState.quiet_off⟩
  · rename_i hn
    exact ⟨fun _ => rfl, by rw [hn]; exact ChannelState.quiet_stopping⟩
  · rw [requeue_channelState, requeue_channelState, State.channelState_enterStopping, State.channelState_enterStopping,
      if_pos rfl]
    exact ⟨fun hk => if_neg hk, ChannelState.quiet_stopping⟩
  · rw [requeue_channelState, requeue_channelState, State.channelState_switchOff, State.channelState_switchOff, if_pos rfl]
    refine ⟨fun hk => if_neg hk, ?_⟩
    split
    · exact ChannelState.quiet_off
    · exact ChannelState.quiet_stopping
  · rename_i hn
    have stands : (s.channelState n).quiet := by rw [hn]; exact .inr (.inl rfl)
    split
    · split
      · rename_i o _ ho
        obtain ⟨rfl, -⟩ := ho
        refine ⟨fun hk => State.channelState_setChannelState_ne _ _ _ _ hk, ?_⟩
        change ((State.setChannelState _ o.channel .off).channelState o.channel).quiet
        rw [State.channelState_setChannelState_self]
        exact ChannelState.quiet_off
      · exact ⟨fun _ => rfl, stands⟩
    · exact ⟨fun _ => rfl, stands⟩

/-- Once the channels of a list that become inhibited have been dealt with, those left to deal with are the rest. -/
theorem foldl_becomeInhibited_quiet {inhibited news : ChannelIx → Bool} (l : List ChannelIx) {s : State}
    (h : ∀ n, inhibited n = true → (s.channelState n).quiet ∨ (n ∈ l ∧ news n = true)) (n : ChannelIx)
    (hn : inhibited n = true) :
    ((l.foldl (fun t n => if news n then t.becomeInhibited n else t) s).channelState n).quiet := by
  induction l generalizing s with
  | nil => exact (h n hn).resolve_right (by simp)
  | cons a l ih =>
    refine ih fun k hk => ?_
    dsimp only
    by_cases ha : news a = true
    · rw [if_pos ha]
      by_cases hka : k = a
      · subst hka
        exact .inl (becomeInhibited_channelState s k k).2
      · rw [(becomeInhibited_channelState s a k).1 hka]
        exact (h k hk).imp_right fun hm => ⟨(List.mem_cons.1 hm.1).resolve_left hka, hm.2⟩
    · rw [if_neg ha]
      refine (h k hk).imp_right fun hm => ⟨(List.mem_cons.1 hm.1).resolve_left ?_, hm.2⟩
      rintro rfl
      exact ha hm.2

/-- A change of the masks takes every channel that becomes inhibited out of PENDING and ON (R94, R97). -/
theorem State.inhibitsSound.changeMasks {s : State} (h : s.inhibitsSound) (m : InhibitMasks) :
    (s.changeMasks m).inhibitsSound := by
  refine Moves.keeps (fun _ _ => Move.inhibitsSound) (judge_moves _) fun n hn => ?_
  have hw : ClaimWork (s.setMasks m) (allEight.foldl
      (fun t n => if (s.setMasks m).inhibited n && !s.inhibited n then t.becomeInhibited n else t) (s.setMasks m)) :=
    ClaimWork.foldl (fun t n => by split; exacts [becomeInhibited_work t n, .refl t]) _ _
  rw [hw.inhibited n] at hn
  refine foldl_becomeInhibited_quiet (inhibited := fun k => (s.setMasks m).inhibited k)
    (news := fun k => (s.setMasks m).inhibited k && !s.inhibited k) allEight (fun k hk => ?_) n hn
  cases hx : s.inhibited k with
  | true => exact .inl (h k hx)
  | false => exact .inr ⟨mem_allEight k, by simp only [hk]; rfl⟩

theorem State.inhibitsSound.settleAdmitted {s : State} (h : s.inhibitsSound) (o : OutstandingClaim) (b : Bool) :
    (s.settleAdmitted o b).inhibitsSound := by
  have hstop : ((s.setClaims { s.claims with outstanding := none }).enterStopping o.channel).inhibitsSound :=
    h.setChannelState (n := o.channel) (.inr ChannelState.quiet_stopping)
  unfold State.settleAdmitted
  dsimp only
  split
  · exact hstop
  · split
    · exact fun n hn => by
        rw [(requeue_work _ _ _).inhibited] at hn
        rw [requeue_channelState]
        exact hstop n hn
    · rename_i hi
      have hi' : s.inhibited o.channel = false := by simpa using hi
      split
      · exact h.setChannelState (n := o.channel) (.inl hi')
      · exact h.setChannelState (n := o.channel) (.inl hi')

theorem inhibitsSound_effects : Effects State.inhibitsSound where
  move _ _ hm h := hm.inhibitsSound h
  table _ _ h := h
  member _ _ h _ := h
  changeMasks _ m h := h.changeMasks m
  diverge _ h ho := confirmDivergence_keeps (P := State.inhibitsSound) (fun _ _ => Move.inhibitsSound)
    (fun _ _ h => h) (fun _ _ h => h) (fun _ _ h => h) ho h
  beaconOffer _ h := h
  faults _ _ h := h
  voided _ h := h
  promote _ n d h hp := h.setChannelState (.inl (h.not_inhibited (by rw [hp]; rintro (h | h | h) <;> cases h)))
  settle _ o b h _ := h.settleAdmitted o b

/-- MUTE entry keeps what is said of the inhibited channels. -/
theorem State.inhibitsSound.enterMute {s : State} (h : s.inhibitsSound) (f : FaultSet) : (s.enterMute f).inhibitsSound := by
  have hc : (s.muteChannels f).inhibitsSound := muteChannels_keeps (fun _ _ => Move.inhibitsSound)
    (fun _ _ h _ => h.setChannelState (.inr ChannelState.quiet_off)) h
  rw [enterMute_eq]
  refine inhibitsSound_effects.moves (judge_moves _) ?_
  unfold State.muteEntered State.muteOff
  generalize s.muteChannels f = t at *
  exact inhibitsSound_effects.clearTable
    (s := t.setLine { t.line.left with vetoStreak := 0, sendStreak := 0, courtesyGap := false }) hc

theorem State.inhibitsSound.sourceFailed {s : State} (h : s.inhibitsSound) (o : Offer) :
    (s.sourceFailed o).inhibitsSound := by
  cases o with
  | claim =>
    unfold State.sourceFailed
    dsimp only
    split
    · rename_i c hc
      exact inhibitsSound_effects.moves
        (settleEndedAttempt_moves _ hc rfl rfl fun hu _ => Nat.not_le.1 (of_decide_eq_false hu)) h
    · exact h
  | command => unfold State.sourceFailed; dsimp only; split <;> exact h
  | report => unfold State.sourceFailed; dsimp only; split <;> exact h
  | beacon => exact h
  | release n => exact h
  | renew => exact h

theorem State.inhibitsSound.afterFrame {s : State} (h : s.inhibitsSound) (f : Frame) (part : Option Offer) :
    (s.afterFrame f part).inhibitsSound := by
  have hc : ((s.lineAccepted f).countJudgements f).inhibitsSound := by
    rw [(countJudgements_frame (s.lineAccepted f) f).1]
    exact h
  unfold State.afterFrame
  cases part with
  | none => exact hc
  | some o =>
    dsimp only
    generalize (s.lineAccepted f).countJudgements f = t at *
    cases o with
    | release n =>
      unfold State.endOwnAttempt
      dsimp only
      split
      · exact hc.setChannelState (n := n) (.inr ChannelState.quiet_off)
      · exact hc
    | claim =>
      have hl : (t.setLine { t.line with sendStreak := 0, courtesyGap := true }).inhibitsSound := hc
      have hf := inhibitsSound_effects.moves (setInFlight_moves _ false) hl
      exact hf
    | _ => exact hc

/-- The inhibit invariant, part by part. -/
structure State.InhibitInv (s : State) : Prop where
  quiet : s.inhibitsSound
  rests : s.restsInLoading
  starts : s.startsInLoading

theorem inhibitInv_iff (s : State) : s.inhibitInv ↔ s.InhibitInv :=
  ⟨fun ⟨h1, h2, h3⟩ => ⟨h1, h2, h3⟩, fun ⟨h1, h2, h3⟩ => ⟨h1, h2, h3⟩⟩

theorem State.InhibitInv.moves {s t : State} (h : s.InhibitInv) (hw : s.member.state.working = true) (hm : Moves s t) :
    t.InhibitInv :=
  ⟨inhibitsSound_effects.moves hm h.quiet, .of_working (by rw [hm.work.member]; exact hw),
    h.starts.of_eq hm.work.phase (by rw [hm.work.member])⟩

/-- The inhibit invariant is kept by every operation of a step. -/
theorem inhibitInv_keeps : Keeps State.InhibitInv where
  pending _ _ h := { h with }
  releases _ _ h _ := { h with }
  starts s _ h hp := { h with starts := fun _ => h.starts (by rw [hp]; nofun) }
  waits _ _ h _ _ := { h with }
  waitEnds s h hp := by
    have hl := h.starts (by rw [hp]; nofun)
    exact { h with rests := fun _ => h.rests hl, starts := fun hn => absurd rfl hn }
  loads _ _ h _ _ := { h with }
  readEnds s image h hl := by
    obtain ⟨hp, hm⟩ := State.isLoading_state hl
    have hoff := h.rests hm
    have starts {t : State} (hpt : t.phase = s.phase) : t.startsInLoading := fun hn => absurd (hpt.trans hp) hn
    rcases endRead_cases s image with ⟨failure, -, he⟩ | ⟨outcome, he⟩ | ⟨c, hc, he⟩ <;> rw [he]
    · exact { h with }
    · exact { h with rests := .of_ne nofun, starts := starts rfl }
    · exact { quiet := fun n _ => .inl (hoff n), rests := .of_ne nofun, starts := starts rfl }
  quiet _ _ _ _ _ h _ _ := { h with }
  records _ h _ := { h with }
  begins s o h ho _ := by
    have hr : s.recordSof.InhibitInv := { h with }
    have hm : (if o = .claim then s.recordSof.setInFlight true else s.recordSof).InhibitInv := by
      split
      · exact hr.moves (MemberState.working_of_online ho) (setInFlight_moves _ true)
      · exact hr
    exact { hm with }
  counts _ _ h _ := { h with }
  fails s o f a b h ho _ _ := by
    have hb : (s.attemptFailed a b).inhibitsSound := h.quiet
    have hf := hb.sourceFailed o
    have hmem : ((s.attemptFailed a b).sourceFailed o).member = s.member := by rw [sourceFailed_frame]; rfl
    have hst : ((s.attemptFailed a b).sourceFailed o).startsInLoading :=
      h.starts.of_eq (by rw [sourceFailed_frame]; rfl) (by rw [hmem])
    rcases failAttempt_cases s o a b with ⟨-, he⟩ | ⟨-, he⟩ <;> rw [he]
    · exact ⟨hf, .of_ne (by rw [hmem]; exact MemberState.ne_loading_of_online ho), hst⟩
    · exact ⟨hf.enterMute _, .of_ne (by rw [enterMute_member]; nofun), enterMute_starts hst (by rw [hmem]; exact ho) _⟩
  vetoes s b h ho := by
    have hb : (s.vetoCast b).InhibitInv := { h with }
    rcases castVeto_cases s b with ⟨-, he⟩ | ⟨-, he⟩ <;> rw [he]
    · exact hb
    · exact ⟨hb.quiet.enterMute _, .of_ne (by rw [enterMute_member]; nofun), enterMute_starts hb.starts ho _⟩
  accepts s f part h hp :=
    ⟨h.quiet.afterFrame f part, .of_ne (by rw [afterFrame_member]; exact MemberState.ne_loading_of_online hp.1),
      afterFrame_starts h.starts f part⟩
  halts s f h ho _ _ := { h with rests := .of_ne nofun, starts := h.starts.of_online ho rfl }
  move s t h hw hm := h.moves hw hm.moves
  masks s m h hw :=
    ⟨h.quiet.changeMasks m, .of_working (by rw [changeMasks_member]; exact hw),
      h.starts.of_eq (changeMasks_work s m).phase (by rw [changeMasks_member])⟩
  beacon s b sender own h ho ha :=
    ⟨inhibitsSound_effects.beaconSettled b sender own (by simp [State.drivesLine, ha]) ho h.quiet,
      .of_ne (MemberState.ne_loading_of_online (beaconSettled_online b sender own ho)),
      h.starts.of_online ho (beaconSettled_table s b sender own).2.1⟩
  claim s f part c u d h hp _ _ _ := by
    have ha := h.quiet.afterFrame f part
    have ho : (s.afterFrame f part).member.state.online = true := by rw [afterFrame_member]; exact hp.1
    have hst := afterFrame_starts h.starts f part
    generalize s.afterFrame f part = a at *
    obtain ⟨t, n, hwork, -⟩ := applyClaim_frame f.source.toNat (Class.ofBits f.cls) c u d part.isSome a
    exact ⟨inhibitsSound_effects.applyClaim _ _ c u d _ ha,
      .of_ne (by rw [hwork.member]; exact MemberState.ne_loading_of_online ho),
      hst.of_eq hwork.phase (by rw [hwork.member]; rfl)⟩
  release s f part c h hp _ _ _ _ := by
    have ha := h.quiet.afterFrame f part
    have ho : (s.afterFrame f part).member.state.online = true := by rw [afterFrame_member]; exact hp.1
    have hst := afterFrame_starts h.starts f part
    generalize s.afterFrame f part = a at *
    have hr := inhibitsSound_effects.applyRelease f.source.toNat c part.isSome ha
    rcases applyRelease_work f.source.toNat c part.isSome a with hwork | hwork
    · exact ⟨hr, .of_ne (by rw [hwork.member]; exact MemberState.ne_loading_of_online ho),
        hst.of_eq hwork.phase (by rw [hwork.member])⟩
    · exact ⟨hr, .of_ne (by rw [hwork.member]; exact MemberState.ne_loading_of_online ho),
        hst.of_eq hwork.phase (by rw [hwork.member]; rfl)⟩
  renew s source payload own h ho _ _ := by
    rw [applyRenew_eq]
    have ht : (s.setTable (s.renewedTable source payload)).InhibitInv := { h with }
    exact ht.moves (MemberState.working_of_online ho) (judge_moves _)
  query s target flags own h _ := by
    unfold State.applyQuery
    split
    · exact { h with }
    · exact h
  beaconTimer _ _ h _ := { h with }
  beaconOffer _ h _ := { h with }
  muteCounts _ _ h _ := { h with }
  muteEnds s h hm := { h with rests := .of_ne nofun, starts := h.starts.of_phase (by rw [hm]; nofun) rfl }
  counted s h hw := by
    refine { h with quiet := fun n hn => ?_, rests := .of_working hw }
    obtain ⟨h1, h2, h3, -, -⟩ := (s.channel n).counted_state
    rw [State.channelState_counted]
    exact (h.quiet n hn).imp h2.2 (Or.imp h1.2 h3.2)
  pin _ _ _ h := { h with }
  input _ _ _ h _ := { h with }
  raises s c h _ := by
    rw [raiseCommand_frame]
    exact { h with }
  blink _ _ h _ _ := { h with }
  phases _ _ h _ := { h with }
  divides _ _ _ h _ _ := { h with }

/-- Settles O6: every operation of a step keeps the inhibit invariant. -/
theorem stepKeepsInhibitedChannelsOff : Obligations.StepKeepsInhibitedChannelsOff := by
  intro s t hs h
  rw [inhibitInv_iff] at *
  refine inhibitInv_keeps.step_untimed (fun _ _ h => { h with }) (fun _ _ h => { h with }) (fun _ _ h => { h with })
    (fun _ h => { h with }) (fun s k t _ h => ?_) hs h
  have off := channelState_of_resetOnset h
  cases h
  exact ⟨fun n _ => .inl (off n), fun _ => off, fun _ => rfl⟩

end Sys2Proof.Machine
end

section
/-! PROOFS. Every step keeps every running budgeted channel under its own HELD record (O5): the offers, the claim and the
frame in flight are kept apart from the table, and what is ON is followed through every write of the table. -/

namespace Sys2Proof.Machine

/-! ## The RELEASE offers, the claim and the frame in flight -/

/-- A RELEASE is offered for a STOPPING channel alone, and the outstanding claim's channel is CLAIMING. -/
structure State.RunBook (s : State) : Prop where
  releases : ∀ n : ChannelIx, s.line.offers.releases[n] = true → s.channelState n = .stopping
  claims : s.claimedClaims

theorem releases_set (v : Vector Bool 8) (n k : ChannelIx) (b : Bool) : (v.set n b)[k] = if k = n then b else v[k] := by
  by_cases h : k = n
  · subst h; simp
  · rw [if_neg h]
    simp only [Fin.getElem_fin]
    exact Vector.getElem_set_ne _ _ fun he => h (Fin.ext he.symm)

namespace State.RunBook

/-- One channel that is not STOPPING changes its state, the RELEASE offers standing. -/
theorem setChannelState {s : State} (h : s.RunBook) {n : ChannelIx} {c : ChannelState} {u : ClaimUnit} {o : OfferSet}
    (hn : s.channelState n ≠ .stopping) (ho : o.releases = s.line.offers.releases)
    (ht : ClaimTurn s (((s.setClaims u).setChannelState n c).setOffers o)) :
    (((s.setClaims u).setChannelState n c).setOffers o).RunBook where
  releases k hk := by
    change o.releases[k] = true at hk
    rw [ho] at hk
    rw [State.channelState_setOffers, State.channelState_setChannelState, if_neg]
    · exact h.releases k hk
    · rintro rfl
      exact hn (h.releases k hk)
  claims := ht.claimedClaims h.claims

/-- A channel enters STOPPING with its RELEASE offered. -/
theorem enterStopping {s : State} (h : s.RunBook) {n : ChannelIx} {u : ClaimUnit}
    (ht : ClaimTurn s ((s.setClaims u).enterStopping n)) : ((s.setClaims u).enterStopping n).RunBook where
  releases k hk := by
    change (s.line.offers.releases.set n true)[k] = true at hk
    rw [releases_set] at hk
    rw [State.channelState_enterStopping]
    split
    · rfl
    · rename_i hkn
      rw [if_neg hkn] at hk
      exact h.releases k hk
  claims := ht.claimedClaims h.claims

/-- A channel leaves STOPPING with its RELEASE offer gone. -/
theorem endStopping {s : State} (h : s.RunBook) {n : ChannelIx} (hn : s.channelState n = .stopping) :
    (s.endStopping n).RunBook where
  releases k hk := by
    change (s.line.offers.releases.set n false)[k] = true at hk
    rw [releases_set] at hk
    rw [State.channelState_endStopping]
    split
    · rename_i hkn
      rw [if_pos hkn] at hk
      cases hk
    · rename_i hkn
      rw [if_neg hkn] at hk
      exact h.releases k hk
  claims := ((setChannelState_claimTurn (n := n) (c := .off) (by rw [hn]; nofun) nofun).setOffers _).claimedClaims h.claims

/-- The outstanding claim's channel is CLAIMING. -/
theorem claiming {s : State} (h : s.RunBook) {o : OutstandingClaim} (ho : s.claims.outstanding = some o) :
    s.channelState o.channel = .claiming := h.claims _ (State.claimed_eq_some.2 ⟨o, ho, rfl⟩)

end State.RunBook

theorem Move.runBook {s t : State} (hm : Move s t) (h : s.RunBook) : t.RunBook := by
  have ht := hm.claimTurn
  have hc := ht.claimedClaims h.claims
  cases hm with
  | enqueue n d _ => exact ⟨h.releases, hc⟩
  | forget n => exact ⟨h.releases, hc⟩
  | holdClear => exact ⟨h.releases, hc⟩
  | serve e he hr hw =>
    refine ⟨fun k hk => ?_, hc⟩
    have hoff : s.channelState e.channel ≠ .stopping := by
      intro hs
      simp [State.ready, hs, ChannelState.isOff] at hr
    unfold State.serveEntry at *
    rw [if_pos (by simp [he, hr, hw])] at *
    have hst := h.releases k hk
    unfold State.switchOn
    rw [State.channelState_setChannelState, if_neg]
    · exact hst
    · rintro rfl
      exact hoff hst
  | takeUp e _ hq _ _ =>
    refine h.setChannelState (fun hs => ?_) rfl ht
    simp [State.qualifies, State.ready, hs, ChannelState.isOff] at hq
  | dropClaim o c ho hch => exact h.setChannelState (by rw [hch, h.claiming ho]; nofun) rfl ht
  | returnClaim o c hold ho hch _ =>
    have hd : (s.dropClaim c).RunBook :=
      h.setChannelState (by rw [hch, h.claiming ho]; nofun) rfl (dropClaim_claimTurn ho hch)
    exact ⟨hd.releases, hc⟩
  | amend o c _ _ _ _ => exact ⟨h.releases, hc⟩
  | extendPending n d e hp => exact h.setChannelState (u := s.claims) (o := s.line.offers) (by rw [hp]; nofun) rfl ht
  | extendOn n d e hp => exact h.setChannelState (u := s.claims) (o := s.line.offers) (by rw [hp]; nofun) rfl ht
  | stopPending n d _ => exact h.enterStopping (u := s.claims) ht
  | stopBudgeted n _ _ => exact h.enterStopping (u := s.claims) ht
  | goOff n hp =>
    refine h.setChannelState (u := s.claims) (o := s.line.offers) (fun hs => ?_) rfl ht
    rcases hp with ⟨d, hp⟩ | hp <;> rw [hs] at hp <;> cases hp
  | endStopping n hp _ => exact h.endStopping hp
  | rest n r => exact ⟨fun k hk => by rw [State.channelState_setRest]; exact h.releases k hk, hc⟩
  | renew b _ => exact ⟨h.releases, hc⟩

/-- While a frame is in flight, moves leave a STOPPING channel STOPPING. -/
theorem Move.stopping_stands {s t : State} (hm : Move s t) (h : s.RunBook) (hl : s.drivesLine = true) {k : ChannelIx}
    (hk : s.channelState k = .stopping) : t.channelState k = .stopping := by
  have one {n : ChannelIx} {c : ChannelState} (hn : s.channelState n ≠ .stopping) :
      (s.setChannelState n c).channelState k = .stopping := by
    rw [State.channelState_setChannelState, if_neg]
    · exact hk
    · rintro rfl
      exact hn hk
  have stop (n : ChannelIx) : (s.setChannelState n .stopping).channelState k = .stopping := by
    rw [State.channelState_setChannelState]
    split
    · rfl
    · exact hk
  cases hm with
  | serve e _ hr _ =>
    unfold State.channelState
    rw [serveEntry_channel s e k (by rw [hk]; nofun)]
    exact hk
  | takeUp e _ hq _ _ =>
    refine one (n := e.channel) fun hs => ?_
    simp [State.qualifies, State.ready, hs, ChannelState.isOff] at hq
  | dropClaim o c ho hch => exact one (n := c.channel) (by rw [hch, h.claiming ho]; nofun)
  | returnClaim o c hold ho hch _ => exact one (n := c.channel) (by rw [hch, h.claiming ho]; nofun)
  | extendPending n d e hp => exact one (by rw [hp]; nofun)
  | extendOn n d e hp => exact one (by rw [hp]; nofun)
  | stopPending n d _ => exact stop n
  | stopBudgeted n _ _ => exact stop n
  | goOff n hp =>
    refine one fun hs => ?_
    rcases hp with ⟨d, hp⟩ | hp <;> rw [hs] at hp <;> cases hp
  | endStopping n _ hx => rw [hl] at hx; cases hx
  | rest n r => rw [State.channelState_setRest]; exact hk
  | _ => exact hk

/-- Moves keep the frame in flight sound. -/
theorem Moves.flightSound {s t : State} (hm : Moves s t) (h : s.RunBook) (hf : s.flightSound) : t.flightSound := by
  intro o f ha
  rw [hm.work.activity] at ha
  obtain ⟨h1, h2, h3, h4⟩ := hf o f ha
  have hl : s.drivesLine = true := by unfold State.drivesLine; rw [ha]
  refine ⟨by rw [hm.work.member]; exact h1, by rw [hm.work.ownId]; exact h2, h3, fun hk => ?_⟩
  obtain ⟨n, hp, hn⟩ := h4 hk
  refine ⟨n, hp, ?_⟩
  exact (Moves.keeps (P := fun u => u.RunBook ∧ u.drivesLine = true ∧ u.channelState n = .stopping)
    (fun a b hab h => ⟨hab.runBook h.1, by rw [hab.work.drivesLine]; exact h.2.1, hab.stopping_stands h.1 h.2.1 h.2.2⟩)
    hm ⟨h, hl, hn⟩).2.2

theorem flightSound_of_activity {s : State} (h : ∀ o f, s.line.activity ≠ .transmitting o f) : s.flightSound :=
  fun o f ha => absurd ha (h o f)

theorem runBook_effects : Effects State.RunBook where
  move _ _ hm h := hm.runBook h
  table _ _ h := { h with }
  member _ _ h _ := { h with }
  changeMasks s m h := Moves.keeps (fun _ _ => Move.runBook) (changeMasks_moves s m) { h with }
  diverge _ h ho := confirmDivergence_keeps (P := State.RunBook) (fun _ _ => Move.runBook)
    (fun _ _ h => { h with }) (fun _ _ h => { h with }) (fun _ _ h => { h with }) ho h
  beaconOffer _ h := { h with }
  faults _ _ h := { h with }
  voided _ h := { h with }
  promote s n d h hp :=
    h.setChannelState (u := s.claims) (o := s.line.offers) (by rw [hp]; nofun) rfl
      (setChannelState_claimTurn (by rw [hp]; nofun) nofun)
  settle s o b h ho := by
    have hn : s.channelState o.channel ≠ .stopping := by rw [h.claiming ho]; nofun
    have hstop := h.enterStopping (n := o.channel) (u := { s.claims with outstanding := none })
      ((endClaim_claimTurn ho (c := .stopping) nofun).setOffers _)
    have hset {c : ChannelState} (hc : c ≠ .claiming) :=
      h.setChannelState (c := c) (u := { s.claims with outstanding := none }) (o := s.line.offers) hn rfl
        (endClaim_claimTurn ho hc)
    have ht := settleAdmitted_claimTurn b ho
    unfold State.settleAdmitted at *
    dsimp only at *
    split
    · exact hstop
    · split
      · unfold State.requeue
        split
        · exact hstop
        · exact { hstop with claims := (((endClaim_claimTurn ho (c := .stopping) nofun).setOffers _).setClaims
            (claimed_setEnqueued _ _ _)).claimedClaims h.claims }
      · split
        · exact hset nofun
        · exact hset nofun

/-! ## What is ON -/

/-- A table holds a HELD record of a station for a channel. -/
def holdsIn (own : Nat) (n : ChannelIx) (t : List Holding) : Prop :=
  ∃ r ∈ t, r.holder = own ∧ r.channel = n ∧ r.state = .held

/-- Every budgeted channel that is ON has the station's own HELD record. -/
def State.powered (s : State) : Prop :=
  ∀ n, s.exempt n = false → (s.channelState n).isOn = true → holdsIn s.ownId n s.table

/-- No budgeted channel is ON. -/
def State.unpowered (s : State) : Prop := ∀ n, s.exempt n = false → (s.channelState n).isOn = false

/-- The settings stand, and no budgeted channel goes ON. -/
structure Dims (s t : State) : Prop where
  settings : t.settings = s.settings
  dims : ∀ n, s.exempt n = false → (t.channelState n).isOn = true → (s.channelState n).isOn = true

namespace Dims

theorem exempt {s t : State} (h : Dims s t) (n : ChannelIx) : t.exempt n = s.exempt n := by
  unfold State.exempt State.weight State.channelSettings
  rw [h.settings]

theorem ownId {s t : State} (h : Dims s t) : t.ownId = s.ownId := congrArg Settings.stationId h.settings

theorem refl (s : State) : Dims s s := ⟨rfl, fun _ _ => id⟩

theorem trans {s t u : State} (h : Dims s t) (k : Dims t u) : Dims s u :=
  ⟨k.settings.trans h.settings, fun n he hu => h.dims n he (k.dims n ((h.exempt n).trans he) hu)⟩

theorem unpowered {s t : State} (h : Dims s t) (hs : s.unpowered) : t.unpowered := by
  intro n he
  rw [h.exempt n] at he
  by_contra hn
  have := h.dims n he (by simpa using hn)
  rw [hs n he] at this
  cases this

theorem powered {s t : State} (h : Dims s t) (ht : t.table = s.table) (hs : s.powered) : t.powered := by
  intro n he hn
  rw [h.exempt n] at he
  rw [h.ownId, ht]
  exact hs n he (h.dims n he hn)

theorem off {s t : State} (h : Dims s t) {n : ChannelIx} (he : s.exempt n = false)
    (hn : (s.channelState n).isOn = false) : (t.channelState n).isOn = false := by
  by_contra ht
  have := h.dims n he (by simpa using ht)
  rw [hn] at this
  cases this

/-- Where the channels stand. -/
theorem of_channels {s t : State} (hc : t.settings = s.settings) (hk : t.channels = s.channels) : Dims s t :=
  ⟨hc, fun n _ hn => by
    unfold State.channelState State.channel at *
    rw [hk] at hn
    exact hn⟩

end Dims

/-- A powered or an unpowered station under any write that leaves the settings, the table and the channels. -/
theorem State.unpowered.powered {s : State} (h : s.unpowered) : s.powered := by
  intro n he hn
  rw [h n he] at hn
  cases hn

/-- One channel's state is written that is not ON, or was ON before. -/
theorem setChannelState_dims {s : State} {n : ChannelIx} {c : ChannelState}
    (h : c.isOn = true → s.exempt n = true ∨ (s.channelState n).isOn = true) : Dims s (s.setChannelState n c) := by
  refine ⟨rfl, fun k he hk => ?_⟩
  rw [State.channelState_setChannelState] at hk
  split at hk
  · rename_i hkn
    subst hkn
    exact (h hk).resolve_left (by rw [he]; nofun)
  · exact hk

theorem Move.dims {s t : State} (hm : Move s t) : Dims s t := by
  have stands {u : State} (hu : u.settings = s.settings) (hk : u.channels = s.channels) : Dims s u := .of_channels hu hk
  have one {u : State} {n : ChannelIx} {c : ChannelState} (hs : u.settings = s.settings)
      (hu : u.channels = (s.setChannelState n c).channels) (hc : c.isOn = true → (s.channelState n).isOn = true) :
      Dims s u := (setChannelState_dims fun h => .inr (hc h)).trans (.of_channels hs hu)
  cases hm with
  | serve e he _ _ =>
    unfold State.serveEntry
    split
    · refine Dims.trans (t := s.setClaims { s.claims with queue := removeEntry e.channel s.claims.queue })
        (.of_channels rfl rfl) (setChannelState_dims fun _ => .inl he)
    · exact .refl s
  | takeUp e _ _ _ _ => exact one (n := e.channel) (c := .claiming) rfl rfl nofun
  | dropClaim o c _ _ => exact one (n := c.channel) (c := .off) rfl rfl nofun
  | returnClaim o c hold _ _ _ => exact one (n := c.channel) (c := .off) rfl rfl nofun
  | extendPending n d e _ => exact one (n := n) rfl rfl nofun
  | extendOn n d e hp => exact one (n := n) rfl rfl fun _ => by rw [hp]; rfl
  | stopPending n d _ => exact one (n := n) (c := .stopping) rfl rfl nofun
  | stopBudgeted n _ _ => exact one (n := n) (c := .stopping) rfl rfl nofun
  | goOff n _ => exact one (n := n) (c := .off) rfl rfl nofun
  | endStopping n _ _ => exact one (n := n) (c := .off) rfl rfl nofun
  | rest n r => exact ⟨rfl, fun k _ hk => by rw [State.channelState_setRest] at hk; exact hk⟩
  | _ => exact stands rfl rfl

theorem Moves.dims {s t : State} (h : Moves s t) : Dims s t := by
  induction h with
  | refl => exact .refl s
  | tail _ hm ih => exact ih.trans hm.dims

/-- After a fold whose step takes each element's channel out of ON, no element's budgeted channel is ON. -/
theorem foldl_dark {α : Type} {f : State → α → State} (hf : ∀ s a, Dims s (f s a)) {n : ChannelIx} {a : α}
    (ha : ∀ s, s.exempt n = false → ((f s a).channelState n).isOn = false) {l : List α} (hl : a ∈ l) {s : State}
    (he : s.exempt n = false) : ((l.foldl f s).channelState n).isOn = false := by
  have rest (l : List α) : ∀ s, Dims s (l.foldl f s) := by
    induction l with
    | nil => exact fun s => .refl s
    | cons b l ih => exact fun s => (hf s b).trans (ih _)
  induction l generalizing s with
  | nil => cases hl
  | cons b l ih =>
    rcases List.mem_cons.1 hl with rfl | hl
    · exact (rest l (f s a)).off (by rw [(hf s a).exempt]; exact he) (ha s he)
    · exact ih hl (by rw [(hf s b).exempt]; exact he)

/-! ## The table's events -/

theorem ownShed_dims (s : State) (n : ChannelIx) : Dims s (s.ownShed n) := by
  unfold State.ownShed
  split
  · exact .refl s
  · split
    · exact (switchOff_requeue_moves ‹_›).dims
    · exact (setChannelState_dims (n := n) (c := .stopping) nofun).trans (.of_channels rfl rfl)
    · exact .refl s

theorem ownShed_dark {s : State} {n : ChannelIx} (he : s.exempt n = false) :
    ((s.ownShed n).channelState n).isOn = false := by
  unfold State.ownShed
  rw [if_neg (by rw [he]; nofun)]
  split
  · rw [requeue_channelState, State.channelState_switchOff, if_pos rfl]
    split <;> rfl
  · rw [State.channelState_enterStopping, if_pos rfl]
    rfl
  · cases hc : s.channelState n <;> first | rfl | simp_all

theorem ownExpired_dims (s : State) (n : ChannelIx) : Dims s (s.ownExpired n) := by
  unfold State.ownExpired
  split
  · exact .refl s
  · split
    · exact (goOff_rest_requeue_moves ‹_›).dims
    · exact (goOff_requeue_moves ‹_›).dims
    · exact (setChannelState_dims (n := n) (c := .off) nofun).trans (.of_channels rfl rfl)
    · exact .refl s

theorem ownExpired_dark {s : State} {n : ChannelIx} (he : s.exempt n = false) :
    ((s.ownExpired n).channelState n).isOn = false := by
  unfold State.ownExpired
  rw [if_neg (by rw [he]; nofun)]
  split
  · rw [requeue_channelState, State.channelState_beginRest, State.channelState_setChannelState_self]
    rfl
  · rw [requeue_channelState, State.channelState_setChannelState_self]
    rfl
  · rw [State.channelState_endStopping, if_pos rfl]
    rfl
  · cases hc : s.channelState n <;> first | rfl | simp_all

theorem giveSheds_dims (s : State) (victims : List (Nat × ChannelIx)) : Dims s (s.giveSheds victims) := by
  unfold State.giveSheds
  induction victims generalizing s with
  | nil => exact .refl s
  | cons v l ih =>
    refine Dims.trans ?_ (ih _)
    dsimp only
    split
    · exact ownShed_dims s v.2
    · exact .refl s

/-- A budgeted channel whose own record is a victim is not ON once the sheds have been given (R9, R85). -/
theorem giveSheds_dark {s : State} {victims : List (Nat × ChannelIx)} {n : ChannelIx} (hv : (s.ownId, n) ∈ victims)
    (he : s.exempt n = false) : ((s.giveSheds victims).channelState n).isOn = false := by
  unfold State.giveSheds
  induction victims generalizing s with
  | nil => cases hv
  | cons v l ih =>
    have hd : Dims s (if v.1 = s.ownId then s.ownShed v.2 else s) := by
      split
      · exact ownShed_dims s v.2
      · exact .refl s
    rcases List.mem_cons.1 hv with hv | hv
    · refine (giveSheds_dims _ l).off (by rw [hd.exempt]; exact he) ?_
      subst hv
      dsimp only
      rw [if_pos rfl]
      exact ownShed_dark he
    · exact ih (hd.ownId ▸ hv) (by rw [hd.exempt]; exact he)

theorem giveExpiries_dims (s : State) (gone : List Holding) : Dims s (s.giveExpiries gone) := by
  unfold State.giveExpiries
  induction gone generalizing s with
  | nil => exact .refl s
  | cons r l ih =>
    refine Dims.trans ?_ (ih _)
    dsimp only
    split
    · exact ownExpired_dims s r.channel
    · exact .refl s

/-- A budgeted channel whose own record has expired is not ON once the expiries have been given (R21 (3), R85). -/
theorem giveExpiries_dark {s : State} {gone : List Holding} {r : Holding} (hr : r ∈ gone) (ho : r.holder = s.ownId)
    (he : s.exempt r.channel = false) : ((s.giveExpiries gone).channelState r.channel).isOn = false := by
  unfold State.giveExpiries
  induction gone generalizing s with
  | nil => cases hr
  | cons x l ih =>
    have hd : Dims s (if x.holder = s.ownId then s.ownExpired x.channel else s) := by
      split
      · exact ownExpired_dims s x.channel
      · exact .refl s
    rcases List.mem_cons.1 hr with rfl | hr
    · refine (giveExpiries_dims _ l).off (by rw [hd.exempt]; exact he) ?_
      dsimp only
      rw [if_pos ho]
      exact ownExpired_dark he
    · exact ih hr (ho.trans hd.ownId.symm) (by rw [hd.exempt]; exact he)

/-- A promotion takes the promoted own record's channel ON and no other (R9). -/
theorem givePromotion_on {s : State} {r : Option Holding} {n : ChannelIx} (hn : ((s.givePromotion r).channelState n).isOn = true) :
    (s.channelState n).isOn = true ∨ ∃ x, r = some x ∧ x.holder = s.ownId ∧ x.channel = n := by
  unfold State.givePromotion at hn
  split at hn
  · rename_i x
    split at hn
    · rename_i ho
      unfold State.ownPromoted at hn
      split at hn
      · exact .inl hn
      · split at hn
        · unfold State.switchOn at hn
          rw [State.channelState_setChannelState] at hn
          split at hn
          · rename_i hc
            exact .inr ⟨x, rfl, ho, hc.symm⟩
          · exact .inl hn
        · exact .inl hn
    · exact .inl hn
  · exact .inl hn

/-! ## HELD records under the table's operations -/

theorem holdsIn.promotionCheck {own budget : Nat} {n : ChannelIx} {t : List Holding} (h : holdsIn own n t) :
    holdsIn own n (promotionCheck budget t).1 := by
  rcases promotionCheck_table budget t with ht | ht <;> rw [ht]
  · exact h
  · obtain ⟨r, hr, h1, h2, h3⟩ := h
    refine ⟨r, List.mem_map.2 ⟨r, hr, if_neg ?_⟩, h1, h2, h3⟩
    rw [h3]
    decide

theorem holdsIn_of_promoted {own budget : Nat} {n : ChannelIx} {t : List Holding} {r : Holding}
    (h : (promotionCheck budget t).2 = some r) (ho : r.holder = own) (hn : r.channel = n) :
    holdsIn own n (promotionCheck budget t).1 := ⟨_, (promotionCheck_held h).2.2, ho, hn, rfl⟩

theorem holdsIn.renewMatching {own holder lease : Nat} {n : ChannelIx} {t : List Holding} (e : RenewEntry)
    (h : holdsIn own n t) : holdsIn own n (Machine.renewMatching lease holder t e) := by
  obtain ⟨r, hr, h1, h2, h3⟩ := h
  refine ⟨_, List.mem_map.2 ⟨r, hr, rfl⟩, ?_⟩
  split <;> exact ⟨h1, h2, h3⟩

/-! ## BEACON -/

/-- What is ON after a beacon's table part was ON with no own record of it expired, or has been promoted (R21, R25). -/
theorem beaconTable_on {s : State} (d : Bool) {n : ChannelIx} (he : s.exempt n = false)
    (hn : ((s.beaconTable d).channelState n).isOn = true) :
    (∃ r, s.agedTable.2 = some r ∧ r.holder = s.ownId ∧ r.channel = n) ∨
      ((s.channelState n).isOn = true ∧
        ∀ r ∈ expiredRecords (ageTable s.table), r.holder = s.ownId → r.channel ≠ n) := by
  have hexp : (((s.setTable s.agedTable.1).giveExpiries (expiredRecords (ageTable s.table))).channelState n).isOn = true →
      (s.channelState n).isOn = true ∧ ∀ r ∈ expiredRecords (ageTable s.table), r.holder = s.ownId → r.channel ≠ n := by
    intro hon
    refine ⟨(giveExpiries_dims (s.setTable s.agedTable.1) _).dims n he hon, ?_⟩
    rintro r hr ho rfl
    rw [giveExpiries_dark (s := s.setTable s.agedTable.1) hr ho he] at hon
    cases hon
  have hsig (u : State) (hu : (if expiredRecords (ageTable s.table) = [] then
      (s.setTable s.agedTable.1).giveExpiries (expiredRecords (ageTable s.table))
      else ((s.setTable s.agedTable.1).giveExpiries (expiredRecords (ageTable s.table))).holdClear) = u) :
      u.ownId = s.ownId ∧ ((u.channelState n).isOn = true →
        (s.channelState n).isOn = true ∧
          ∀ r ∈ expiredRecords (ageTable s.table), r.holder = s.ownId → r.channel ≠ n) := by
    have hid := (giveExpiries_dims (s.setTable s.agedTable.1) (expiredRecords (ageTable s.table))).ownId
    subst hu
    split
    · exact ⟨hid, hexp⟩
    · exact ⟨hid, hexp⟩
  obtain ⟨hid, hsig⟩ := hsig _ rfl
  unfold State.beaconTable at hn
  dsimp only at hn
  split at hn
  · exact .inr (hsig hn)
  · rcases givePromotion_on hn with h | ⟨r, hr, ho, hc⟩
    · exact .inr (hsig h)
    · exact .inl ⟨r, hr, ho.trans hid, hc⟩

/-- A beacon's table part keeps the law of R81 in SYNCED, and lights no channel in LISTENING. -/
theorem beaconTable_power {s : State} (d : Bool) :
    (s.member.state = .synced → s.powered → (s.beaconTable d).powered) ∧
      (s.member.state ≠ .synced → s.unpowered → (s.beaconTable d).unpowered) := by
  have hw := beaconTable_work s d
  have hx (n : ChannelIx) : (s.beaconTable d).exempt n = s.exempt n := hw.exempt n
  have hid : (s.beaconTable d).ownId = s.ownId := hw.ownId
  have htab : (s.beaconTable d).table = s.agedTable.1 := hw.table
  constructor
  · intro hs hp n he hn
    rw [hx n] at he
    rw [hid, htab]
    have haged : s.agedTable = promotionCheck s.settings.budget (liveRecords (ageTable s.table)) := if_pos hs
    rw [haged]
    rcases beaconTable_on d he hn with ⟨r, hr, ho, hc⟩ | ⟨hon, hlive⟩
    · rw [haged] at hr
      exact holdsIn_of_promoted hr ho hc
    · obtain ⟨r, hr, ho, hc, hst⟩ := hp n he hon
      refine holdsIn.promotionCheck ⟨{ r with lease := r.lease - 1 }, ?_, ho, hc, hst⟩
      have hm : { r with lease := r.lease - 1 } ∈ ageTable s.table := List.mem_map.2 ⟨r, hr, rfl⟩
      refine List.mem_filter.2 ⟨hm, ?_⟩
      by_contra hz
      exact hlive _ (List.mem_filter.2 ⟨hm, by simpa using hz⟩) ho hc
  · intro hs hp n he
    rw [hx n] at he
    by_contra hn
    have haged : s.agedTable.2 = none := by
      unfold State.agedTable
      rw [if_neg hs]
    rcases beaconTable_on d he (by simpa using hn) with ⟨r, hr, -⟩ | ⟨hon, -⟩
    · rw [haged] at hr; cases hr
    · rw [hp n he] at hon; cases hon

theorem beaconRenewed_power {s : State} (d : Bool) (ho : s.member.state.online = true) :
    (s.member.state = .synced → s.powered → (s.beaconRenewed d).powered) ∧
      (s.member.state ≠ .synced → s.unpowered → (s.beaconRenewed d).unpowered) := by
  have hm : Moves (s.beaconTable d).restartBeacon (s.beaconRenewed d) := by
    refine (dropIdleRenew_moves _).trans (placeRenew_moves ?_)
    rw [(dropIdleRenew_work _).member, ← ho, ← beaconTable_member s d]
    rfl
  have hd : Dims (s.beaconTable d) (s.beaconRenewed d) :=
    Dims.trans (t := (s.beaconTable d).restartBeacon) (.of_channels rfl rfl) hm.dims
  have ht : (s.beaconRenewed d).table = (s.beaconTable d).table := hm.work.table
  obtain ⟨h1, h2⟩ := beaconTable_power (s := s) d
  exact ⟨fun hs hp => hd.powered ht (h1 hs hp), fun hs hp => hd.unpowered (h2 hs hp)⟩

theorem divergeChannel_dark {s : State} {n : ChannelIx} (he : s.exempt n = false) :
    ((s.divergeChannel n).channelState n).isOn = false := by
  unfold State.divergeChannel
  rw [if_neg (by rw [he]; nofun)]
  split
  · rw [requeue_channelState, State.channelState_switchOff, if_pos rfl]
    split <;> rfl
  · rw [requeue_channelState, State.channelState_enterStopping, if_pos rfl]
    rfl
  · rename_i hn
    rw [hn]; rfl
  · rename_i hn
    split
    · rw [State.channelState_enterStopping, if_pos rfl]
      rfl
    · rw [hn]; rfl
  · rename_i hn
    split
    · split
      · rename_i o _ ho
        subst ho
        change ((State.setChannelState _ o.channel .off).channelState o.channel).isOn = false
        rw [State.channelState_setChannelState_self]
        rfl
      · rw [hn]; rfl
    · rw [hn]; rfl

theorem divergeChannel_dims (s : State) (n : ChannelIx) : Dims s (s.divergeChannel n) := by
  unfold State.divergeChannel
  split
  · exact .refl s
  · split
    · exact (switchOff_requeue_moves ‹_›).dims
    · exact (enterStopping_requeue_moves ‹_›).dims
    · exact .refl s
    · split
      · exact (setChannelState_dims (n := n) (c := .stopping) nofun).trans (.of_channels rfl rfl)
      · exact .refl s
    · split
      · rename_i o ho
        split
        · exact (Move.returnClaim o o false ho rfl rfl).dims
        · exact .refl s
      · exact .refl s

/-- A confirmed divergence leaves no budgeted channel ON (R63). -/
theorem confirmDivergence_unpowered (s : State) : s.confirmDivergence.unpowered := by
  intro n he
  rw [(confirmDivergence_work s).exempt] at he
  have hall := mem_allEight n
  have hk : s.confirmDivergence.channelState n =
      (allEight.foldl State.divergeChannel (s.setFaults { s.report.faults with diverged := true })).channelState n := by
    unfold State.confirmDivergence
    dsimp only
    generalize allEight.foldl State.divergeChannel (s.setFaults { s.report.faults with diverged := true }) = t
    unfold State.channelState State.channel
    rw [State.setMember_channels, clearTable_channels]
  rw [hk]
  exact foldl_dark divergeChannel_dims (a := n) (fun _ => divergeChannel_dark) hall he

/-- A beacon keeps the law of R81: in SYNCED what is ON has its HELD record, and outside SYNCED nothing is ON. -/
theorem beaconSettled_power {s : State} (b : BeaconFields) (sender : Nat) (own : Bool)
    (ho : s.member.state.online = true) (hp : s.powered) (hu : s.member.state ≠ .synced → s.unpowered) :
    (s.beaconSettled b sender own).powered ∧
      ((s.beaconSettled b sender own).member.state ≠ .synced → (s.beaconSettled b sender own).unpowered) := by
  have hj (t : State) (h : t.powered ∧ (t.member.state ≠ .synced → t.unpowered)) :
      t.judge.powered ∧ (t.judge.member.state ≠ .synced → t.judge.unpowered) := by
    rw [(judge_work t).member]
    exact ⟨(judge_moves t).dims.powered (judge_work t).table h.1, fun hm => (judge_moves t).dims.unpowered (h.2 hm)⟩
  rw [beaconSettled_eq]
  apply hj
  split
  · rename_i hs
    have hr := (beaconRenewed_power (s.witnessUpdate b sender own).isNone ho).1 hs hp
    have hm : (s.beaconRenewed (s.witnessUpdate b sender own).isNone).member.state = .synced := by
      rw [(beaconRenewed_work s _).member]; exact hs
    generalize s.beaconRenewed (s.witnessUpdate b sender own).isNone = t at *
    rcases beaconSynced_cases t b own (s.witnessUpdate b sender own) with ⟨w, -, h⟩ | ⟨-, h⟩ <;> rw [h]
    · exact ⟨hr, fun hn => absurd hm hn⟩
    · exact ⟨(confirmDivergence_unpowered _).powered, fun _ => confirmDivergence_unpowered _⟩
  · rename_i hs
    have hr := (beaconRenewed_power false ho).2 hs (hu hs)
    generalize s.beaconRenewed false = t at *
    have ha : (t.beaconAdopted b own).unpowered := by
      unfold State.beaconAdopted
      dsimp only
      split
      · exact (changeMasks_moves _ _).dims.unpowered hr
      · exact hr
    rw [beaconListening_eq]
    have hdark : State.unpowered (if t.joinsAt b own (tableDigest s.table) then (t.beaconAdopted b own).completeJoin
        else if 2 * t.settings.lease ≤ t.member.beaconsHeard + 1 then (t.beaconAdopted b own).restartJoin
        else t.beaconAdopted b own) := by
      split
      · exact ha
      · split
        · exact Dims.unpowered (s := (t.beaconAdopted b own).setTable [])
            ((clearTable_moves (t.beaconAdopted b own)).dims.trans (.of_channels rfl rfl)) ha
        · exact ha
    exact ⟨hdark.powered, fun _ => hdark⟩

/-! ## CLAIM and RELEASE -/

/-- What is ON after an own claim is settled was ON, or is the granted claim's channel (R48, R83). -/
theorem settleOwnClaim_on {s : State} {r : ClaimResult} {c n : ChannelIx} (he : s.exempt n = false)
    (hn : ((s.settleOwnClaim r c).channelState n).isOn = true) :
    (s.channelState n).isOn = true ∨ (r = .granted ∧ n = c) := by
  have hadm (o : OutstandingClaim) (b : Bool) (h : ((s.settleAdmitted o b).channelState n).isOn = true) :
      (s.channelState n).isOn = true ∨ (b = true ∧ n = o.channel) := by
    by_cases hno : n = o.channel
    · subst hno
      unfold State.settleAdmitted at h
      dsimp only at h
      split at h
      · rw [State.channelState_enterStopping, if_pos rfl] at h; cases h
      · split at h
        · rw [requeue_channelState, State.channelState_enterStopping, if_pos rfl] at h; cases h
        · split at h
          · rename_i hb
            exact .inr ⟨hb, rfl⟩
          · rw [State.channelState_setChannelState_self] at h; cases h
    · rw [settleAdmitted_channelState b n hno] at h
      exact .inl h
  unfold State.settleOwnClaim at hn
  split at hn
  · rename_i o ho
    split at hn
    · rename_i hc
      split at hn
      · exact (hadm o true hn).imp_right fun h => ⟨rfl, h.2.trans hc⟩
      · exact (hadm o false hn).imp_right fun h => by cases h.1
      · exact .inl ((settleRefused_moves (s := s.countVoided) ho).dims.dims n he hn)
      · exact .inl ((settleRefused_moves (s := s.countVoided) ho).dims.dims n he hn)
      · exact .inl ((settleRefused_moves ho).dims.dims n he hn)
    · exact .inl hn
  · exact .inl hn

/-- An applied CLAIM keeps the law of R81: a victim's channel leaves ON, and a granted own claim has its record. -/
theorem applyClaim_powered {s : State} (cls : Class) (c : ChannelIx) (u : Nat) (d : Bool) {source : Nat} {own : Bool}
    (hown : own = true → source = s.ownId) (hp : s.powered) : (State.applyClaim source cls c u d own s).powered := by
  rcases applyClaim_cases source cls c u d own s with ⟨-, h⟩ | ⟨-, -, h⟩
  · rw [h]; exact hp
  have hshed := giveSheds_dims (s.setTable (s.evaluated source cls c u d).table) (s.evaluated source cls c u d).victims
  have hdark : ∀ n, s.exempt n = false → (s.ownId, n) ∈ (s.evaluated source cls c u d).victims →
      (((s.setTable (s.evaluated source cls c u d).table).giveSheds
        (s.evaluated source cls c u d).victims).channelState n).isOn = false := fun n he hv =>
    giveSheds_dark (s := s.setTable (s.evaluated source cls c u d).table) hv he
  have hst : ((s.setTable (s.evaluated source cls c u d).table).giveSheds
        (s.evaluated source cls c u d).victims).table = (s.evaluated source cls c u d).table :=
    (giveSheds_work _ _).table
  rw [h]
  clear h
  have hcases := evaluateClaim_cases s.settings.budget s.settings.lease s.table source c u cls d
  dsimp only at hcases
  rw [show evaluateClaim s.settings.budget s.settings.lease s.table source c u cls d =
    s.evaluated source cls c u d from rfl] at hcases
  generalize s.evaluated source cls c u d = ev at *
  generalize (s.setTable ev.table).giveSheds ev.victims = t at *
  have hset : (if own then t.settleOwnClaim ev.result c else t).settings = s.settings ∧
      (if own then t.settleOwnClaim ev.result c else t).table = ev.table := by
    split
    · rcases settleOwnClaim_work t ev.result c with hw | hw
      · exact ⟨hw.settings.trans hshed.settings, hw.table.trans hst⟩
      · exact ⟨hw.settings.trans hshed.settings, hw.table.trans hst⟩
    · exact ⟨hshed.settings, hst⟩
  have hon (n : ChannelIx) (he : s.exempt n = false)
      (hn : ((if own then t.settleOwnClaim ev.result c else t).channelState n).isOn = true) :
      (t.channelState n).isOn = true ∨ (own = true ∧ ev.result = .granted ∧ n = c) := by
    split at hn
    · exact (settleOwnClaim_on (by rw [hshed.exempt]; exact he) hn).imp_right fun h => ⟨‹_›, h⟩
    · exact .inl hn
  generalize (if own then t.settleOwnClaim ev.result c else t) = w at *
  have hfin : Moves w w.dropIdleRenew.judge := (dropIdleRenew_moves w).trans (judge_moves _)
  refine hfin.dims.powered hfin.work.table fun n he hn => ?_
  have hx : w.exempt n = s.exempt n := by
    unfold State.exempt State.weight State.channelSettings; rw [hset.1]
  have hid : w.ownId = s.ownId := congrArg Settings.stationId hset.1
  rw [hx] at he
  rw [hid, hset.2]
  rcases hcases with ⟨htab, -, hr⟩ | ⟨-, -, -, hev⟩ | ⟨-, -, -, -, -, -, vs, -, hev⟩
  · rw [htab]
    rcases hon n he hn with ht | ⟨-, hg, -⟩
    · exact hp n he (hshed.dims n he ht)
    · rcases hr with hr | hr | hr <;> rw [hr] at hg <;> cases hg
  · rw [hev]
    rcases hon n he hn with ht | ⟨ho, -, rfl⟩
    · obtain ⟨r, hr, hrest⟩ := hp n he (hshed.dims n he ht)
      exact ⟨r, (mem_insertHolding _ _ _).2 (.inr hr), hrest⟩
    · exact ⟨_, (mem_insertHolding _ _ _).2 (.inl rfl), hown ho, rfl, rfl⟩
  · rw [hev] at hon hdark ⊢
    rcases hon n he hn with ht | ⟨-, hg, -⟩
    · obtain ⟨r, hr, h1, h2, h3⟩ := hp n he (hshed.dims n he ht)
      refine ⟨r, (mem_insertHolding _ _ _).2 (.inr (List.mem_map.2 ⟨r, hr, if_neg fun hv => ?_⟩)), h1, h2, h3⟩
      have hkey : r.key = (s.ownId, n) := by unfold Holding.key; rw [h1, h2]
      rw [hkey, List.contains_iff_mem] at hv
      rw [hdark n he hv] at ht
      cases ht
    · cases hg

/-- An applied RELEASE keeps the law of R81 where the channel it names, if the frame is the station's own, is not ON. -/
theorem applyRelease_power {s : State} {source : Nat} {c : ChannelIx} (own : Bool)
    (hown : source = s.ownId → (s.channelState c).isOn = false) (hp : s.powered)
    (hu : s.member.state ≠ .synced → s.unpowered) :
    (State.applyRelease source c own s).powered ∧
      (s.member.state ≠ .synced → (State.applyRelease source c own s).unpowered) := by
  rcases applyRelease_cases source c own s with ⟨-, h⟩ | ⟨-, h⟩
  · rw [h]
    exact ⟨(judge_moves s).dims.powered (judge_work s).table hp, fun hm => (judge_moves s).dims.unpowered (hu hm)⟩
  rw [h]
  clear h
  have htold : Dims s (if source = s.ownId then (s.setTable (s.releasedTable source c).1).holdClear.ownReleased c
      else (s.setTable (s.releasedTable source c).1).holdClear) ∧
      (if source = s.ownId then (s.setTable (s.releasedTable source c).1).holdClear.ownReleased c
        else (s.setTable (s.releasedTable source c).1).holdClear).table = (s.releasedTable source c).1 := by
    have hc : Dims s (s.setTable (s.releasedTable source c).1).holdClear := .of_channels rfl rfl
    split
    · exact ⟨hc.trans (ownReleased_moves _ c).dims, (ownReleased_work _ c).table⟩
    · exact ⟨hc, rfl⟩
  generalize (if source = s.ownId then (s.setTable (s.releasedTable source c).1).holdClear.ownReleased c
    else (s.setTable (s.releasedTable source c).1).holdClear) = t at *
  obtain ⟨hd, ht⟩ := htold
  have hg := givePromotion_work t (s.releasedTable source c).2
  have hfin (w : State) : Moves w w.dropIdleRenew.judge := (dropIdleRenew_moves w).trans (judge_moves _)
  have hx (n : ChannelIx) : (t.givePromotion (s.releasedTable source c).2).exempt n = s.exempt n :=
    (hg.exempt n).trans (hd.exempt n)
  constructor
  · refine (hfin _).dims.powered (hfin _).work.table fun n he hn => ?_
    rw [hx] at he
    rw [hg.ownId, hd.ownId, hg.table, ht]
    have hdark : ∀ hon : (s.channelState n).isOn = true, holdsIn s.ownId n (removeHolding source c s.table) := by
      intro hon
      obtain ⟨r, hr, h1, h2, h3⟩ := hp n he hon
      refine ⟨r, List.mem_filter.2 ⟨hr, ?_⟩, h1, h2, h3⟩
      by_contra hk
      have hkey : r.keyed source c = true := by simpa using hk
      rw [Holding.keyed_iff] at hkey
      obtain ⟨hs, hc⟩ := hkey
      have hcn : c = n := hc.symm.trans h2
      subst hcn
      rw [hown (hs.symm.trans h1)] at hon
      cases hon
    by_cases hs : s.member.state = .synced
    · have hrt : s.releasedTable source c = promotionCheck s.settings.budget (removeHolding source c s.table) := if_pos hs
      rcases givePromotion_on hn with hon | ⟨r, hr, ho, hc⟩
      · rw [hrt]
        exact (hdark (hd.dims n he hon)).promotionCheck
      · rw [hrt] at hr ⊢
        exact holdsIn_of_promoted hr (ho.trans hd.ownId) hc
    · have hrt : s.releasedTable source c = (removeHolding source c s.table, none) := if_neg hs
      rw [hrt] at hn ⊢
      exact hdark (hd.dims n he hn)
  · intro hs
    have hrt : s.releasedTable source c = (removeHolding source c s.table, none) := if_neg hs
    rw [hrt]
    exact (hfin _).dims.unpowered (hd.unpowered (hu hs))

end Sys2Proof.Machine
end

section
/-! PROOFS. The running invariant, kept by every operation of a step (O5). -/

namespace Sys2Proof.Machine

/-- The running invariant, part by part. -/
structure State.RunInv (s : State) : Prop extends s.RunBook where
  law : s.member.state ≠ .halted → s.powered
  dark : s.member.state = .listening ∨ s.member.state = .mute → s.unpowered
  rests : s.restsInLoading
  flight : s.flightSound
  ids : s.member.state.working = true → 1 ≤ s.ownId ∧ s.ownId ≤ 62
  starts : s.startsInLoading

theorem runInv_iff (s : State) : s.runInv ↔ s.RunInv := by
  constructor
  · rintro ⟨h1, h2, h3, h4, h5, h6, h7, h8⟩
    refine ⟨⟨h4, fun n hn => ?_⟩, fun hm n he hn => (h1 n he hn).resolve_left hm, h3, h2, h6, h7, h8⟩
    obtain ⟨o, ho, rfl⟩ := State.claimed_eq_some.1 hn
    exact h5 o ho
  · rintro ⟨⟨h4, h5⟩, h1, h3, h2, h6, h7, h8⟩
    refine ⟨fun n he hn => ?_, h2, h3, h4, fun o ho => h5 _ (State.claimed_eq_some.2 ⟨o, ho, rfl⟩), h6, h7, h8⟩
    by_cases hm : s.member.state = .halted
    · exact .inl hm
    · exact .inr (h1 hm n he hn)

theorem MemberState.online_cases {m : MemberState} (h : m.online = true) : m = .listening ∨ m = .synced := by
  cases m <;> simp [MemberState.online] at *

namespace State.RunInv

theorem unpowered_of_online {s : State} (h : s.RunInv) (ho : s.member.state.online = true)
    (hs : s.member.state ≠ .synced) : s.unpowered :=
  h.dark (.inl ((MemberState.online_cases ho).resolve_right hs))

theorem powered_of_working {s : State} (h : s.RunInv) (hw : s.member.state.working = true) : s.powered :=
  h.law (by intro hm; rw [hm] at hw; cases hw)

/-- On the line, what is ON has its record in SYNCED, and nothing is ON in LISTENING. -/
theorem of_online {s : State} (hb : s.RunBook) (hf : s.flightSound) (hp : s.powered)
    (hu : s.member.state ≠ .synced → s.unpowered) (ho : s.member.state.online = true)
    (hid : 1 ≤ s.ownId ∧ s.ownId ≤ 62) (hs : s.startsInLoading) : s.RunInv where
  toRunBook := hb
  law _ := hp
  dark hm := hu (by rcases hm with hm | hm <;> rw [hm] <;> nofun)
  rests := .of_ne (MemberState.ne_loading_of_online ho)
  flight := hf
  ids _ := hid
  starts := hs

theorem moves {s t : State} (h : s.RunInv) (hw : s.member.state.working = true) (hm : Moves s t) : t.RunInv where
  toRunBook := runBook_effects.moves hm h.toRunBook
  law _ := hm.dims.powered hm.work.table (h.powered_of_working hw)
  dark hx := hm.dims.unpowered (h.dark (by rw [hm.work.member] at hx; exact hx))
  rests := .of_working (by rw [hm.work.member]; exact hw)
  flight := hm.flightSound h.toRunBook h.flight
  ids _ := by rw [hm.work.ownId]; exact h.ids hw
  starts := h.starts.of_eq hm.work.phase (by rw [hm.work.member])

/-- A change of the line's activity to one without a frame in flight. -/
theorem setActivity {s t : State} (h : s.RunInv) (ho : s.member.state.online = true) (hb : t.RunBook)
    (hf : ∀ o f, t.line.activity ≠ .transmitting o f) (hd : Dims s t) (ht : t.table = s.table)
    (hm : t.member = s.member) (hp : t.phase = s.phase) : t.RunInv :=
  .of_online hb (flightSound_of_activity hf) (hd.powered ht (h.powered_of_working (MemberState.working_of_online ho)))
    (fun hs => hd.unpowered (h.unpowered_of_online ho (hm ▸ hs))) (by rw [hm]; exact ho)
    (by rw [hd.ownId]; exact h.ids (MemberState.working_of_online ho)) (h.starts.of_eq hp (congrArg Membership.state hm))

end State.RunInv

/-! ## MUTE -/

theorem muteChannel_dims (s : State) (n : ChannelIx) : Dims s (s.muteChannel n) := by
  rcases muteChannel_cases s n with h | ⟨-, h⟩
  · exact h.dims
  · rw [h]; exact setChannelState_dims nofun

theorem muteChannel_dark {s : State} {n : ChannelIx} (he : s.exempt n = false) :
    ((s.muteChannel n).channelState n).isOn = false := by
  unfold State.muteChannel
  rw [if_neg (by rw [he]; nofun)]
  split
  · rw [requeue_channelState, State.channelState_beginRest, State.channelState_setChannelState_self]
    rfl
  · rw [requeue_channelState, State.channelState_setChannelState_self]
    rfl
  · rw [State.channelState_setChannelState_self]
    rfl
  · rename_i hn
    rw [hn]; rfl
  · rename_i hn
    split
    · split
      · rename_i o _ ho
        subst ho
        change ((State.setChannelState _ o.channel .off).channelState o.channel).isOn = false
        rw [State.channelState_setChannelState_self]
        rfl
      · rw [hn]; rfl
    · rw [hn]; rfl

/-- MUTE entry leaves no budgeted channel ON (R74). -/
theorem enterMute_unpowered (s : State) (f : FaultSet) : (s.enterMute f).unpowered := by
  rw [enterMute_eq]
  refine (judge_moves _).dims.unpowered fun n he => ?_
  rw [(muteEntered_work s f).exempt] at he
  have hall := mem_allEight n
  have hd : (s.muteDropped f).exempt n = false := he
  have hk : (s.muteEntered f).channelState n = (s.muteChannels f).channelState n := by
    unfold State.muteEntered State.muteOff
    generalize s.muteChannels f = t
    change State.channelState (State.clearTable _) n = _
    unfold State.channelState State.channel
    rw [clearTable_channels]
    rfl
  rw [hk]
  unfold State.muteChannels
  generalize s.muteDropped f = t at *
  generalize allEight = l at *
  exact foldl_dark muteChannel_dims (a := n) (fun _ => muteChannel_dark) hall hd

theorem State.RunBook.enterMute {s : State} (h : s.claimedClaims) (f : FaultSet) : (s.enterMute f).RunBook := by
  have hc : (s.muteChannels f).claimedClaims :=
    muteChannels_keeps (P := State.claimedClaims) (fun _ _ hm => hm.claimTurn.claimedClaims)
      (fun _ _ h hn => (setChannelState_claimTurn (c := .off) (by rw [hn]; nofun) nofun).claimedClaims h) h
  rw [enterMute_eq]
  refine runBook_effects.moves (judge_moves _) ?_
  unfold State.muteEntered State.muteOff
  generalize s.muteChannels f = t at *
  have h1 := clearTable_claimed (t.setLine { t.line.left with vetoStreak := 0, sendStreak := 0, courtesyGap := false })
  have h2 := clearTable_channels (t.setLine { t.line.left with vetoStreak := 0, sendStreak := 0, courtesyGap := false })
  have h3 := clearTable_offers_empty
    (s := t.setLine { t.line.left with vetoStreak := 0, sendStreak := 0, courtesyGap := false }) rfl
  generalize (t.setLine { t.line.left with vetoStreak := 0, sendStreak := 0, courtesyGap := false }).clearTable = u at *
  refine ⟨fun n hn => ?_, fun n hn => ?_⟩
  · change u.line.offers.releases[n] = true at hn
    rw [h3] at hn
    simp [OfferSet.empty] at hn
  · have hk : u.beginMute.channelState n = t.channelState n := by
      change State.channelState u n = _
      unfold State.channelState State.channel
      rw [h2]
      rfl
    rw [hk]
    refine hc n ?_
    change u.claimed = some n at hn
    rw [h1] at hn
    exact hn

theorem State.RunInv.enterMute {s : State} (hb : s.RunBook) (ho : s.member.state.online = true)
    (hid : 1 ≤ s.ownId ∧ s.ownId ≤ 62) (hs : s.startsInLoading) (f : FaultSet) : (s.enterMute f).RunInv where
  toRunBook := .enterMute hb.claims f
  law _ := (enterMute_unpowered s f).powered
  dark _ := enterMute_unpowered s f
  rests := .of_ne (by rw [enterMute_member]; nofun)
  flight := flightSound_of_activity (by rw [(enterMute_work s f).activity]; nofun)
  ids _ := by rw [(enterMute_work s f).ownId]; exact hid
  starts := enterMute_starts hs ho f

/-! ## The end of an own attempt -/

theorem State.RunBook.sourceFailed {s : State} (h : s.RunBook) (o : Offer) :
    (s.sourceFailed o).RunBook ∧ Dims s (s.sourceFailed o) := by
  cases o with
  | claim =>
    unfold State.sourceFailed
    dsimp only
    split
    · rename_i c hc
      have hm := settleEndedAttempt_moves (s := s) (decide (Config.attemptLimit ≤ c.attempts + 1)) hc
        (c := { c with attempts := c.attempts + 1, inFlight := false }) rfl rfl
        fun hu _ => Nat.not_le.1 (of_decide_eq_false hu)
      exact ⟨runBook_effects.moves hm h, hm.dims⟩
    · exact ⟨h, .refl s⟩
  | command => unfold State.sourceFailed; dsimp only; split <;> exact ⟨{ h with }, .of_channels rfl rfl⟩
  | report => unfold State.sourceFailed; dsimp only; split <;> exact ⟨{ h with }, .of_channels rfl rfl⟩
  | beacon => exact ⟨h, .refl s⟩
  | release n => exact ⟨h, .refl s⟩
  | renew => exact ⟨h, .refl s⟩

theorem State.RunBook.endOwnAttempt {s : State} (h : s.RunBook) (o : Offer) :
    (s.endOwnAttempt o).RunBook ∧ Dims s (s.endOwnAttempt o) := by
  have hl : (s.setLine { s.line with sendStreak := 0, courtesyGap := true }).RunBook := { h with }
  cases o with
  | release n =>
    unfold State.endOwnAttempt
    dsimp only
    split
    · rename_i hn
      exact ⟨hl.endStopping hn, (setChannelState_dims (n := n) (c := .off) nofun).trans (.of_channels rfl rfl)⟩
    · refine ⟨⟨fun k hk => ?_, h.claims⟩, .of_channels rfl rfl⟩
      change (s.line.offers.releases.set n false)[k] = true at hk
      rw [releases_set] at hk
      split at hk
      · cases hk
      · exact h.releases k hk
  | claim =>
    have hm := setInFlight_moves (s.setLine { s.line with sendStreak := 0, courtesyGap := true }) false
    exact ⟨{ runBook_effects.moves hm hl with }, .of_channels rfl rfl⟩
  | beacon => exact ⟨{ hl with }, .of_channels rfl rfl⟩
  | renew => exact ⟨{ hl with }, .of_channels rfl rfl⟩
  | command => exact ⟨{ hl with }, .of_channels rfl rfl⟩
  | report => exact ⟨{ hl with }, .of_channels rfl rfl⟩

theorem State.RunBook.afterFrame {s : State} (h : s.RunBook) (f : Frame) (part : Option Offer) :
    (s.afterFrame f part).RunBook ∧ Dims s (s.afterFrame f part) := by
  have hc : ((s.lineAccepted f).countJudgements f).RunBook ∧ Dims s ((s.lineAccepted f).countJudgements f) := by
    rw [(countJudgements_frame (s.lineAccepted f) f).1]
    exact ⟨{ h with }, .of_channels rfl rfl⟩
  unfold State.afterFrame
  cases part with
  | none => exact hc
  | some o => exact (hc.1.endOwnAttempt o).imp_right hc.2.trans

theorem State.RunInv.afterFrame {s : State} (h : s.RunInv) (ho : s.member.state.online = true) (f : Frame)
    (part : Option Offer) : (s.afterFrame f part).RunInv := by
  obtain ⟨hb, hd⟩ := h.toRunBook.afterFrame f part
  exact h.setActivity ho hb (by rw [afterFrame_activity]; nofun) hd (by rw [afterFrame_frame]) (afterFrame_member s f part)
    (by rw [afterFrame_frame])

/-- A frame's sends tell the offer of a RELEASE. -/
theorem Offer.release_of_sends {o : Offer} {k : BitVec 4} (h : o.sends k) (hk : k = kindRelease) : ∃ n, o = .release n := by
  subst hk
  cases o with
  | release n => exact ⟨n, rfl⟩
  | command => rcases h with h | h <;> cases h
  | _ => cases h

/-- A STOPPING channel is STOPPING or OFF once a frame has been accepted. -/
theorem afterFrame_stopping {s : State} (f : Frame) (part : Option Offer) {n : ChannelIx} (h : s.RunBook)
    (hn : s.channelState n = .stopping) : ((s.afterFrame f part).channelState n).isOn = false := by
  cases he : s.exempt n with
  | false => exact (h.afterFrame f part).2.off he (by rw [hn]; rfl)
  | true =>
    have hc : ((s.lineAccepted f).countJudgements f).channelState n = .stopping := by
      rw [(countJudgements_frame (s.lineAccepted f) f).1]
      exact hn
    unfold State.afterFrame
    cases part with
    | none => dsimp only; rw [hc]; rfl
    | some o =>
      dsimp only
      generalize (s.lineAccepted f).countJudgements f = t at *
      cases o with
      | release m =>
        unfold State.endOwnAttempt
        dsimp only
        split
        · rw [State.channelState_endStopping]
          split
          · rfl
          · exact congrArg ChannelState.isOn hc
        · exact congrArg ChannelState.isOn hc
      | _ => exact congrArg ChannelState.isOn hc

/-- The kind of the frame that an offer is sampled as (R150, R182). -/
theorem offerKind_sends (s : State) (o : Offer) : o.sends (s.offerClassAndKind o).2 := by
  cases o with
  | command =>
    unfold State.offerClassAndKind
    dsimp only
    cases s.commands.queue.head? with
    | none => exact .inr rfl
    | some c => cases c with
      | demand => exact .inr rfl
      | inhibit => exact .inl rfl
  | _ => rfl

theorem mem_standingOffers_release {s : State} {n : ChannelIx} (h : .release n ∈ s.standingOffers) :
    s.line.offers.releases[n] = true := by
  simp only [State.standingOffers, List.mem_append, Option.mem_toList, Option.map_eq_some_iff] at h
  rcases h with ((((h | h) | h) | h) | h) | h
  · split at h <;> simp at h
  · obtain ⟨k, hk, hkn⟩ := h
    cases hkn
    simpa using List.find?_some hk
  all_goals split at h <;> simp at h

/-- A frame that goes out is sound: the station's own, of its offer's kind, and a RELEASE for a STOPPING channel. -/
theorem beginAttempt_flightSound {s : State} {o : Offer} (h : s.RunInv) (ho : s.member.state.online = true)
    (hmem : o ∈ s.standingOffers) : (s.beginAttempt o).flightSound := by
  obtain ⟨h1, h62⟩ := h.ids (MemberState.working_of_online ho)
  intro o' f ha
  have hm : ∃ u : State, s.beginAttempt o = u.setLine
        { u.line with activity := .transmitting o (u.sampledFrame o), idleCount := 0, buffer := [] } ∧
      u.member = s.member ∧ u.ownId = s.ownId ∧ u.settings = s.settings ∧ u.channels = s.channels := by
    unfold State.beginAttempt
    dsimp only
    split <;> exact ⟨_, rfl, rfl, rfl, rfl, rfl⟩
  obtain ⟨u, hu, hmu, hid, -, hch⟩ := hm
  rw [hu] at ha ⊢
  cases ha
  refine ⟨by change u.member.state.online = true; rw [hmu]; exact ho, ?_, offerKind_sends u o, fun hk => ?_⟩
  · change (BitVec.ofNat 6 u.ownId).toNat = u.ownId
    rw [BitVec.toNat_ofNat, hid]
    exact Nat.mod_eq_of_lt (by omega)
  · obtain ⟨n, rfl⟩ := Offer.release_of_sends (offerKind_sends u o) hk
    refine ⟨n, rfl, ?_⟩
    change u.channelState n = .stopping
    unfold State.channelState State.channel
    rw [hch]
    exact h.releases n (mem_standingOffers_release hmem)

/-- The running invariant is kept by every operation of a step. -/
theorem runInv_keeps : Keeps State.RunInv where
  pending _ _ h := { h with }
  releases _ _ h _ := { h with }
  starts s _ h hp := { h with starts := fun _ => h.starts (by rw [hp]; nofun) }
  waits _ _ h _ _ := { h with }
  waitEnds s h hp := by
    have hl := h.starts (by rw [hp]; nofun)
    exact { h with
      law := fun _ => h.law (by rw [hl]; nofun), dark := nofun, rests := fun _ => h.rests hl, ids := nofun
      flight := fun o f ha => by
        have := (h.flight o f ha).1
        rw [hl] at this
        cases this
      starts := fun hn => absurd rfl hn }
  loads _ _ h _ _ := { h with }
  readEnds s image h hl := by
    obtain ⟨hp, hm⟩ := State.isLoading_state hl
    have hoff := h.rests hm
    have starts {t : State} (hpt : t.phase = s.phase) : t.startsInLoading := fun hn => absurd (hpt.trans hp) hn
    rcases endRead_cases s image with ⟨failure, -, he⟩ | ⟨outcome, he⟩ | ⟨c, hc, he⟩ <;> rw [he]
    · exact { h with }
    · exact
        { releases := fun n hn => by
            change OfferSet.empty.releases[n] = true at hn
            simp [OfferSet.empty] at hn
          claims := h.claims, law := fun hn => absurd rfl hn, dark := nofun, rests := .of_ne nofun
          flight := flightSound_of_activity nofun, ids := nofun, starts := starts rfl }
    · have hun : ((s.readChecked .sound .idle).takeImage c).unpowered := fun n _ => by
        change (s.channelState n).isOn = false
        rw [hoff n]; rfl
      obtain ⟨h1, h2, -⟩ := readSettings_ranges hc
      exact .of_online { h.toRunBook with } (flightSound_of_activity nofun) hun.powered (fun _ => hun) rfl ⟨h1, h2⟩
        (starts rfl)
  quiet s a n b g h ho ha :=
    h.setActivity ho { h.toRunBook with } (by rintro o f hx; rcases ha with rfl | rfl | rfl <;> cases hx)
      (.of_channels rfl rfl) rfl rfl rfl
  records _ h _ := { h with }
  begins s o h ho hmem := by
    have hf := beginAttempt_flightSound h ho hmem
    have hr : s.recordSof.RunInv := { h with }
    have hm : (if o = .claim then s.recordSof.setInFlight true else s.recordSof).RunInv := by
      split
      · exact hr.moves (MemberState.working_of_online ho) (setInFlight_moves _ true)
      · exact hr
    exact { hm with flight := hf }
  counts _ _ h _ := { h with }
  fails s o f a b h ho _ ha := by
    have hb : (s.attemptFailed a b).RunInv :=
      h.setActivity ho { h.toRunBook with } (by rintro o f hx; rcases ha with rfl | rfl <;> cases hx)
        (.of_channels rfl rfl) rfl rfl rfl
    obtain ⟨hf, hd⟩ := hb.toRunBook.sourceFailed o
    have hfr := sourceFailed_frame (s.attemptFailed a b) o
    have hmem : ((s.attemptFailed a b).sourceFailed o).member = s.member := by rw [hfr]; rfl
    have hstand : ((s.attemptFailed a b).sourceFailed o).RunInv :=
      hb.setActivity ho hf
        (by rw [hfr]; rintro o f hx; change a = _ at hx; rcases ha with rfl | rfl <;> cases hx) hd (by rw [hfr])
        (by rw [hmem]; rfl) (by rw [hfr])
    have ho' : ((s.attemptFailed a b).sourceFailed o).member.state.online = true := by rw [hmem]; exact ho
    rcases failAttempt_cases s o a b with ⟨-, he⟩ | ⟨-, he⟩ <;> rw [he]
    · exact hstand
    · exact .enterMute hf ho' (hstand.ids (MemberState.working_of_online ho')) hstand.starts _
  vetoes s b h ho := by
    have hb : (s.vetoCast b).RunInv :=
      h.setActivity ho { h.toRunBook with } nofun (.of_channels rfl rfl) rfl rfl rfl
    rcases castVeto_cases s b with ⟨-, he⟩ | ⟨-, he⟩ <;> rw [he]
    · exact hb
    · exact .enterMute hb.toRunBook ho (hb.ids (MemberState.working_of_online ho)) hb.starts _
  accepts s f part h hp := h.afterFrame hp.1 f part
  halts s f h ho _ _ :=
    { releases := fun n hn => by
        change OfferSet.empty.releases[n] = true at hn
        simp [OfferSet.empty] at hn
      claims := h.claims, law := fun hn => absurd rfl hn, dark := nofun, rests := .of_ne nofun
      flight := flightSound_of_activity nofun, ids := nofun, starts := h.starts.of_online ho rfl }
  move s t h hw hm := h.moves hw hm.moves
  masks s m h hw := State.RunInv.moves (s := s.setMasks m) { h with } hw (changeMasks_moves s m)
  beacon s b sender own h ho ha := by
    have hb := runBook_effects.beaconSettled b sender own (by simp [State.drivesLine, ha]) ho h.toRunBook
    obtain ⟨hp, hu⟩ := beaconSettled_power b sender own ho (h.powered_of_working (MemberState.working_of_online ho))
      (h.unpowered_of_online ho)
    obtain ⟨hc, hph, -⟩ := beaconSettled_table s b sender own
    have hact : (s.beaconSettled b sender own).line.activity = .counting := by
      have := beaconSettled_work s b sender own
      rw [← this]
      exact ha
    refine .of_online hb (flightSound_of_activity (by rw [hact]; nofun)) hp hu (beaconSettled_online b sender own ho) ?_
      (h.starts.of_online ho hph)
    have hid : (s.beaconSettled b sender own).ownId = s.ownId := congrArg Settings.stationId hc
    rw [hid]
    exact h.ids (MemberState.working_of_online ho)
  claim s f part c u d h hp _ _ _ := by
    have ha := h.afterFrame hp.1 f part
    have hact := afterFrame_activity s f part
    have hmem := afterFrame_member s f part
    have hown : part.isSome = true → f.source.toNat = (s.afterFrame f part).ownId := by
      intro hs
      obtain ⟨o, rfl⟩ := Option.isSome_iff_exists.1 hs
      rw [(h.toRunBook.afterFrame f _).2.ownId]
      exact (h.flight o f hp.2).2.1
    have ho : (s.afterFrame f part).member.state.online = true := by rw [hmem]; exact hp.1
    generalize s.afterFrame f part = a at *
    obtain ⟨t, n, hwork, -⟩ := applyClaim_frame f.source.toNat (Class.ofBits f.cls) c u d part.isSome a
    have hpow := applyClaim_powered (Class.ofBits f.cls) c u d hown (ha.powered_of_working (MemberState.working_of_online ho))
    refine .of_online (runBook_effects.applyClaim _ _ c u d _ ha.toRunBook)
      (flightSound_of_activity (by rw [hwork.activity]; change ∀ o f, a.line.activity ≠ _; rw [hact]; nofun)) hpow ?_
      (by rw [hwork.member]; exact ho) (by rw [hwork.ownId]; exact ha.ids (MemberState.working_of_online ho))
      (ha.starts.of_eq hwork.phase (by rw [hwork.member]; rfl))
    rw [hwork.member]
    intro hs
    rcases applyClaim_cases f.source.toNat (Class.ofBits f.cls) c u d part.isSome a with ⟨-, he⟩ | ⟨hsy, -, -⟩
    · rw [he]
      exact ha.unpowered_of_online ho hs
    · exact absurd hsy hs
  release s f part c h hp hn _ hk hc := by
    have ha := h.afterFrame hp.1 f part
    have hact := afterFrame_activity s f part
    have hmem := afterFrame_member s f part
    have hown : f.source.toNat = (s.afterFrame f part).ownId → ((s.afterFrame f part).channelState c).isOn = false := by
      rw [(h.toRunBook.afterFrame f part).2.ownId]
      intro hs
      cases part with
      | none => exact absurd hs (hn rfl)
      | some o =>
        obtain ⟨m, hpay, hst⟩ := (h.flight o f hp.2).2.2.2 hk
        rw [hc m hpay]
        exact afterFrame_stopping f _ h.toRunBook hst
    have ho : (s.afterFrame f part).member.state.online = true := by rw [hmem]; exact hp.1
    generalize s.afterFrame f part = a at *
    obtain ⟨hpow, hun⟩ := applyRelease_power part.isSome hown (ha.powered_of_working (MemberState.working_of_online ho))
      (ha.unpowered_of_online ho)
    have hw : ∃ t, ClaimWork (a.setTable t) (State.applyRelease f.source.toNat c part.isSome a) := by
      rcases applyRelease_work f.source.toNat c part.isSome a with hw | hw
      · exact ⟨a.table, hw⟩
      · exact ⟨_, hw⟩
    obtain ⟨t, hwork⟩ := hw
    refine .of_online (runBook_effects.applyRelease _ c _ ha.toRunBook)
      (flightSound_of_activity (by rw [hwork.activity]; change ∀ o f, a.line.activity ≠ _; rw [hact]; nofun)) hpow
      (fun hs => hun (by rw [hwork.member] at hs; exact hs)) (by rw [hwork.member]; exact ho)
      (by rw [hwork.ownId]; exact ha.ids (MemberState.working_of_online ho))
      (ha.starts.of_eq hwork.phase (by rw [hwork.member]; rfl))
  renew s source payload own h ho _ _ := by
    rw [applyRenew_eq]
    have ht : (s.setTable (s.renewedTable source payload)).RunInv := by
      by_cases hs : s.member.state = .synced
      · refine { h with law := fun _ n he hn => ?_ }
        obtain hr := h.powered_of_working (MemberState.working_of_online ho) n he hn
        change holdsIn s.ownId n (s.renewedTable source payload)
        unfold State.renewedTable
        rw [if_pos hs]
        generalize usableEntries payload = l
        generalize s.table = t at hr
        induction l generalizing t with
        | nil => exact hr
        | cons e l ih => exact ih _ (hr.renewMatching e)
      · exact { h with law := fun _ => State.unpowered.powered (h.unpowered_of_online ho hs) }
    exact ht.moves (MemberState.working_of_online ho) (judge_moves _)
  query s target flags own h _ := by
    unfold State.applyQuery
    split
    · exact { h with }
    · exact h
  beaconTimer _ _ h _ := { h with }
  beaconOffer _ h _ := { h with }
  muteCounts _ _ h _ := { h with }
  muteEnds s h hm := by
    have hu := h.dark (.inr hm)
    exact .of_online { h.toRunBook with } (flightSound_of_activity nofun) (State.unpowered.powered hu) (fun _ => hu) rfl
      (h.ids (by rw [hm]; rfl)) (h.starts.of_phase (by rw [hm]; nofun) rfl)
  counted s h hw := by
    have hk (k : ChannelIx) := (s.channel k).counted_state
    have hd : Dims s { s with channels := s.channels.map Channel.counted } :=
      ⟨rfl, fun n _ hn => by rw [State.channelState_counted, (hk n).2.2.2.1] at hn; exact hn⟩
    exact
      { releases := fun n hn => by rw [State.channelState_counted, (hk n).2.2.1]; exact h.releases n hn
        claims := fun n hn => by rw [State.channelState_counted, (hk n).1]; exact h.claims n hn
        law := fun _ => hd.powered rfl (h.powered_of_working hw)
        dark := fun hm => hd.unpowered (h.dark hm)
        rests := .of_working hw
        flight := fun o f ha => by
          obtain ⟨h1, h2, h3, h4⟩ := h.flight o f ha
          refine ⟨h1, h2, h3, fun hk' => ?_⟩
          obtain ⟨n, hp, hn⟩ := h4 hk'
          exact ⟨n, hp, by rw [State.channelState_counted, (hk n).2.2.1]; exact hn⟩
        ids := h.ids
        starts := h.starts }
  pin _ _ _ h := { h with }
  input _ _ _ h _ := { h with }
  raises s c h _ := by
    unfold State.raiseCommand
    repeat' split
    all_goals exact { h with }
  blink _ _ h _ _ := { h with }
  phases _ _ h _ := { h with }
  divides _ _ _ h _ _ := { h with }

/-- Settles O5: every operation of a step keeps the running invariant. -/
theorem stepKeepsChannelsUnderHoldings : Obligations.StepKeepsChannelsUnderHoldings := by
  intro s t hs h
  rw [runInv_iff] at *
  refine runInv_keeps.step_untimed (fun _ _ h => { h with }) (fun _ _ h => { h with }) (fun _ _ h => { h with })
    (fun _ h => { h with }) (fun s k t _ h => ?_) hs h
  have off := channelState_of_resetOnset h
  have dark : t.unpowered := fun n _ => congrArg ChannelState.isOn (off n)
  cases h
  exact
    { releases := fun n hn => by
        change OfferSet.empty.releases[n] = true at hn
        simp [OfferSet.empty] at hn
      claims := nofun
      law := fun _ => State.unpowered.powered dark
      dark := nofun
      rests := fun _ => off
      flight := flightSound_of_activity nofun
      ids := nofun
      starts := fun _ => rfl }

end Sys2Proof.Machine
end

section
/-! PROOFS. The queue of commands is the step's alone (O1, O2), the machine right after reset meets every invariant (O3),
and what the rules say of a reset, of the bare line, of an offer that no limit ends, of a station off the line, of a
QUERY, of raising a command and of the outputs (O17, O18, O24, O28, O34, O53, O56, O60). -/

namespace Sys2Proof.Machine

/-! ## The queue of commands -/

/-- Settles O1. -/
theorem stepRunsFrontCommand : Obligations.StepRunsFrontCommand := fun _ _ _ => rfl

/-- The commands that wait are these. -/
def State.waiting (q : List Instr) (s : State) : Prop := s.pending = q

namespace State.waiting

variable {q : List Instr} {s t : State}

theorem beaconWork (h : s.waiting q) (hw : BeaconWork s t) : t.waiting q := by rw [← hw]; exact h

theorem claimWork (h : s.waiting q) (hw : ClaimWork s t) : t.waiting q := h.beaconWork hw.beaconWork

theorem enterMute (h : s.waiting q) (f : FaultSet) : (s.enterMute f).waiting q :=
  claimWork (s := s.muted f) h (enterMute_work s f)

theorem endRead (h : s.waiting q) (image : List Byte) : (s.endRead image).waiting q := by rw [← endRead_frame]; exact h

theorem afterFrame (h : s.waiting q) (f : Frame) (part : Option Offer) : (s.afterFrame f part).waiting q := by
  rw [afterFrame_frame]; exact h

theorem failAttempt (h : s.waiting q) (o : Offer) (a : LineActivity) (b : List Bool) :
    (s.failAttempt o a b).waiting q := by
  have hf : ((s.attemptFailed a b).sourceFailed o).waiting q := by rw [sourceFailed_frame]; exact h
  rcases failAttempt_cases s o a b with ⟨-, he⟩ | ⟨-, he⟩ <;> rw [he]
  · exact hf
  · exact hf.enterMute _

theorem castVeto (h : s.waiting q) (b : List Bool) : (s.castVeto b).waiting q := by
  rcases castVeto_cases s b with ⟨-, he⟩ | ⟨-, he⟩ <;> rw [he]
  · exact h
  · exact enterMute (s := s.vetoCast b) h _

theorem applyClaim (h : s.waiting q) (source : Nat) (cls : Class) (c : ChannelIx) (units : Nat) (d own : Bool) :
    (State.applyClaim source cls c units d own s).waiting q := by
  obtain ⟨t, n, hw, -⟩ := applyClaim_frame source cls c units d own s
  exact claimWork (s := (s.setTable t).setCounters _) h hw

theorem applyRelease (h : s.waiting q) (source : Nat) (c : ChannelIx) (own : Bool) :
    (State.applyRelease source c own s).waiting q := by
  rcases applyRelease_work source c own s with hw | hw
  · exact h.claimWork hw
  · exact claimWork (s := s.setTable (s.releasedTable source c).1) h hw

theorem applyRenew (h : s.waiting q) (source : Nat) (payload : List Byte) (own : Bool) :
    (State.applyRenew source payload own s).waiting q := by
  rw [applyRenew_eq]
  exact claimWork (s := s.setTable (s.renewedTable source payload)) h (judge_work _)

theorem applyQuery (h : s.waiting q) (target flags : Byte) (own : Bool) :
    (State.applyQuery target flags own s).waiting q := by
  unfold State.applyQuery
  split
  · exact h
  · exact h

theorem beginAttempt (h : s.waiting q) (o : Offer) : (s.beginAttempt o).waiting q := by
  unfold State.beginAttempt
  dsimp only
  split
  · exact h
  · exact h

theorem runAction (h : s.waiting q) (a : ScheduleAction) : (s.runAction a).waiting q :=
  h.beaconWork (runAction_work s a).beaconWork

theorem keeps (q : List Instr) : KeepsEvents (State.waiting q) where
  releases _ _ h _ := h
  starts _ _ h _ := h
  waits _ _ h _ _ := h
  waitEnds _ h _ := h
  loads _ _ h _ _ := h
  readEnds _ image h _ := h.endRead image
  quiet _ _ _ _ _ h _ _ := h
  records _ h _ := h
  begins _ o h _ _ := h.beginAttempt o
  counts _ _ h _ := h
  fails _ o _ a b h _ _ _ := h.failAttempt o a b
  vetoes _ b h _ := h.castVeto b
  accepts _ f part h _ := h.afterFrame f part
  halts _ _ h _ _ _ := h
  move _ _ h _ hm := h.claimWork hm.work
  masks _ m h _ := h.beaconWork (changeMasks_work _ m).beaconWork
  beacon _ b sender own h _ _ := h.beaconWork (beaconSettled_work _ b sender own)
  claim _ f part _ _ _ h _ _ _ _ := (h.afterFrame f part).applyClaim _ _ _ _ _ _
  release _ f part _ h _ _ _ _ _ := (h.afterFrame f part).applyRelease _ _ _
  renew _ source payload own h _ _ _ := h.applyRenew source payload own
  query _ target flags own h _ := h.applyQuery target flags own
  beaconTimer _ _ h _ := h
  beaconOffer _ h _ := h
  muteCounts _ _ h _ := h
  muteEnds _ h _ := h
  counted _ h _ := h
  pin _ _ _ h := h
  input _ _ _ h _ := h
  raises s c h _ := by rw [raiseCommand_frame]; exact h
  blink _ _ h _ _ := h
  phases _ _ h _ := h
  divides _ _ _ h _ _ := h

end State.waiting

/-- Settles O2: no operation a command is made of writes the queue of commands. -/
theorem execLeavesTheQueue : Obligations.ExecLeavesTheQueue := by
  intro c s t h
  by_cases hc : ∃ k, c = .resetOnset k
  · obtain ⟨k, rfl⟩ := hc
    cases h
    rfl
  · exact (State.waiting.keeps s.pending).exec (fun _ => id)
      (fun u v restart hu _ => adjustTime_keeps (P := State.waiting s.pending) (fun _ a hs => hs.runAction a)
        (fun _ _ hs => hs) (fun _ _ hs => hs) (fun _ _ hs => hs) (fun _ hs => hs) v restart hu)
      (fun u hu _ => fractionStep_keeps (P := State.waiting s.pending) (fun _ a hs => hs.runAction a)
        (fun _ _ hs => hs) (fun _ _ hs => hs) (fun _ _ hs => hs) hu)
      (fun k hk => hc ⟨k, hk⟩) (rfl : s.waiting s.pending) h

/-! ## Right after reset -/

theorem channelState_reset (n : ChannelIx) : State.reset.channelState n = .off := by
  simp [State.reset, State.channelState, State.channel]

theorem releases_reset (n : ChannelIx) : State.reset.line.offers.releases[n] = false := by
  simp [State.reset, LineInterface.reset, OfferSet.empty]

theorem startsInLoading_reset : State.reset.startsInLoading := fun _ => rfl

theorem restsInLoading_reset : State.reset.restsInLoading := fun _ => channelState_reset

theorem claimsOneChannel_reset : State.reset.claimsOneChannel := by
  intro n
  rw [channelState_reset]
  exact ⟨nofun, fun ⟨_, h, _⟩ => nomatch h⟩

/-- Settles O3: after reset the table, the queues and the offers are empty, every channel is OFF, and the counts are 0. -/
theorem resetMeetsEveryInvariant : Obligations.ResetMeetsEveryInvariant := by
  refine ⟨⟨⟨.nil, by decide, by decide, by decide, nofun⟩, fun _ => rfl, nofun, startsInLoading_reset⟩, ?running,
    ⟨fun n _ => .inl (channelState_reset n), restsInLoading_reset, startsInLoading_reset⟩, ?queue, ?offers, ?bounds,
    ⟨by decide, by decide, nofun, fun _ => rfl, rfl, nofun, startsInLoading_reset⟩⟩
  case running =>
    refine ⟨fun n _ hn => ?_, restsInLoading_reset, nofun, fun n hn => ?_, nofun, nofun, nofun, startsInLoading_reset⟩
    · rw [channelState_reset] at hn; cases hn
    · rw [releases_reset] at hn; cases hn
  case queue =>
    exact ⟨.nil, .nil, nofun, .nil, nofun, by decide, claimsOneChannel_reset, nofun, restsInLoading_reset,
      startsInLoading_reset⟩
  case offers =>
    exact ⟨fun _ => ⟨rfl, rfl⟩, nofun, fun _ => rfl, nofun, fun n _ => .inl (channelState_reset n),
      claimsOneChannel_reset, restsInLoading_reset, startsInLoading_reset⟩
  case bounds =>
    exact ⟨by simp [Counters.bounded, State.reset, ReportUnit.reset, Counters.zero], by decide, nofun, by decide,
      by decide, by decide, by decide, nofun, nofun, nofun, by decide,
      by decide, nofun, by decide, nofun, nofun, by decide, nofun, startsInLoading_reset⟩

/-! ## The bare line -/

/-- Settles O17: at each of the four rates a '0' pulse lasts past the sample point and a '1' pulse does not. -/
theorem lineReadsTheWiredAnd : Obligations.LineReadsTheWiredAnd := by
  refine ⟨by decide, by decide, by decide, by decide, fun rate sent hr => ?_⟩
  have hbit : ∀ bit, drivesDominant (lineTiming rate) bit (lineTiming rate).samplePoint = !bit := by
    revert rate
    decide
  unfold sampledBit lineBit
  simp only [hbit]
  induction sent with
  | nil => rfl
  | cons bit sent ih => rw [List.any_cons, List.all_cons, Bool.not_or, ih, Bool.not_not]; rfl

/-- Settles O24. -/
theorem listeningToTheLine : Obligations.ListeningToTheLine := by
  intro s ho
  have hp : s.part = s.line.activity := if_pos ho
  refine ⟨fun ha => ?_, fun ha => ?_⟩ <;> rw [ha] at hp
  · unfold exec execLineIdle execLineDominantBeforeIdle
    rw [hp]
    exact ⟨rfl, rfl⟩
  · unfold exec execCourtesyGapEnd execStartOfFrame
    rw [hp]
    refine ⟨fun hg => ?_, rfl⟩
    dsimp only
    rw [if_pos hg]
    rfl

/-! ## The ends of an own attempt -/

theorem part_of_online {s : State} {a : LineActivity} (ho : s.member.state.online = true) (ha : s.line.activity = a) :
    s.part = a := (if_pos ho).trans ha

theorem exec_attemptAborted {s : State} {o : Offer} {f : Frame} {bit : Nat} (ho : s.member.state.online = true)
    (ha : s.line.activity = .transmitting o f) (hb : f.abortsAt bit = true) :
    exec (.attemptAborted bit) s = .next (s.failAttempt o .receiving (f.readUpTo bit)) := by
  unfold exec execAttemptAborted
  rw [part_of_online ho ha]
  exact congrArg _ (if_pos hb)

/-- A veto of an own frame counted (R201). -/
def State.vetoSuffered (s : State) : State :=
  s.setCounters { s.report.counters with ownVetoed := raised s.report.counters.ownVetoed 1 }

theorem exec_frameVetoed_own {s : State} {o : Offer} {f : Frame} (read : List Bool)
    (ho : s.member.state.online = true) (ha : s.line.activity = .transmitting o f) :
    exec (.frameVetoed read) s = .next (s.vetoSuffered.failAttempt o .counting (f.bits ++ [false])) := by
  unfold exec execFrameVetoed
  rw [part_of_online ho ha]
  rfl

/-- Settles O28: the sources of these offers do nothing at a failed attempt. -/
theorem failedAttemptKeepsUnlimitedOffers : Obligations.FailedAttemptKeepsUnlimitedOffers := by
  intro s o f ho ha hkind hlimit
  have failed (t : State) (a : LineActivity) (b : List Bool) (ht : t.line.sendStreak = s.line.sendStreak) :
      t.failAttempt o a b = t.attemptFailed a b := by
    rcases failAttempt_cases t o a b with ⟨-, he⟩ | ⟨hn, -⟩
    · rw [he]
      rcases hkind with rfl | rfl | ⟨n, rfl⟩ <;> rfl
    · omega
  refine ⟨fun bit hb => ?_, fun read => ?_⟩
  · rw [exec_attemptAborted ho ha hb, failed s _ _ rfl]
    rfl
  · rw [exec_frameVetoed_own read ho ha, failed s.vetoSuffered _ _ rfl]
    rfl

/-! ## Resets -/

/-- The reset values, whatever the queue, the input lines and the level on DI, in reset or in the start wait. -/
theorem atReset_of_reset (q : List Instr) (p : Phase) (h : HeldResets) (pins : Vector Bool 8) (d : Bool)
    (hp : p ≠ .running) :
    State.atReset { State.reset with pending := q, phase := p, heldResets := h, pins := pins, dataIn := d } := by
  refine ⟨rfl, rfl, rfl, rfl, rfl, rfl, rfl, rfl, rfl, fun n => ?_, rfl, rfl, rfl, rfl, rfl, fun n => ?_, rfl, rfl, rfl,
    rfl, rfl, rfl, rfl, rfl, rfl, rfl, fun n => if_neg fun hn => hp hn.1, if_neg hp, rfl, rfl⟩
  · simp [State.reset, State.channel]
  · simp [State.reset]

/-- Settles O18. -/
theorem resetsReturnEveryBlock : Obligations.ResetsReturnEveryBlock := by
  refine ⟨atReset_of_reset [] .startWait _ _ _ nofun,
    fun k s => ⟨_, rfl, atReset_of_reset _ _ _ _ _ nofun, rfl, rfl, rfl⟩, fun k s hp hh => ⟨fun hl => ?_, fun hl => ?_⟩⟩
  all_goals simp [exec, execResetEnd, hp, hh, hl]

/-! ## Accepted frames -/

/-- An acceptance command is the acceptance of its frame, with the effects of its kind. -/
theorem exec_of_acceptedFrame {c : Instr} {f : Frame} (h : acceptedFrame c = some f) :
    ∃ effects, ∀ s, exec c s = .next (s.acceptFrame f effects) := by
  cases c <;> cases h <;> exact ⟨_, fun _ => rfl⟩

/-- Settles O34. -/
theorem framesPassAnOfflineStation : Obligations.FramesPassAnOfflineStation := by
  intro c f s hc ho
  obtain ⟨effects, he⟩ := exec_of_acceptedFrame hc
  rw [he, acceptFrame_offline f effects ho]

/-- Settles O53. -/
theorem queryIsAnswered : Obligations.QueryIsAnswered := by
  intro head p s f line hh hp
  have he : exec (.queryAccepted head p) s = .next (State.applyQuery p[0] p[1] false (s.lineAccepted f)) :=
    congrArg Host.Outcome.next (acceptFrame_hears _ hh hp (show kindQuery.toNat < 9 by decide))
  have hl : s.lineAccepted f = { s with line := line } := rfl
  rw [he, hl]
  refine ⟨fun hn => ?_, fun hn => ?_⟩
  · rw [State.applyQuery, if_neg (by exact hn)]
  · rw [State.applyQuery, if_pos (by exact hn)]
    rfl

/-! ## Commands and outputs -/

/-- Settles O56. -/
theorem commandsQueueOrDrop : Obligations.CommandsQueueOrDrop := by
  refine ⟨fun k s => ⟨_, rfl, rfl⟩, fun s c => ⟨fun ho hl => ?_, fun ho hl => ?_, fun hm => ?_⟩⟩
  · have hm : s.member.state ≠ .mute := by intro hm; rw [hm] at ho; cases ho
    have he : s.raiseCommand c =
        (s.setCommands
          { queue := s.commands.queue ++ [c]
            headAttempts := if s.commands.queue = [] then 0 else s.commands.headAttempts }).setOffers
          { s.line.offers with command := true } := by
      rw [State.raiseCommand, if_neg hm, if_pos ho, if_pos (by exact hl)]
    rw [he]
    exact ⟨rfl, fun hq => if_pos hq, rfl⟩
  · have hm : s.member.state ≠ .mute := by intro hm; rw [hm] at ho; cases ho
    rw [State.raiseCommand, if_neg hm, if_pos ho, if_neg (Nat.not_lt.2 hl)]
    rfl
  · rw [State.raiseCommand, if_pos hm]
    rfl

theorem outputActive_iff (s : State) (n : ChannelIx) :
    s.outputActive n = true ↔
      s.phase = .running ∧ s.imageTaken = true ∧ (s.channelState n).isOn = true ∧ s.member.state ≠ .halted := by
  simp [State.outputActive, and_assoc]

/-- The level on an output, from whether it is active (R93). -/
theorem outputLevel_eq (s : State) (n : ChannelIx) :
    s.outputLevel n =
      if s.phase = .running ∧ s.imageTaken = true then
        if s.outputActive n != (s.channelSettings n).activeLow then .high else .low
      else .undriven := by
  unfold State.outputLevel State.outputActive
  split
  · rename_i h
    simp [h.1, h.2]
  · rfl

/-- Settles O60: the running invariant says what a budgeted ON channel has. -/
theorem outputsFollowTheState : Obligations.OutputsFollowTheState := by
  intro s n hinv
  obtain ⟨hlaw, -, hdark, -⟩ := hinv
  refine ⟨fun ha => ?_, fun ha he => ?_, fun ha => ?_, fun hp hi ha => ?_, fun hu => ?_⟩
  · obtain ⟨-, -, hon, hm⟩ := (outputActive_iff s n).1 ha
    exact ⟨hon, hm⟩
  · obtain ⟨-, -, hon, hm⟩ := (outputActive_iff s n).1 ha
    refine ⟨(hlaw n he hon).resolve_left hm, fun hmute => ?_⟩
    rw [hdark (.inr hmute) n he] at hon
    cases hon
  · obtain ⟨hp, hi, -, -⟩ := (outputActive_iff s n).1 ha
    rw [outputLevel_eq, if_pos ⟨hp, hi⟩, ha]
    cases (s.channelSettings n).activeLow <;> rfl
  · rw [outputLevel_eq, if_pos ⟨hp, hi⟩, ha]
    cases (s.channelSettings n).activeLow <;> rfl
  · rw [outputLevel_eq, if_neg]
    rintro ⟨hp, hi⟩
    rcases hu with hu | hu
    · exact hu hp
    · rw [hu] at hi; cases hi

end Sys2Proof.Machine
end

section
/-! PROOFS. The formats: a field's bits spell the field (O13), a receiver reads of a BEACON and a RENEW what was put in
(O14), and every frame the station samples is correct (O16). -/

namespace Sys2Proof.Machine

/-! ## Fields and their bits -/

theorem length_bitsMsb {w : Nat} (x : BitVec w) : (bitsMsb x).length = w := by simp [bitsMsb]

/-- The first k bits of a field spell its value without the bits below them. -/
theorem natOfBits_take_bitsMsb {w : Nat} (x : BitVec w) (k : Nat) (hk : k ≤ w) :
    natOfBits ((List.range k).map x.getMsbD) = x.toNat / 2 ^ (w - k) := by
  induction k with
  | zero => simp [natOfBits, Nat.div_eq_of_lt x.isLt]
  | succ k ih =>
    have hbit : (x.getMsbD k).toNat = x.toNat / 2 ^ (w - (k + 1)) % 2 := by
      have hw : w - 1 - k = w - (k + 1) := by omega
      rw [BitVec.getMsbD_eq_getLsbD, hw, BitVec.getLsbD, Nat.testBit_eq_decide_div_mod_eq, decide_eq_true (by omega : k < w),
        Bool.true_and]
      rcases Nat.mod_two_eq_zero_or_one (x.toNat / 2 ^ (w - (k + 1))) with h | h <;> rw [h] <;> rfl
    have hdiv : x.toNat / 2 ^ (w - k) = x.toNat / 2 ^ (w - (k + 1)) / 2 := by
      rw [Nat.div_div_eq_div_mul, ← Nat.pow_succ]
      congr 2
      omega
    have hsplit : natOfBits ((List.range (k + 1)).map x.getMsbD) =
        2 * natOfBits ((List.range k).map x.getMsbD) + (x.getMsbD k).toNat := by
      simp [natOfBits, List.range_succ]
    rw [hsplit, ih (by omega), hbit, hdiv]
    omega

theorem natOfBits_bitsMsb {w : Nat} (x : BitVec w) : natOfBits (bitsMsb x) = x.toNat := by
  have h := natOfBits_take_bitsMsb x w le_rfl
  rwa [Nat.sub_self, Nat.pow_zero, Nat.div_one] at h

/-- A field is read back from its place. -/
theorem fieldAt_append {w : Nat} (x : BitVec w) {pos : Nat} {front : List Bool} (rest : List Bool)
    (h : front.length = pos) : fieldAt w pos (front ++ (bitsMsb x ++ rest)) = x := by
  have htake : (bitsMsb x ++ rest).take w = bitsMsb x := List.take_left' (length_bitsMsb x)
  rw [fieldAt, List.drop_left' h, htake, natOfBits_bitsMsb, BitVec.ofNat_toNat, BitVec.setWidth_eq]

theorem length_flatMap_bitsMsb (bytes : List Byte) : (bytes.flatMap bitsMsb).length = 8 * bytes.length := by
  induction bytes with
  | nil => rfl
  | cons b bytes ih => rw [List.flatMap_cons, List.length_append, length_bitsMsb, ih, List.length_cons]; omega

/-- Bytes are read back one by one from their places. -/
theorem fieldAt_bytes (bytes : List Byte) (front rest : List Bool) {pos : Nat} (h : front.length = pos) :
    ((List.range bytes.length).map fun i => fieldAt 8 (pos + 8 * i) (front ++ (bytes.flatMap bitsMsb ++ rest))) =
      bytes := by
  induction bytes generalizing front pos with
  | nil => rfl
  | cons b bytes ih =>
    have hrest := ih (front := front ++ bitsMsb b) (pos := pos + 8) (by rw [List.length_append, length_bitsMsb, h])
    rw [List.length_cons, List.range_succ_eq_map, List.map_cons, List.flatMap_cons, List.append_assoc]
    refine congrArg₂ _ (fieldAt_append b _ h) ?_
    rw [List.map_map, ← List.append_assoc front]
    refine Eq.trans (List.map_congr_left fun i _ => ?_) hrest
    have hpos : pos + 8 * (i + 1) = pos + 8 + 8 * i := by omega
    simp only [Function.comp_apply, Nat.succ_eq_add_one, hpos]

theorem RawFrame.length_bits (f : RawFrame) : f.bits.length = 41 + 8 * f.payload.length := by
  simp only [RawFrame.bits, RawFrame.coveredBits, List.length_append, length_bitsMsb, length_flatMap_bitsMsb]
  omega

/-- Settles O13: every field is read from the place it was put. -/
theorem frameBitsRoundTrip : Obligations.FrameBitsRoundTrip := by
  intro f hlen
  have hbits : f.bits =
      bitsMsb f.cls ++ (bitsMsb f.kind ++ (bitsMsb f.source ++ (bitsMsb f.length ++
        (f.payload.flatMap bitsMsb ++ (bitsMsb f.tag ++ (bitsMsb f.check ++ [])))))) := by
    simp only [RawFrame.bits, RawFrame.coveredBits, List.append_assoc, List.append_nil]
  have hcls : fieldAt 2 0 f.bits = f.cls := by rw [hbits]; exact fieldAt_append (front := []) f.cls _ rfl
  have hkind : fieldAt 4 2 f.bits = f.kind := by rw [hbits]; exact fieldAt_append f.kind _ (length_bitsMsb _)
  have hsource : fieldAt 6 6 f.bits = f.source := by
    rw [hbits, ← List.append_assoc]
    exact fieldAt_append f.source _ (by simp [length_bitsMsb])
  have hlength : fieldAt 5 12 f.bits = f.length := by
    rw [hbits, ← List.append_assoc, ← List.append_assoc]
    exact fieldAt_append f.length _ (by simp [length_bitsMsb])
  have hpayload : ((List.range f.payload.length).map fun i => fieldAt 8 (17 + 8 * i) f.bits) = f.payload := by
    rw [hbits, ← List.append_assoc, ← List.append_assoc, ← List.append_assoc]
    exact fieldAt_bytes f.payload _ _ (by simp [length_bitsMsb])
  have htag : fieldAt 8 (17 + 8 * f.payload.length) f.bits = f.tag := by
    rw [hbits, ← List.append_assoc, ← List.append_assoc, ← List.append_assoc, ← List.append_assoc]
    refine fieldAt_append f.tag _ ?_
    simp only [List.length_append, length_bitsMsb, length_flatMap_bitsMsb]
  have hcheck : fieldAt 16 (25 + 8 * f.payload.length) f.bits = f.check := by
    rw [hbits, ← List.append_assoc, ← List.append_assoc, ← List.append_assoc, ← List.append_assoc, ← List.append_assoc]
    refine fieldAt_append f.check _ ?_
    simp only [List.length_append, length_bitsMsb, length_flatMap_bitsMsb]
    omega
  unfold RawFrame.ofBits
  simp only [hlength, ← hlen]
  rw [if_pos f.length_bits, hcls, hkind, hsource, hpayload, htag, hcheck]

/-! ## Payloads -/

theorem word16_bytes16 (w : BitVec 16) : word16 (w.extractLsb' 8 8) (w.extractLsb' 0 8) = w := by
  apply BitVec.eq_of_toNat_eq
  rw [word16_toNat]
  simp only [BitVec.extractLsb'_toNat, Nat.shiftRight_eq_div_pow]
  omega

theorem byteOf_toNat {n : Nat} (h : n ≤ 255) : (byteOf n).toNat = n := by
  rw [byteOf, BitVec.toNat_ofNat]
  omega

theorem daysInMonth_le (year month : Nat) : daysInMonth year month ≤ 31 := by
  unfold daysInMonth
  repeat' split
  all_goals decide

/-- The calendar bytes of a value in range are read back as that value. -/
theorem calendarOfBytes_calendarBytes {v : CalendarValue} (h : v.inRange = true) :
    calendarOfBytes (byteOf (v.year - 2000)) (byteOf v.month) (byteOf v.day) (byteOf v.hour) (byteOf v.minute)
      (byteOf v.second) (byteOf v.fraction) = v := by
  obtain ⟨h1, h2, h3, h4, h5, h6, h7, h8, h9, h10⟩ := v.inRange_iff.1 h
  have hday := daysInMonth_le v.year v.month
  unfold calendarOfBytes
  rw [byteOf_toNat (by omega), byteOf_toNat (by omega), byteOf_toNat (by omega), byteOf_toNat (by omega),
    byteOf_toNat (by omega), byteOf_toNat (by omega), byteOf_toNat (by omega), Nat.add_sub_cancel' h1]

/-- A RENEW entry is read back from its two bytes. -/
theorem renewEntryOf_bytes (e : RenewEntry) (h : e.units ≤ 255) :
    renewEntryOf (byteOf (32 * e.channel.val + 8 * e.cls.number + 4 * e.pending.toNat)) (byteOf e.units) = e := by
  obtain ⟨c, p, b, u⟩ := e
  have hfirst : ∀ (c : ChannelIx) (p : Class) (b : Bool),
      let first := byteOf (32 * c.val + 8 * p.number + 4 * b.toNat)
      channelHigh first = c ∧ Class.ofBits (first.extractLsb' 3 2) = p ∧ first.getLsbD 2 = b := by
    intro c p b
    cases p <;> revert b <;> revert c <;> decide
  obtain ⟨h1, h2, h3⟩ := hfirst c p b
  unfold renewEntryOf
  rw [h1, h2, h3, byteOf_toNat h]

/-- The first byte of a RENEW entry has its reserved bits clear. -/
theorem renewEntry_reserved (e : RenewEntry) :
    (byteOf (32 * e.channel.val + 8 * e.cls.number + 4 * e.pending.toNat)).getLsbD 0 = false ∧
      (byteOf (32 * e.channel.val + 8 * e.cls.number + 4 * e.pending.toNat)).getLsbD 1 = false := by
  have hfirst : ∀ (c : ChannelIx) (p : Class) (b : Bool),
      (byteOf (32 * c.val + 8 * p.number + 4 * b.toNat)).getLsbD 0 = false ∧
        (byteOf (32 * c.val + 8 * p.number + 4 * b.toNat)).getLsbD 1 = false := by
    intro c p b
    cases p <;> revert b <;> revert c <;> decide
  exact hfirst e.channel e.cls e.pending

theorem renewReservedSet_flatMap (es : List RenewEntry) : renewReservedSet (es.flatMap renewEntryBytes) = false := by
  induction es with
  | nil => rfl
  | cons e es ih =>
    obtain ⟨h0, h1⟩ := renewEntry_reserved e
    rw [List.flatMap_cons]
    change ((_ || _) || renewReservedSet (es.flatMap renewEntryBytes)) = false
    rw [ih, h0, h1]
    rfl

theorem renewEntries_flatMap (es : List RenewEntry) (h : ∀ e ∈ es, e.units ≤ 255) :
    renewEntries (es.flatMap renewEntryBytes) = es := by
  induction es with
  | nil => rfl
  | cons e es ih =>
    rw [List.flatMap_cons]
    exact congrArg₂ _ (renewEntryOf_bytes e (h e List.mem_cons_self))
      (ih fun x hx => h x (List.mem_cons_of_mem e hx))

/-- The flags byte of a BEACON carries its three flags. -/
theorem beaconFlags (v a p : Bool) :
    (byteOf (v.toNat + 2 * a.toNat + 4 * p.toNat)).getLsbD 0 = v ∧
      (byteOf (v.toNat + 2 * a.toNat + 4 * p.toNat)).getLsbD 1 = a ∧
      (byteOf (v.toNat + 2 * a.toNat + 4 * p.toNat)).getLsbD 2 = p := by
  revert v a p
  decide

/-- What a receiver reads of a BEACON's bytes, the bytes as its sender put them. -/
theorem beaconFields_of_payload {b : BeaconFields} {p : Vector Byte 14} (hp : p.toList = beaconPayload b) :
    beaconFields p =
      { epoch := b.epoch, timeValid := b.timeValid, authoritative := b.authoritative
        digest :=
          { count := (byteOf b.digest.count).toNat, units := (byteOf b.digest.units).toNat
            shedding := (byteOf b.digest.shedding).toNat, pending := b.digest.pending }
        mask := b.mask
        time :=
          if b.timeValid then
            calendarOfBytes (byteOf (b.time.year - 2000)) (byteOf b.time.month) (byteOf b.time.day)
              (byteOf b.time.hour) (byteOf b.time.minute) (byteOf b.time.second) (byteOf b.time.fraction)
          else calendarOfBytes 0 0 0 0 0 0 0 } := by
  have hbyte : ∀ (i : Nat) (hi : i < 14), p[i] = (beaconPayload b).getD i 0 := by
    intro i hi
    rw [← hp]
    simp [List.getD, hi]
  obtain ⟨hv, ha, hd⟩ := beaconFlags b.timeValid b.authoritative b.digest.pending
  have hw := word16_bytes16 b.epoch
  cases ht : b.timeValid <;> rw [ht] at hv ha hd <;>
    simp only [beaconFields, hbyte, beaconPayload, ht, bytes16, calendarBytes, List.replicate, if_true,
      Bool.false_eq_true, if_false, List.cons_append, List.nil_append, List.getD_cons_zero, List.getD_cons_succ, hv, ha,
      hd, hw]

/-- Settles O14. -/
theorem payloadsRoundTrip : Obligations.PayloadsRoundTrip := by
  refine ⟨fun b p hp hcount hunits hshedding => ?_, fun es he => ⟨renewEntries_flatMap es he, renewReservedSet_flatMap es⟩⟩
  rw [beaconFields_of_payload hp, byteOf_toNat hcount, byteOf_toNat hunits, byteOf_toNat hshedding]
  refine ⟨rfl, rfl, rfl, rfl, rfl, fun ht hr => ?_⟩
  dsimp only
  rw [if_pos ht, calendarOfBytes_calendarBytes hr]

/-! ## The frames the station samples -/

/-- A table in order holds at most one record of one holder for each channel, so at most eight of them. -/
theorem length_ownReserved_le {t : List Holding} (h : tableOrdered t) (id : Nat) : (ownReserved id t).length ≤ 8 := by
  have hnodup : ((ownReserved id t).map Holding.channel).Nodup := by
    rw [List.Nodup, List.pairwise_map]
    refine (h.filter _).imp_of_mem ?_
    intro a b ha hb hab hc
    have hha := (List.mem_filter.1 ha).2
    have hhb := (List.mem_filter.1 hb).2
    simp only [Bool.and_eq_true, beq_iff_eq] at hha hhb
    simp [Holding.before, hha.1, hhb.1, hc] at hab
  have := hnodup.length_le_card
  simpa using this

theorem length_flatMap_pair {α : Type} (f : α → List Byte) (l : List α) (hf : ∀ a ∈ l, (f a).length = 2) :
    (l.flatMap f).length = 2 * l.length := by
  induction l with
  | nil => rfl
  | cons a l ih =>
    rw [List.flatMap_cons, List.length_append, hf a List.mem_cons_self,
      ih fun x hx => hf x (List.mem_cons_of_mem a hx), List.length_cons]
    omega

/-- The length of a sampled payload is one its kind allows, and a RENEW's reserved bits are clear. -/
def Frame.wellSized (f : Frame) : Prop :=
  f.payload.length ≤ 20 ∧ allowedLength f.kind f.payload.length = true ∧
    (f.kind == kindRenew && renewReservedSet f.payload) = false

theorem sampledFrame_renew_wellSized {s : State} (h : tableOrdered s.table) (hne : ownReserved s.ownId s.table ≠ []) :
    (s.sampledFrame .renew).wellSized := by
  have hlen : (s.offerPayload .renew).length = 2 * (ownReserved s.ownId s.table).length :=
    length_flatMap_pair _ _ fun _ _ => rfl
  have hle := length_ownReserved_le h s.ownId
  have hpos := List.length_pos_of_ne_nil hne
  have hbits : renewReservedSet (s.offerPayload .renew) = false := by
    have he : s.offerPayload .renew = ((ownReserved s.ownId s.table).map Holding.renewEntry).flatMap renewEntryBytes := by
      rw [List.flatMap_map]; rfl
    rw [he]
    exact renewReservedSet_flatMap _
  refine ⟨?_, ?_, ?_⟩
  · change (s.offerPayload .renew).length ≤ 20
    omega
  · change ((s.offerPayload .renew).length % 2 == 0 && decide (2 ≤ (s.offerPayload .renew).length) &&
      decide ((s.offerPayload .renew).length ≤ 16)) = true
    simp only [Bool.and_eq_true, beq_iff_eq, decide_eq_true_eq]
    omega
  · change (_ && renewReservedSet (s.offerPayload .renew)) = false
    rw [hbits, Bool.and_false]

theorem wellSized_of {f : Frame} {k : BitVec 4} {n : Nat} (hk : f.kind = k) (hn : f.payload.length = n)
    (h : n ≤ 20 ∧ allowedLength k n = true ∧ (k == kindRenew) = false) : f.wellSized := by
  refine ⟨hn ▸ h.1, ?_, ?_⟩
  · rw [hk, hn]; exact h.2.1
  · rw [hk, h.2.2, Bool.false_and]

theorem length_beaconPayload (b : BeaconFields) : (beaconPayload b).length = 14 := by
  unfold beaconPayload
  split <;> rfl

theorem sampledFrame_command_wellSized {s : State} {c : Command} {rest : List Command}
    (h : s.commands.queue = c :: rest) : (s.sampledFrame .command).wellSized := by
  have hk : s.offerClassAndKind .command = c.classAndKind := by simp [State.offerClassAndKind, h]
  have hp : s.offerPayload .command = c.payload := by simp [State.offerPayload, h]
  unfold State.sampledFrame State.ownFrame
  rw [hk, hp]
  cases c with
  | demand target place action cls duration => exact wellSized_of (k := kindDemand) (n := 5) rfl rfl (by decide)
  | inhibit setMask clearMask => exact wellSized_of (k := kindInhibit) (n := 2) rfl rfl (by decide)

/-! ## The offers that compete -/

/-- In an ascending list the first that satisfies a test is the least that does. -/
theorem find?_eq_some_of_sorted {l : List ChannelIx} (h : l.Pairwise (· < ·)) (p : ChannelIx → Bool) (n : ChannelIx) :
    l.find? p = some n ↔ n ∈ l ∧ p n = true ∧ ∀ m ∈ l, m < n → p m = false := by
  induction l with
  | nil => simp
  | cons x l ih =>
    obtain ⟨hx, hl⟩ := List.pairwise_cons.1 h
    rw [List.find?_cons]
    cases hp : p x with
    | true =>
      simp only [Option.some.injEq, List.mem_cons]
      constructor
      · rintro rfl
        refine ⟨.inl rfl, hp, fun m hm hlt => ?_⟩
        rcases hm with rfl | hm
        · exact absurd hlt (lt_irrefl _)
        · exact absurd (hx m hm) (lt_asymm hlt)
      · rintro ⟨hn | hn, -, hall⟩
        · exact hn.symm
        · rw [hall x (.inl rfl) (hx n hn)] at hp
          cases hp
    | false =>
      simp only [ih hl, List.mem_cons]
      constructor
      · rintro ⟨hn, hpn, hall⟩
        refine ⟨.inr hn, hpn, fun m hm hlt => ?_⟩
        rcases hm with rfl | hm
        · exact hp
        · exact hall m hm hlt
      · rintro ⟨rfl | hn, hpn, hall⟩
        · rw [hp] at hpn; cases hpn
        · exact ⟨hn, hpn, fun m hm hlt => hall m (.inr hm) hlt⟩

theorem allEight_sorted : allEight.Pairwise (· < ·) := by decide

/-- What makes an offer one of those that compete (R181, R182). -/
def State.offers (s : State) (o : Offer) : Prop :=
  match o with
  | .beacon => s.line.offers.beacon = true
  | .release n => s.line.offers.releases[n] = true ∧ ∀ m : ChannelIx, m < n → s.line.offers.releases[m] = false
  | .claim => s.line.offers.claim = true ∧ s.claims.outstanding ≠ none
  | .renew => s.line.offers.renew = true
  | .command => s.line.offers.command = true ∧ s.commands.queue ≠ []
  | .report => s.line.offers.report = true

theorem mem_standingOffers (s : State) (o : Offer) : o ∈ s.standingOffers ↔ s.offers o := by
  have hrelease : ∀ n, (∃ k, allEight.find? (fun n => s.line.offers.releases[n]) = some k ∧ Offer.release k = .release n) ↔
      s.offers (.release n) := by
    intro n
    simp only [Offer.release.injEq, exists_eq_right]
    rw [find?_eq_some_of_sorted allEight_sorted]
    simp [State.offers, mem_allEight]
  have hone : ∀ (b : Bool) (x : Offer), o ∈ (if b = true then [x] else []) ↔ b = true ∧ o = x := by
    intro b x; cases b <;> simp
  simp only [State.standingOffers, List.mem_append, Option.mem_toList, Option.map_eq_some_iff, hone]
  cases o with
  | release n => simp [← hrelease]
  | beacon => simp [State.offers]
  | claim => simp [State.offers, Option.isSome_iff_ne_none]
  | renew => simp [State.offers]
  | command => simp [State.offers]
  | report => simp [State.offers]

/-- Settles O16. -/
theorem ownFramesAreCorrect : Obligations.OwnFramesAreCorrect := by
  intro s o hinv ho hrenew
  rw [mem_standingOffers] at ho
  have hsized : (s.sampledFrame o).wellSized := by
    cases o with
    | beacon => exact wellSized_of (k := kindBeacon) rfl (length_beaconPayload _) (by decide)
    | release n => exact wellSized_of (k := kindRelease) (n := 1) rfl rfl (by decide)
    | claim =>
      obtain ⟨c, hc⟩ := Option.ne_none_iff_exists'.1 ho.2
      have hp : (s.offerPayload .claim).length = 2 := by simp [State.offerPayload, hc, claimPayload]
      exact wellSized_of (k := kindClaim) rfl hp (by decide)
    | renew => exact sampledFrame_renew_wellSized hinv.1.1 (hrenew rfl)
    | command =>
      obtain ⟨c, rest, hq⟩ := List.exists_cons_of_ne_nil ho.2
      exact sampledFrame_command_wellSized hq
    | report => exact wellSized_of (k := kindReport) (n := 19) rfl rfl (by decide)
  obtain ⟨hlen, hallowed, hreserved⟩ := hsized
  rw [Frame.raw_defective _ hlen, hallowed, hreserved]
  rfl

end Sys2Proof.Machine
end

section
/-! PROOFS. An own start (O25): the chosen offer stands and has the lowest arbitration value, and its frame carries what
its source holds. -/

namespace Sys2Proof.Machine

/-! ## The choice -/

/-- The best of a choice so far and a list of offers is one of them, and none of them is better. -/
theorem foldl_betterOffer (s : State) (l : List Offer) (best : Option Offer) {o : Offer}
    (h : l.foldl s.betterOffer best = some o) :
    (∀ b, best = some b → s.offerValue o ≤ s.offerValue b) ∧ ∀ o' ∈ l, s.offerValue o ≤ s.offerValue o' := by
  induction l generalizing best with
  | nil =>
    obtain rfl : best = some o := h
    exact ⟨fun b hb => by cases hb; exact le_rfl, nofun⟩
  | cons x l ih =>
    obtain ⟨hbest, hl⟩ := ih (s.betterOffer best x) h
    have hx : s.offerValue o ≤ s.offerValue x ∧ ∀ b, best = some b → s.offerValue o ≤ s.offerValue b := by
      unfold State.betterOffer at hbest
      cases best with
      | none => exact ⟨hbest x rfl, nofun⟩
      | some b =>
        dsimp only at hbest
        split at hbest
        · rename_i hlt
          have := hbest x rfl
          exact ⟨this, fun b' hb => by cases hb; omega⟩
        · rename_i hlt
          have := hbest b rfl
          exact ⟨by omega, fun b' hb => by cases hb; exact this⟩
    refine ⟨hx.2, fun o' ho' => ?_⟩
    rcases List.mem_cons.1 ho' with rfl | ho'
    · exact hx.1
    · exact hl o' ho'

theorem chosenOffer_le {s : State} {o o' : Offer} (h : s.chosenOffer = some o) (ho : o' ∈ s.standingOffers) :
    s.offerValue o ≤ s.offerValue o' := (foldl_betterOffer s _ none h).2 o' ho

theorem foldl_betterOffer_isSome (s : State) (l : List Offer) (b : Offer) :
    ∃ o, l.foldl s.betterOffer (some b) = some o := by
  induction l generalizing b with
  | nil => exact ⟨b, rfl⟩
  | cons x l ih =>
    have : ∃ y, s.betterOffer (some b) x = some y := by
      unfold State.betterOffer
      dsimp only
      split
      · exact ⟨x, rfl⟩
      · exact ⟨b, rfl⟩
    obtain ⟨y, hy⟩ := this
    rw [List.foldl_cons, hy]
    exact ih y

theorem chosenOffer_of_ne_nil {s : State} (h : s.standingOffers ≠ []) : ∃ o, s.chosenOffer = some o := by
  obtain ⟨x, l, hl⟩ := List.exists_cons_of_ne_nil h
  unfold State.chosenOffer
  rw [hl]
  exact foldl_betterOffer_isSome s l x

/-! ## What the frame carries -/

theorem bytes16_ofNat (w : BitVec 16) : bytes16 w = [w.toNat / 256, w.toNat % 256].map (BitVec.ofNat 8) := by
  have hhigh : w.extractLsb' 8 8 = BitVec.ofNat 8 (w.toNat / 256) := by
    apply BitVec.eq_of_toNat_eq
    simp [BitVec.extractLsb'_toNat, Nat.shiftRight_eq_div_pow]
  have hlow : w.extractLsb' 0 8 = BitVec.ofNat 8 (w.toNat % 256) := by
    apply BitVec.eq_of_toNat_eq
    simp [BitVec.extractLsb'_toNat]
  rw [bytes16, hhigh, hlow]
  rfl

theorem reserved_eq_decide (r : Holding) : r.reserved = decide (r.state ≠ .shedding) := by
  cases h : r.state <;> simp [Holding.reserved, h]

theorem reservedCount_eq (t : List Holding) : reservedCount t = t.countP fun r => decide (r.state ≠ .shedding) := by
  rw [reservedCount, ← List.countP_eq_length_filter]
  exact congrArg (List.countP · t) (funext reserved_eq_decide)

theorem reservedUnits_eq (t : List Holding) :
    reservedUnits t = ((t.filter fun r => decide (r.state ≠ .shedding)).map Holding.units).sum := by
  have : Holding.reserved = fun r => decide (r.state ≠ .shedding) := funext reserved_eq_decide
  rw [reservedUnits, unitsWhere, this]

theorem sheddingCount_eq (t : List Holding) : sheddingCount t = t.countP fun r => decide (r.state = .shedding) := by
  rw [sheddingCount, ← List.countP_eq_length_filter]
  refine congrArg (List.countP · t) (funext fun r => ?_)
  cases h : r.state <;> simp

theorem toNat_of_iff {b : Bool} {p : Prop} [Decidable p] (h : b = true ↔ p) : b.toNat = if p then 1 else 0 := by
  by_cases hp : p
  · rw [if_pos hp, h.2 hp]; rfl
  · rw [if_neg hp, Bool.eq_false_iff.2 fun hb => hp (h.1 hb)]; rfl

/-- The BEACON's payload (R58, R111, R155). -/
theorem sampled_beacon (s : State) : s.samplesBeacon (s.offerPayload .beacon) := by
  have hepoch : (s.member.epoch + 1).toNat = (s.member.epoch.toNat + 1) % 65536 := BitVec.toNat_add _ _
  have hflags : s.calendar.sofValid.toNat + 2 * (s.member.state == .synced).toNat + 4 * (pendingPresent s.table).toNat =
      (if s.calendar.sofValid then 1 else 0) + (if s.member.state = .synced then 2 else 0) +
        (if ∃ r ∈ s.table, r.state = .pending then 4 else 0) := by
    rw [toNat_of_iff (pendingPresent_iff s.table), toNat_of_iff (p := s.member.state = .synced) beq_iff_eq]
    cases s.calendar.sofValid <;> split <;> split <;> rfl
  unfold State.samplesBeacon State.offerPayload State.beaconNow beaconPayload tableDigest
  dsimp only
  rw [bytes16_ofNat, hepoch, reservedCount_eq, reservedUnits_eq, sheddingCount_eq, hflags]
  cases s.calendar.sofValid <;> simp [calendarBytes, byteOf]

theorem fits_iff {s : State} (h : reservedUnits s.table ≤ s.settings.budget) (n : ChannelIx) :
    s.fits n = true ↔ s.fitsR43 n := by
  rw [State.fits, Bool.and_eq_true, decide_eq_true_iff, decide_eq_true_iff, freeUnits, Nat.le_sub_iff_add_le h]
  rfl

theorem mayDisplaceWith_iff (s : State) (n : ChannelIx) (c : Class) : s.mayDisplaceWith n c = true ↔ s.displacesR43 n c := by
  simp only [State.mayDisplaceWith, State.displacesR43, Bool.and_eq_true, Bool.not_eq_true', decide_eq_true_eq,
    pendingPresent_eq_false, beq_iff_eq, and_assoc]

/-- The CLAIM's payload (R46, R156). -/
theorem sampled_claim {s : State} (h : reservedUnits s.table ≤ s.settings.budget) {c : OutstandingClaim}
    (hc : s.claims.outstanding = some c) : s.samplesClaim c (s.offerPayload .claim) := by
  have hdisplace : (!s.fits c.channel && s.mayDisplaceWith c.channel c.cls) = true ↔
      ¬ s.fitsR43 c.channel ∧ s.displacesR43 c.channel c.cls := by
    rw [Bool.and_eq_true, mayDisplaceWith_iff, Bool.not_eq_true', ← Bool.not_eq_true, fits_iff h]
  have hp : s.offerPayload .claim =
      claimPayload c.channel (s.weight c.channel) (!s.fits c.channel && s.mayDisplaceWith c.channel c.cls) := by
    simp only [State.offerPayload, hc]
  unfold State.samplesClaim
  rw [hp]
  refine ⟨fun hd => ?_, fun hd => ?_⟩
  · rw [hdisplace.2 hd]; rfl
  · rw [Bool.eq_false_iff.2 fun hb => hd (hdisplace.1 hb)]
    simp [claimPayload, byteOf]

/-- The RENEW's payload (R72, R157). -/
theorem sampled_renew {s : State} (h : tableOrdered s.table) : s.samplesRenew (s.offerPayload .renew) := by
  have hown : (s.table.filter fun r => decide (r.holder = s.ownId ∧ r.state ≠ .shedding)) = ownReserved s.ownId s.table := by
    refine congrArg (List.filter · s.table) (funext fun r => ?_)
    rw [reserved_eq_decide, Bool.decide_and]
    congr 1
  unfold State.samplesRenew
  dsimp only
  rw [hown]
  constructor
  · refine (h.filter _).imp_of_mem ?_
    intro a b ha hb hab
    have hha := (List.mem_filter.1 ha).2
    have hhb := (List.mem_filter.1 hb).2
    simp only [Bool.and_eq_true, beq_iff_eq] at hha hhb
    simpa [Holding.before, hha.1, hhb.1] using hab
  · change ((ownReserved s.ownId s.table).flatMap fun r => renewEntryBytes r.renewEntry) = _
    rw [List.map_flatMap]
    refine congrArg (List.flatMap · _) (funext fun r => ?_)
    have hpending : 4 * (r.state == .pending).toNat = if r.state = .pending then 4 else 0 := by
      rw [toNat_of_iff (p := r.state = .pending) beq_iff_eq]
      split <;> rfl
    unfold renewEntryBytes Holding.renewEntry
    dsimp only
    rw [hpending]
    rfl

/-- A command's frame (R138, R158, R159). -/
theorem sampled_command {s : State} {c : Command} {rest : List Command} (h : s.commands.queue = c :: rest) :
    c.sampledAs (s.sampledFrame .command) := by
  have hk : s.offerClassAndKind .command = c.classAndKind := by simp [State.offerClassAndKind, h]
  have hp : s.offerPayload .command = c.payload := by simp [State.offerPayload, h]
  unfold State.sampledFrame State.ownFrame
  rw [hk, hp]
  cases c with
  | demand target place action cls duration =>
    have hbytes (n : Nat) : bytes16 (BitVec.ofNat 16 n) = [n % 65536 / 256, n % 256].map (BitVec.ofNat 8) := by
      rw [bytes16_ofNat, BitVec.toNat_ofNat]
      norm_num
    refine ⟨rfl, ?_, ?_⟩
    · cases cls <;> rfl
    · cases action <;> simp only [Command.payload, demandPayload, hbytes] <;> rfl
  | inhibit setMask clearMask => exact ⟨rfl, rfl, rfl⟩

theorem channelCode_eq (s : State) (n : ChannelIx) : s.channelCode n = s.reportedChannel n := by
  have hentry : (s.entryOf n).isSome = true ↔ ∃ e ∈ s.claims.queue, e.channel = n := by
    simp [State.entryOf]
  unfold State.channelCode State.reportedChannel
  rw [toNat_of_iff hentry]
  cases s.channelState n <;> split <;> rfl

theorem word_toNat (f : FaultSet) : f.word.toNat = f.reported := by
  have hbit : ∀ (k : Nat) (b : Bool), (if b = true then 2 ^ k else 0) = 2 ^ k * b.toNat := by
    intro k b
    cases b <;> simp
  have hle : ∀ b : Bool, b.toNat ≤ 1 := Bool.toNat_le
  have h0 := hle f.diverged
  have h1 := hle f.mutedVeto
  have h2 := hle f.mutedSend
  have h3 := hle f.profileClash
  have h4 := hle f.outQueueFull
  have h5 := hle f.joinStalled
  have h6 := hle f.timeInvalid
  have h7 := hle f.configAbsent
  have h8 := hle f.configCheck
  have h9 := hle f.configRange
  have h10 := hle f.duplicateId
  unfold FaultSet.word FaultSet.reported
  dsimp only
  rw [BitVec.toNat_ofNat]
  simp only [hbit]
  omega

/-- The REPORT's payload (R160, R204). -/
theorem sampled_report (s : State) : s.samplesReport (s.offerPayload .report) := by
  unfold State.samplesReport State.offerPayload State.reportPayload State.channelBytes Counters.bytes
  dsimp only
  rw [bytes16_ofNat, bytes16_ofNat, word_toNat, reservedCount_eq, reservedUnits_eq]
  simp only [channelCode_eq]
  cases s.member.state <;> rfl

/-- The frame of an offer carries what its source holds. -/
theorem sampledFrame_samples {s : State} (hsound : tableSound s.settings.budget s.settings.lease s.table) (o : Offer) :
    s.samples o (s.sampledFrame o) := by
  refine ⟨rfl, rfl, ?_⟩
  cases o with
  | beacon => exact ⟨rfl, rfl, sampled_beacon s⟩
  | release n => exact ⟨rfl, rfl, rfl⟩
  | claim =>
    refine ⟨rfl, fun c hc => ⟨?_, sampled_claim hsound.2.2.2.1 hc⟩⟩
    have hcls : (s.sampledFrame .claim).cls = c.cls.bits := by
      simp [State.sampledFrame, State.ownFrame, State.offerClassAndKind, hc]
    rw [hcls]
    cases c.cls <;> rfl
  | renew => exact ⟨rfl, rfl, sampled_renew hsound.1⟩
  | command => exact fun c rest hq => sampled_command hq
  | report => exact ⟨rfl, rfl, sampled_report s⟩

/-! ## The attempt -/

/-- The in-flight flag is no part of what a frame carries. -/
theorem sampledFrame_setInFlight (s : State) (flag : Bool) (o : Offer) :
    (s.setInFlight flag).sampledFrame o = s.sampledFrame o := by
  have hp : (s.setInFlight flag).offerPayload o = s.offerPayload o := by
    cases o with
    | claim =>
      unfold State.offerPayload
      cases hc : s.claims.outstanding with
      | none => simp [State.setInFlight, State.setClaims, hc]
      | some c => simp [State.setInFlight, hc]; rfl
    | _ => rfl
  have hk : (s.setInFlight flag).offerClassAndKind o = s.offerClassAndKind o := by
    cases o with
    | claim =>
      unfold State.offerClassAndKind
      cases hc : s.claims.outstanding <;> simp [State.setInFlight, State.setClaims, hc]
    | _ => rfl
  unfold State.sampledFrame
  rw [hp, hk]
  rfl

theorem beginAttempt_eq (s : State) (o : Offer) :
    s.beginAttempt o =
      { s with
        calendar := { s.calendar with
          sofPosition := fractionPosition s.calendar.value, sofValid := s.calendar.valid }
        claims := if o = .claim then
            { s.claims with outstanding := s.claims.outstanding.map fun c => { c with inFlight := true } }
          else s.claims
        line := { s.line with
          activity := .transmitting o (s.recordSof.sampledFrame o), idleCount := 0, buffer := [] } } := by
  unfold State.beginAttempt
  dsimp only
  split
  · rw [sampledFrame_setInFlight]; rfl
  · rfl

/-- An own start on the idle line, the courtesy gap complete, is a choice. -/
theorem exec_ownStart {s : State} (ho : s.member.state.online = true) (ha : s.line.activity = .idle)
    (hg : s.line.courtesyGap = false) : exec (.startOfFrame .ownStart) s = .next (s.startChosen 3) := by
  unfold exec execStartOfFrame
  rw [part_of_online ho ha]
  dsimp only
  rw [State.startOwn, hg]
  rfl

/-- Settles O25. -/
theorem ownStartSendsTheLowestOffer : Obligations.OwnStartSendsTheLowestOffer := by
  refine ⟨fun s o => mem_standingOffers s o, fun s ho ha hg => ⟨fun hn => ?_, chosenOffer_of_ne_nil, fun o hc => ?_⟩⟩
  · have hc : s.chosenOffer = none := by rw [State.chosenOffer, hn]; rfl
    rw [exec_ownStart ho ha hg, State.startChosen, hc]
  · refine ⟨chosenOffer_mem hc, fun o' ho' => chosenOffer_le hc ho', fun hw => ?_⟩
    have hstart : s.startChosen 3 = s.beginAttempt o := by rw [State.startChosen, hc]; dsimp only; rw [hw]
    rw [exec_ownStart ho ha hg, hstart, beginAttempt_eq]
    exact ⟨_, _, rfl, rfl, rfl, fun ht => sampledFrame_samples (s := s.recordSof) ht.1 o, rfl, rfl, rfl⟩

end Sys2Proof.Machine
end

section
/-! PROOFS. The judgement of the claim unit, told at once (R41 to R45): which entries are served, which one is taken up,
and what it leaves. -/

namespace Sys2Proof.Machine

/-! ## Serving -/

/-- An entry of this channel would be served (R42). -/
def State.servable (s : State) (n : ChannelIx) : Bool := s.exempt n && s.ready n && s.member.state.working

/-- The channel that serving an entry leaves (R42, R89). -/
def State.servedBy (s : State) (e : Entry) : Channel :=
  { s.channel e.channel with
    state := .switchedOn { cls := e.cls, allowance := capped (s.channelSettings e.channel).maxRun e.allowance } }

theorem serveEntry_of_servable {s : State} {e : Entry} (h : s.servable e.channel = true) :
    s.serveEntry e =
      { s with
        claims := { s.claims with queue := removeEntry e.channel s.claims.queue }
        channels := s.channels.set e.channel (s.servedBy e) } := by
  unfold State.serveEntry
  exact if_pos h

theorem serveEntry_of_not {s : State} {e : Entry} (h : s.servable e.channel = false) : s.serveEntry e = s := by
  unfold State.serveEntry
  exact if_neg (by rw [State.servable] at h; rw [h]; decide)

theorem State.ready_iff (s : State) (n : ChannelIx) :
    s.ready n = true ↔ s.channelState n = .off ∧ s.inhibited n = false ∧ (s.channel n).rest = 0 := by
  unfold State.ready
  cases s.channelState n <;> simp [ChannelState.isOff]

theorem State.ready_congr {s t : State} {n : ChannelIx} (hc : t.channel n = s.channel n)
    (hi : t.inhibited n = s.inhibited n) : t.ready n = s.ready n := by
  unfold State.ready State.channelState
  rw [hc, hi]

theorem channel_serveEntry (s : State) (e : Entry) (n : ChannelIx) :
    (s.serveEntry e).channel n = if n = e.channel ∧ s.servable n = true then s.servedBy e else s.channel n := by
  cases h : s.servable e.channel with
  | false =>
    rw [serveEntry_of_not h, if_neg]
    rintro ⟨rfl, hn⟩
    rw [h] at hn
    cases hn
  | true =>
    rw [serveEntry_of_servable h]
    by_cases hn : n = e.channel
    · subst hn
      rw [if_pos ⟨rfl, h⟩]
      exact State.channel_setChannel_self s _ _
    · rw [if_neg fun hc => hn hc.1]
      exact State.channel_setChannel_ne s _ _ _ hn

theorem servable_serveEntry (s : State) (e : Entry) (n : ChannelIx) :
    (s.serveEntry e).servable n = (s.servable n && !(n == e.channel)) := by
  have hw := serveEntry_work s e
  have hc := channel_serveEntry s e n
  unfold State.servable
  rw [hw.exempt, hw.member]
  by_cases hn : n = e.channel ∧ s.servable n = true
  · have hready : (s.serveEntry e).ready n = false := by
      rw [if_pos hn] at hc
      unfold State.ready State.channelState
      rw [hc]
      rfl
    rw [hready, beq_iff_eq.2 hn.1]
    simp
  · rw [if_neg hn] at hc
    rw [State.ready_congr hc (hw.inhibited n)]
    by_cases hne : n = e.channel
    · have : s.servable n = false := by simpa [hne] using hn
      unfold State.servable at this
      rw [this]
      rfl
    · rw [beq_eq_false_iff_ne.2 hne, Bool.not_false, Bool.and_true]

/-- Serving the entries of a list takes the served ones' channels out of the queue. -/
theorem foldl_serveEntry_claims (l : List Entry) (s : State) :
    (l.foldl State.serveEntry s).claims =
      { s.claims with
        queue := s.claims.queue.filter fun x => !(s.servable x.channel && l.any fun e => x.channel == e.channel) } := by
  induction l generalizing s with
  | nil => simp
  | cons e l ih =>
    have hq : (s.serveEntry e).claims =
        { s.claims with
          queue := s.claims.queue.filter fun x => !(s.servable x.channel && x.channel == e.channel) } := by
      cases h : s.servable e.channel with
      | true =>
        rw [serveEntry_of_servable h]
        refine congrArg (ClaimUnit.mk · _ _) (List.filter_congr fun x _ => ?_)
        by_cases hx : x.channel = e.channel
        · rw [hx, h]; simp
        · simp only [bne, beq_eq_false_iff_ne.2 hx, Bool.and_false, Bool.not_false]
      | false =>
        have hall : s.claims.queue.filter (fun x => !(s.servable x.channel && x.channel == e.channel)) = s.claims.queue := by
          refine List.filter_eq_self.2 fun x _ => ?_
          by_cases hx : x.channel = e.channel
          · rw [hx, h]; rfl
          · simp [hx]
        rw [serveEntry_of_not h, hall]
    rw [List.foldl_cons, ih, hq]
    refine congrArg (ClaimUnit.mk · _ _) ?_
    dsimp only
    rw [List.filter_filter]
    refine List.filter_congr fun x _ => ?_
    rw [servable_serveEntry, List.any_cons]
    cases s.servable x.channel <;> cases x.channel == e.channel <;> simp

/-- Serving the entries of a list takes each servable channel ON with its first entry. -/
theorem foldl_serveEntry_channel_eq (l : List Entry) (s : State) (n : ChannelIx) :
    (l.foldl State.serveEntry s).channel n =
      match entryIn n l with
      | some e => if s.servable n then s.servedBy e else s.channel n
      | none => s.channel n := by
  induction l generalizing s with
  | nil => rfl
  | cons e l ih =>
    rw [List.foldl_cons, ih, servable_serveEntry, channel_serveEntry]
    unfold entryIn
    rw [List.find?_cons]
    by_cases hn : n = e.channel
    · have he : (e.channel == n) = true := beq_iff_eq.2 hn.symm
      have hs : (s.servable n && !(n == e.channel)) = false := by rw [beq_iff_eq.2 hn]; simp
      rw [he, hs]
      simp only [hn, true_and, Bool.false_eq_true, if_false]
      split <;> rfl
    · have he : (e.channel == n) = false := beq_eq_false_iff_ne.2 (Ne.symm hn)
      have hs : (s.servable n && !(n == e.channel)) = s.servable n := by rw [beq_eq_false_iff_ne.2 hn]; simp
      rw [he, hs]
      simp only [hn, false_and, if_false]
      split
      · rename_i e' he'
        split
        · have hc : e'.channel = n := (mem_of_entryIn he').2
          unfold State.servedBy
          rw [channel_serveEntry, if_neg (by rw [hc]; exact fun h => hn h.1)]
          rw [show (s.serveEntry e).channelSettings = s.channelSettings by
            unfold State.channelSettings; rw [(serveEntry_work s e).settings]]
        · rfl
      · rfl

theorem serveExempt_claims (s : State) :
    s.serveExempt.claims = { s.claims with queue := s.claims.queue.filter fun x => !s.servable x.channel } := by
  unfold State.serveExempt
  rw [foldl_serveEntry_claims]
  refine congrArg (ClaimUnit.mk · _ _) (List.filter_congr fun x hx => ?_)
  have : (s.claims.queue.any fun e => x.channel == e.channel) = true := List.any_eq_true.2 ⟨x, hx, by simp⟩
  rw [this, Bool.and_true]

theorem serveExempt_channel (s : State) (n : ChannelIx) :
    s.serveExempt.channel n =
      match s.entryOf n with
      | some e => if s.servable n then s.servedBy e else s.channel n
      | none => s.channel n := foldl_serveEntry_channel_eq _ s n

theorem serveExempt_line (s : State) : s.serveExempt.line = s.line := by
  unfold State.serveExempt
  generalize s.claims.queue = l
  induction l generalizing s with
  | nil => rfl
  | cons e l ih =>
    rw [List.foldl_cons, ih]
    unfold State.serveEntry
    split <;> rfl

/-- A budgeted channel is not served. -/
theorem servable_of_budgeted {s : State} {n : ChannelIx} (h : s.exempt n = false) : s.servable n = false := by
  unfold State.servable
  rw [h]
  rfl

theorem servable_of_not_ready {s : State} {n : ChannelIx} (h : s.ready n = false) : s.servable n = false := by
  unfold State.servable
  rw [h]
  simp

theorem serveExempt_channel_of_not {s : State} {n : ChannelIx} (h : s.servable n = false) :
    s.serveExempt.channel n = s.channel n := by
  rw [serveExempt_channel]
  split
  · rw [h]; rfl
  · rfl

/-! ## Taking up -/

/-- The entry the judgement takes up, if it takes one up (R41, R43, R45). -/
def State.takes (s : State) : Option Entry :=
  if s.member.state = .synced ∧ s.claims.outstanding = none then
    s.candidate.filter fun e => s.fits e.channel || s.mayDisplaceWith e.channel e.cls
  else none

/-- The first entry that meets a test is the first that does once entries that fail it have left. -/
theorem find?_filter_of_imp {α : Type} {p q : α → Bool} (h : ∀ a, q a = true → p a = true) (l : List α) :
    (l.filter p).find? q = l.find? q := by
  induction l with
  | nil => rfl
  | cons a l ih =>
    rw [List.filter_cons]
    cases hq : q a with
    | true => rw [h a hq, if_pos rfl, List.find?_cons, List.find?_cons, hq]
    | false =>
      split
      · rw [List.find?_cons, List.find?_cons, hq, ih]
      · rw [List.find?_cons, hq, ih]

theorem serveExempt_candidate (s : State) : s.serveExempt.candidate = s.candidate := by
  have hw := serveExempt_work s
  have hq : s.serveExempt.qualifies = s.qualifies := by
    funext e
    unfold State.qualifies
    rw [hw.exempt]
    cases he : s.exempt e.channel with
    | true => rfl
    | false => rw [State.ready_congr (serveExempt_channel_of_not (servable_of_budgeted he)) (hw.inhibited _)]
  unfold State.candidate
  rw [serveExempt_claims, hq]
  refine find?_filter_of_imp (fun e he => ?_) _
  unfold State.qualifies at he
  simp only [Bool.and_eq_true, Bool.not_eq_true'] at he
  rw [servable_of_budgeted he.1.1]
  rfl

theorem serveExempt_takes (s : State) : s.serveExempt.takes = s.takes := by
  have hw := serveExempt_work s
  unfold State.takes
  rw [serveExempt_candidate, hw.member, serveExempt_claims]
  have hfits : s.serveExempt.fits = s.fits := by
    funext n
    unfold State.fits State.weight State.channelSettings
    rw [hw.settings, hw.table]
  have hmay : s.serveExempt.mayDisplaceWith = s.mayDisplaceWith := by
    funext n c
    unfold State.mayDisplaceWith State.weight State.channelSettings
    rw [hw.settings, hw.table]
  rw [hfits, hmay]

theorem offerClaim_eq (s : State) :
    s.offerClaim = match s.takes with
      | some e => s.takeUp e
      | none => s := by
  unfold State.offerClaim State.takes
  split
  · cases s.candidate with
    | none => rfl
    | some e =>
      simp only [Option.filter_some]
      cases h : (s.fits e.channel || s.mayDisplaceWith e.channel e.cls) <;> simp
  · rfl

/-- The judgement serves, and then takes up the entry that was to be taken up before. -/
theorem judge_eq (s : State) :
    s.judge = match s.takes with
      | some e => s.serveExempt.takeUp e
      | none => s.serveExempt := by
  unfold State.judge
  rw [offerClaim_eq, serveExempt_takes]

theorem takes_eq_some {s : State} {e : Entry} (h : s.takes = some e) :
    s.member.state = .synced ∧ s.claims.outstanding = none ∧ s.candidate = some e ∧
      (s.fits e.channel || s.mayDisplaceWith e.channel e.cls) = true := by
  unfold State.takes at h
  split at h
  · rename_i hs
    rw [Option.filter_eq_some_iff] at h
    exact ⟨hs.1, hs.2, h⟩
  · cases h

theorem candidate_eq_some {s : State} {e : Entry} (h : s.candidate = some e) :
    e ∈ s.claims.queue ∧ s.exempt e.channel = false ∧ s.ready e.channel = true ∧ e.hold = false := by
  have hq := List.find?_some h
  unfold State.qualifies at hq
  simp only [Bool.and_eq_true, Bool.not_eq_true'] at hq
  exact ⟨List.mem_of_find?_eq_some h, hq.1.1, hq.1.2, hq.2⟩

/-! ## What the judgement leaves -/

/-- The claim of an entry just taken up (R45). -/
def Entry.claim (e : Entry) : OutstandingClaim :=
  { channel := e.channel, cls := e.cls, allowance := e.allowance, number := e.number, attempts := 0,
    inFlight := false, stopNote := false }

theorem judge_claims (s : State) :
    s.judge.claims = match s.takes with
      | some e =>
        { s.claims with
          queue := removeEntry e.channel (s.claims.queue.filter fun x => !s.servable x.channel)
          outstanding := some e.claim }
      | none => { s.claims with queue := s.claims.queue.filter fun x => !s.servable x.channel } := by
  rw [judge_eq]
  split
  · unfold State.takeUp
    rw [serveExempt_claims]
    rfl
  · exact serveExempt_claims s

theorem judge_channel_eq (s : State) (n : ChannelIx) :
    s.judge.channel n =
      if (∃ e, s.takes = some e ∧ e.channel = n) then { s.channel n with state := .claiming }
      else s.serveExempt.channel n := by
  rw [judge_eq]
  split
  · rename_i e he
    by_cases hn : e.channel = n
    · rw [if_pos ⟨e, he, hn⟩]
      subst hn
      unfold State.takeUp State.setChannelState
      rw [State.channel_setOffers, State.channel_setChannel_self]
      obtain ⟨-, -, hc, -⟩ := takes_eq_some he
      obtain ⟨-, hex, -⟩ := candidate_eq_some hc
      have := serveExempt_channel_of_not (servable_of_budgeted hex)
      rw [← this]
      rfl
    · rw [if_neg (by rintro ⟨e', he', rfl⟩; rw [he] at he'; cases he'; exact hn rfl)]
      unfold State.takeUp State.setChannelState
      rw [State.channel_setOffers, State.channel_setChannel_ne _ _ _ _ (Ne.symm hn)]
      rfl
  · rename_i hnone
    rw [if_neg (by rintro ⟨e', he', -⟩; rw [hnone] at he'; cases he')]

theorem judge_line (s : State) :
    s.judge.line = match s.takes with
      | some _ => { s.line with offers := { s.line.offers with claim := true } }
      | none => s.line := by
  have hl := serveExempt_line s
  rw [judge_eq]
  split
  · unfold State.takeUp
    change { s.serveExempt.line with offers := { s.serveExempt.line.offers with claim := true } } = _
    rw [hl]
  · exact hl

theorem judge_releases (s : State) : s.judge.line.offers.releases = s.line.offers.releases := by
  rw [judge_line]; split <;> rfl

theorem judge_enqueueCount (s : State) : s.judge.claims.enqueueCount = s.claims.enqueueCount := by
  rw [judge_claims]; split <;> rfl

theorem judge_queue_sublist (s : State) : s.judge.claims.queue.Sublist s.claims.queue := by
  rw [judge_claims]
  split
  · exact (removeEntry_sublist _ _).trans List.filter_sublist
  · exact List.filter_sublist

/-- A claim outstanding after the judgement was so before it, or is one just taken up (R45). -/
theorem judge_outstanding_cases (s : State) :
    s.judge.claims.outstanding = s.claims.outstanding ∨
      ∃ e, s.takes = some e ∧ s.claims.outstanding = none ∧ s.judge.claims.outstanding = some e.claim := by
  rw [judge_claims]
  split
  · rename_i e he
    exact .inr ⟨e, he, (takes_eq_some he).2.1, rfl⟩
  · exact .inl rfl

/-- An entry stays unless its channel is served or it is the one taken up. -/
theorem mem_judge_queue {s : State} {x : Entry} (hx : x ∈ s.claims.queue) (hs : s.servable x.channel = false)
    (ht : ∀ e, s.takes = some e → e.channel ≠ x.channel) : x ∈ s.judge.claims.queue := by
  have hmem : x ∈ s.claims.queue.filter fun x => !s.servable x.channel :=
    List.mem_filter.2 ⟨hx, by rw [hs]; rfl⟩
  rw [judge_claims]
  split
  · rename_i e he
    exact (mem_removeEntry _ _ _).2 ⟨hmem, Ne.symm (ht e he)⟩
  · exact hmem

/-- The judgement has nothing to do with a channel that is not ready. -/
theorem takes_ne_of_not_ready {s : State} {n : ChannelIx} (h : s.ready n = false) :
    ∀ e, s.takes = some e → e.channel ≠ n := by
  rintro e he rfl
  have hr := (candidate_eq_some (takes_eq_some he).2.2.1).2.2.1
  rw [h] at hr
  cases hr

theorem judge_channel_of_not {s : State} {n : ChannelIx} (hs : s.servable n = false)
    (ht : ∀ e, s.takes = some e → e.channel ≠ n) : s.judge.channel n = s.channel n := by
  rw [judge_channel_eq, if_neg (by rintro ⟨e, he, hn⟩; exact ht e he hn), serveExempt_channel_of_not hs]

theorem entryIn_filter {n : ChannelIx} {p : ChannelIx → Bool} (h : p n = true) (q : List Entry) :
    entryIn n (q.filter fun x => p x.channel) = entryIn n q := by
  refine find?_filter_of_imp (fun e he => ?_) q
  rw [beq_iff_eq] at he
  rw [he, h]

theorem judge_entryOf_of_not {s : State} {n : ChannelIx} (hs : s.servable n = false)
    (ht : ∀ e, s.takes = some e → e.channel ≠ n) : s.judge.entryOf n = s.entryOf n := by
  have hfilter : entryIn n (s.claims.queue.filter fun x => !s.servable x.channel) = s.entryOf n :=
    entryIn_filter (p := fun k => !s.servable k) (by rw [hs]; rfl) _
  rw [State.entryOf_eq, judge_claims]
  split
  · rename_i e he
    rw [entryIn_removeEntry_ne (ht e he)]
    exact hfilter
  · exact hfilter

/-- A channel that is not ready is left, and its entry. -/
theorem judge_of_not_ready {s : State} {n : ChannelIx} (h : s.ready n = false) :
    s.judge.channel n = s.channel n ∧ s.judge.entryOf n = s.entryOf n :=
  ⟨judge_channel_of_not (servable_of_not_ready h) (takes_ne_of_not_ready h),
    judge_entryOf_of_not (servable_of_not_ready h) (takes_ne_of_not_ready h)⟩

theorem takes_ne_of_no_entry {s : State} {n : ChannelIx} (h : s.entryOf n = none) :
    ∀ e, s.takes = some e → e.channel ≠ n := fun e he =>
  entryIn_eq_none.1 h e (candidate_eq_some (takes_eq_some he).2.2.1).1

/-- A channel without an entry is left, and gets none. -/
theorem judge_of_no_entry {s : State} {n : ChannelIx} (h : s.entryOf n = none) :
    s.judge.channel n = s.channel n ∧ s.judge.entryOf n = none := by
  constructor
  · rw [judge_channel_eq, if_neg (by rintro ⟨e, he, hn⟩; exact takes_ne_of_no_entry h e he hn), serveExempt_channel, h]
  · rw [State.entryOf_eq, entryIn_eq_none] at *
    exact fun e he => h e ((judge_queue_sublist s).subset he)

/-! ## Judging twice, and off work -/

theorem servable_of_judge {s : State} {n : ChannelIx} (h : s.judge.servable n = true) : s.servable n = true := by
  by_contra hs
  rw [Bool.not_eq_true] at hs
  have hw := judge_work s
  have hready : s.judge.ready n = true := by
    unfold State.servable at h
    simp only [Bool.and_eq_true] at h
    exact h.1.2
  have hc : s.judge.channel n = s.channel n := by
    rw [judge_channel_eq] at *
    split
    · rename_i ht
      have hoff := ((s.judge.ready_iff n).1 hready).1
      rw [State.channelState, judge_channel_eq, if_pos ht] at hoff
      cases hoff
    · exact serveExempt_channel_of_not hs
  unfold State.servable at h hs
  rw [hw.exempt, hw.member, State.ready_congr hc (hw.inhibited n), hs] at h
  cases h

theorem serveExempt_of_not {s : State} (h : ∀ e ∈ s.claims.queue, s.servable e.channel = false) : s.serveExempt = s := by
  unfold State.serveExempt
  generalize s.claims.queue = l at h
  induction l with
  | nil => rfl
  | cons e l ih =>
    rw [List.foldl_cons, serveEntry_of_not (h e List.mem_cons_self)]
    exact ih fun x hx => h x (List.mem_cons_of_mem e hx)

theorem judge_takes (s : State) : s.judge.takes = none := by
  cases ht : s.judge.takes with
  | none => rfl
  | some e =>
    obtain ⟨-, ho, -⟩ := takes_eq_some ht
    cases hs : s.takes with
    | none =>
      have he : s.judge = s.serveExempt := by rw [judge_eq, hs]
      rw [he, serveExempt_takes, hs] at ht
      cases ht
    | some x =>
      rw [judge_claims, hs] at ho
      cases ho

/-- Nothing is left to serve or to take up once the claim unit has judged (R44). -/
theorem judge_judge (s : State) : s.judge.judge = s.judge := by
  rw [judge_eq s.judge, judge_takes]
  refine serveExempt_of_not fun e he => ?_
  by_contra hs
  rw [Bool.not_eq_false] at hs
  have hq : e ∈ s.claims.queue.filter fun x => !s.servable x.channel := by
    rw [judge_claims] at he
    split at he
    · exact ((mem_removeEntry _ _ _).1 he).1
    · exact he
  have := (List.mem_filter.1 hq).2
  rw [servable_of_judge hs] at this
  cases this

/-- Nothing is judged in LOADING and HALTED. -/
theorem judge_of_not_working {s : State} (h : s.member.state.working = false) : s.judge = s := by
  have ht : s.takes = none := by
    unfold State.takes
    rw [if_neg]
    rintro ⟨hs, -⟩
    rw [hs] at h
    cases h
  rw [judge_eq, ht]
  refine serveExempt_of_not fun e _ => ?_
  unfold State.servable
  rw [h, Bool.and_false]

/-- What the judgement can change (R42, R45). -/
theorem judge_frame (s : State) :
    s.judge = { s with
      claims := { s.claims with queue := s.judge.claims.queue, outstanding := s.judge.claims.outstanding }
      channels := s.judge.channels
      line := { s.line with offers := { s.line.offers with claim := s.judge.line.offers.claim } } } := by
  have hw : s.judge = { s with
      claims := s.judge.claims, channels := s.judge.channels, line := { s.line with offers := s.judge.line.offers } } :=
    (judge_work s).symm
  have hc : s.judge.claims =
      { s.claims with queue := s.judge.claims.queue, outstanding := s.judge.claims.outstanding } := by
    rw [judge_claims]; split <;> rfl
  have hl : s.judge.line.offers = { s.line.offers with claim := s.judge.line.offers.claim } := by
    rw [judge_line]; split <;> rfl
  rw [hc, hl] at hw
  exact hw

end Sys2Proof.Machine
end

section
/-! PROOFS. The outstanding claim's ends without acceptance: a failed re-check (O26), lost arbitration (O27), and a failed
attempt (O29). -/

namespace Sys2Proof.Machine

/-! ## The claim's channel and entry -/

namespace State.QueueCore

variable {s : State} {c : OutstandingClaim}

theorem claim_channel (h : s.QueueCore) (hc : s.claims.outstanding = some c) : s.channelState c.channel = .claiming :=
  (h.claims c.channel).2 (State.claimed_eq_some.2 ⟨c, hc, rfl⟩)

theorem claim_budgeted (h : s.QueueCore) (hc : s.claims.outstanding = some c) : s.exempt c.channel = false :=
  h.budgeted c.channel (State.claimed_eq_some.2 ⟨c, hc, rfl⟩)

/-- The claim's channel has no entry (R33, R45). -/
theorem claim_entry (h : s.QueueCore) (hc : s.claims.outstanding = some c) : s.entryOf c.channel = none := by
  rw [State.entryOf_eq, entryIn_eq_none]
  intro e he hn
  have := h.waits e he
  rw [hn, h.claim_channel hc] at this
  cases this

end State.QueueCore

/-! ## Dropped -/

theorem dropClaim_channel (s : State) (c : OutstandingClaim) (n : ChannelIx) :
    (s.dropClaim c).channel n = if n = c.channel then { s.channel n with state := .off } else s.channel n := by
  unfold State.dropClaim State.setChannelState
  rw [State.channel_setOffers]
  split
  · rename_i hn
    subst hn
    rw [State.channel_setChannel_self]
    rfl
  · rename_i hn
    rw [State.channel_setChannel_ne _ _ _ _ hn]
    rfl

theorem returnClaim_channel (s : State) (c : OutstandingClaim) (hold : Bool) (n : ChannelIx) :
    (s.returnClaim c hold).channel n = if n = c.channel then { s.channel n with state := .off } else s.channel n :=
  dropClaim_channel s c n

/-- The channels a claim's end and the judgement after it leave: those that are not OFF, but for the claim's own. -/
theorem judge_channel_of_endClaim {s t : State} {k : ChannelIx}
    (ht : ∀ n, t.channel n = if n = k then { s.channel n with state := .off } else s.channel n) {n : ChannelIx}
    (hn : n ≠ k) (hoff : s.channelState n ≠ .off) : t.judge.channel n = s.channel n := by
  have hc : t.channel n = s.channel n := (ht n).trans (if_neg hn)
  rw [judge_channel t n (by unfold State.channelState; rw [hc]; exact hoff), hc]

/-- A dropped claim leaves its channel OFF without an entry (R52). -/
theorem dropClaim_judge {s : State} {c : OutstandingClaim} (he : s.entryOf c.channel = none) :
    (s.dropClaim c).judge.channel c.channel = { s.channel c.channel with state := .off } ∧
      (s.dropClaim c).judge.entryOf c.channel = none := by
  obtain ⟨h1, h2⟩ := judge_of_no_entry (s := s.dropClaim c) (n := c.channel) he
  exact ⟨h1.trans ((dropClaim_channel s c _).trans (if_pos rfl)), h2⟩

/-! ## Returned -/

theorem returnClaim_entry {s : State} {c : OutstandingClaim} (hold : Bool) (h : (s.claims.queue.map Entry.channel).Nodup)
    (he : s.entryOf c.channel = none) : (s.returnClaim c hold).entryOf c.channel = some (c.entry hold) :=
  entryIn_insertEntry_self (e := c.entry hold) h fun x hx => entryIn_eq_none.1 he x hx

/-- The claim an entry returns as is not taken up at once where HOLD is set or its channel is inhibited. -/
theorem returnClaim_takes {s : State} {c : OutstandingClaim} {hold : Bool} (h : (s.claims.queue.map Entry.channel).Nodup)
    (he : s.entryOf c.channel = none) (hb : hold = true ∨ s.inhibited c.channel = true) :
    ∀ e, (s.returnClaim c hold).takes = some e → e.channel ≠ c.channel := by
  intro e ht hn
  obtain ⟨hmem, -, hr, hh⟩ := candidate_eq_some (takes_eq_some ht).2.2.1
  have hnodup : ((s.returnClaim c hold).claims.queue.map Entry.channel).Nodup :=
    nodup_insertEntry (e := c.entry hold) h fun x hx => entryIn_eq_none.1 he x hx
  have hsome : (s.returnClaim c hold).entryOf c.channel = some e := entryIn_of_mem hnodup hmem hn
  rw [returnClaim_entry hold h he] at hsome
  obtain rfl : c.entry hold = e := Option.some.inj hsome
  rcases hb with rfl | hb
  · cases hh
  · have hi := (((s.returnClaim c hold).ready_iff _).1 hr).2.1
    rw [(returnClaim_work s c hold).inhibited] at hi
    change s.inhibited c.channel = false at hi
    rw [hb] at hi
    cases hi

/-- A claim returned with HOLD set, or while its channel is inhibited, waits in the queue with its channel OFF
(R47, R50, R51). -/
theorem returnClaim_judge {s : State} {c : OutstandingClaim} {hold : Bool} (h : (s.claims.queue.map Entry.channel).Nodup)
    (he : s.entryOf c.channel = none) (hx : s.exempt c.channel = false)
    (hb : hold = true ∨ s.inhibited c.channel = true) :
    c.entry hold ∈ (s.returnClaim c hold).judge.claims.queue ∧
      (s.returnClaim c hold).judge.channel c.channel = { s.channel c.channel with state := .off } := by
  have hs : (s.returnClaim c hold).servable c.channel = false :=
    servable_of_budgeted (by rw [(returnClaim_work s c hold).exempt]; exact hx)
  have ht := returnClaim_takes h he hb
  refine ⟨mem_judge_queue ((mem_insertEntry _ _ _).2 (.inl rfl)) hs ht, ?_⟩
  rw [judge_channel_of_not hs ht, returnClaim_channel, if_pos rfl]

/-- A claim outstanding once a claim has ended and the claim unit has judged is another one, just taken up. -/
theorem judge_outstanding_of_none {s : State} {n : ChannelIx} (ho : s.claims.outstanding = none)
    (ht : ∀ e, s.takes = some e → e.channel ≠ n) {c : OutstandingClaim} (hc : s.judge.claims.outstanding = some c) :
    c.channel ≠ n ∧ c.attempts = 0 ∧ c.inFlight = false ∧ c.stopNote = false := by
  rcases judge_outstanding_cases s with hj | ⟨e, he, -, hj⟩
  · rw [hj, ho] at hc
    cases hc
  · rw [hj] at hc
    obtain rfl := Option.some.inj hc
    exact ⟨ht e he, rfl, rfl, rfl⟩

/-! ## A failed re-check -/

/-- From s to t an own start has gone on: the queue, the channels and the claim's channel stand, and of the line what an
attempt or a withdrawn RENEW writes may differ. -/
structure Started (s t : State) : Prop where
  work : t = { s with line := t.line, calendar := t.calendar, claims := t.claims }
  queue : t.claims.queue = s.claims.queue
  claimed : t.claimed = s.claimed
  sendStreak : t.line.sendStreak = s.line.sendStreak
  vetoStreak : t.line.vetoStreak = s.line.vetoStreak

/-- A choice at which the claim, if there is one, passes its re-check sends a frame or withdraws a RENEW, and that is
all. -/
theorem startChosen_started (rounds : Nat) {s : State} (h : ∀ c, s.claims.outstanding = some c → s.claimPasses c = true) :
    Started s (s.startChosen rounds) := by
  induction rounds generalizing s with
  | zero => exact ⟨rfl, rfl, rfl, rfl, rfl⟩
  | succ rounds ih =>
    unfold State.startChosen
    split
    · exact ⟨rfl, rfl, rfl, rfl, rfl⟩
    · rename_i o _
      split
      · rename_i t ht
        have hr : t = s.setOffers { s.line.offers with renew := false } := by
          unfold State.withdrawnAtSof at ht
          split at ht
          · split at ht
            · rename_i c hc
              rw [if_pos (h c hc)] at ht
              cases ht
            · cases ht
          · split at ht
            · exact (Option.some.inj ht).symm
            · cases ht
          · cases ht
        subst hr
        obtain ⟨h1, h2, h3, h4, h5⟩ := ih (s := s.setOffers { s.line.offers with renew := false }) h
        exact ⟨h1, h2, h3, h4, h5⟩
      · rw [beginAttempt_eq]
        refine ⟨rfl, ?_, ?_, rfl, rfl⟩
        · dsimp only
          split <;> rfl
        · unfold State.claimed
          dsimp only
          split
          · cases s.claims.outstanding <;> rfl
          · rfl

/-- A claim just taken up passes its re-check (R43, R46). -/
theorem claimPasses_of_takes {s : State} {e : Entry} (h : s.takes = some e) : s.judge.claimPasses e.claim = true := by
  obtain ⟨hm, -, hc, hf⟩ := takes_eq_some h
  have hi := ((s.ready_iff _).1 (candidate_eq_some hc).2.2.1).2.1
  have hw := judge_work s
  unfold State.claimPasses
  rw [hw.member, hw.inhibited]
  have hfits : s.judge.fits e.channel = s.fits e.channel := by
    unfold State.fits State.weight State.channelSettings
    rw [hw.settings, hw.table]
  have hmay : s.judge.mayDisplaceWith e.channel e.cls = s.mayDisplaceWith e.channel e.cls := by
    unfold State.mayDisplaceWith State.weight State.channelSettings
    rw [hw.settings, hw.table]
  have hsynced : (s.member.state == .synced) = true := beq_iff_eq.2 hm
  change (s.member.state == .synced && !s.inhibited e.channel &&
    (s.judge.fits e.channel || s.judge.mayDisplaceWith e.channel e.cls)) = true
  rw [hfits, hmay, hf, hi, hsynced]
  rfl

/-- Settles O26: the claim returned, what follows at the same start is another claim's or another offer's. -/
theorem failedRecheckReturnsTheDemandHeld : Obligations.FailedRecheckReturnsTheDemandHeld := by
  intro s c hinv ho ha hg hchosen hc hpass
  have hq := ((queueInv_iff s).1 hinv).toQueueCore
  have he := hq.claim_entry hc
  obtain ⟨hmem, hoff⟩ := returnClaim_judge (hold := true) hq.unit.channels he (hq.claim_budgeted hc) (.inl rfl)
  have htakes := returnClaim_takes (hold := true) hq.unit.channels he (.inl rfl)
  have hother : ∀ c', (s.returnClaim c true).judge.claims.outstanding = some c' → c'.channel ≠ c.channel :=
    fun c' hc' => (judge_outstanding_of_none (s := s.returnClaim c true) rfl htakes hc').1
  have hpasses : ∀ c', (s.returnClaim c true).judge.claims.outstanding = some c' →
      (s.returnClaim c true).judge.claimPasses c' = true := by
    intro c' hc'
    rcases judge_outstanding_cases (s.returnClaim c true) with hj | ⟨e, ht, -, hj⟩
    · rw [hj] at hc'
      cases hc'
    · rw [hj] at hc'
      obtain rfl := Option.some.inj hc'
      exact claimPasses_of_takes ht
  have hstart : s.startChosen 3 = (s.returnClaim c true).judge.startChosen 2 := by
    rw [State.startChosen, hchosen]
    have : s.withdrawnAtSof .claim = some (s.returnClaim c true).judge := by
      unfold State.withdrawnAtSof
      dsimp only
      rw [hc]
      dsimp only
      rw [hpass]
      rfl
    dsimp only
    rw [this]
  have hlate := fun n hn hne => judge_channel_of_endClaim (n := n) (returnClaim_channel s c true) hn hne
  have hw : ClaimWork s (s.returnClaim c true).judge := (returnClaim_work s c true).trans (judge_work _)
  rw [exec_ownStart ho ha hg, hstart]
  generalize (s.returnClaim c true).judge = u at *
  obtain ⟨hwork, hqueue, hclaimed, hsend, hveto⟩ := startChosen_started 2 hpasses
  generalize u.startChosen 2 = t at *
  have hch : ∀ n, t.channel n = u.channel n := fun n => by rw [hwork]; rfl
  refine ⟨t, rfl, hqueue ▸ hmem, ?_, fun c' hc' => ?_, ?_, ?_, ?_, fun n hn hne => ?_⟩
  · rw [State.channelState, hch, hoff]
  · obtain ⟨c'', hc'', hcc⟩ := State.claimed_eq_some.1 (hclaimed.symm.trans (State.claimed_eq_some.2 ⟨c', hc', rfl⟩))
    exact hcc ▸ hother c'' hc''
  · rw [hsend, ← hw]
  · rw [hveto, ← hw]
  · rw [hwork, ← hw]
  · rw [hch]
    exact hlate n hn hne

/-! ## Lost arbitration -/

/-- The station that has lost arbitration, a receiver with the bits it has read. -/
def State.yielded (s : State) (bits : List Bool) : State :=
  { s with line := { s.line with activity := .receiving, buffer := bits } }

theorem exec_arbitrationLost {s : State} {o : Offer} {f : Frame} {bit : Fin 12} (ho : s.member.state.online = true)
    (ha : s.line.activity = .transmitting o f) (hb : f.arbitrationBits.getD bit.val false = true) :
    exec (.arbitrationLost bit) s = .next ((s.yielded (f.readUpTo bit.val)).sourceLost o) := by
  unfold exec execArbitrationLost
  rw [part_of_online ho ha]
  exact congrArg _ (if_pos hb)

theorem sourceLost_claim {s : State} {c : OutstandingClaim} (hc : s.claims.outstanding = some c) :
    s.sourceLost .claim = s.settleEndedAttempt { c with inFlight := false } false := by
  unfold State.sourceLost
  dsimp only
  rw [hc]

theorem settleEndedAttempt_stopped (s : State) {c : OutstandingClaim} (usedUp : Bool) (h : c.stopNote = true) :
    s.settleEndedAttempt c usedUp = (s.dropClaim c).judge := if_pos h

theorem settleEndedAttempt_usedUp (s : State) {c : OutstandingClaim} (h : c.stopNote = false) :
    s.settleEndedAttempt c true = (s.returnClaim c true).judge := by
  unfold State.settleEndedAttempt
  rw [if_neg (by rw [h]; decide), if_pos rfl]

theorem settleEndedAttempt_inhibited (s : State) {c : OutstandingClaim} (h : c.stopNote = false)
    (hi : s.inhibited c.channel = true) : s.settleEndedAttempt c false = (s.returnClaim c false).judge := by
  unfold State.settleEndedAttempt
  rw [if_neg (by rw [h]; decide), if_neg (by decide), if_pos hi]

theorem settleEndedAttempt_kept (s : State) {c : OutstandingClaim} (h : c.stopNote = false)
    (hi : s.inhibited c.channel = false) :
    s.settleEndedAttempt c false = s.setClaims { s.claims with outstanding := some c } := by
  unfold State.settleEndedAttempt
  rw [if_neg (by rw [h]; decide), if_neg (by decide), if_neg (by rw [hi]; decide)]

/-- Settles O27. -/
theorem lostArbitrationKeepsTheOffer : Obligations.LostArbitrationKeepsTheOffer := by
  intro s o f bit ho ha hb
  rw [exec_arbitrationLost ho ha hb]
  refine ⟨fun hne => ?_, fun c hcl hc => ?_⟩
  · cases o with
    | claim => exact absurd rfl hne
    | _ => rfl
  subst hcl
  have hcore (hinv : s.queueInv) : (s.yielded (f.readUpTo bit.val)).QueueCore :=
    { ((queueInv_iff s).1 hinv).toQueueCore with }
  rw [sourceLost_claim (s := s.yielded _) hc]
  refine ⟨fun hn hi => ?_, fun hn hinv => ?_, fun hn hi hinv => ?_⟩
  · rw [settleEndedAttempt_kept _ (by exact hn) (by exact hi)]
    rfl
  · have he := (hcore hinv).claim_entry hc
    rw [settleEndedAttempt_stopped _ _ (by exact hn)]
    obtain ⟨hoff, hentry⟩ :=
      dropClaim_judge (s := s.yielded _) (c := { c with inFlight := false }) he
    have hw := (dropClaim_work (s.yielded (f.readUpTo bit.val)) { c with inFlight := false }).trans (judge_work _)
    refine ⟨_, rfl, congrArg Channel.state hoff, hentry, ?_, ?_, fun n hne hnoff =>
      judge_channel_of_endClaim (s := s.yielded _) (dropClaim_channel _ _) hne hnoff⟩
    · rw [← hw]; rfl
    · rw [← hw]; rfl
  · have hq := hcore hinv
    have he := hq.claim_entry hc
    rw [settleEndedAttempt_inhibited _ (by exact hn) (by exact hi)]
    obtain ⟨hmem, hoff⟩ := returnClaim_judge (c := { c with inFlight := false }) (hold := false) hq.unit.channels he
      (hq.claim_budgeted (c := c) hc) (.inr hi)
    have htakes := returnClaim_takes (c := { c with inFlight := false }) (hold := false) hq.unit.channels he (.inr hi)
    have hw := (returnClaim_work (s.yielded (f.readUpTo bit.val)) { c with inFlight := false } false).trans (judge_work _)
    refine ⟨_, rfl, hoff, hmem, judge_enqueueCount _, ?_, ?_, ?_, ?_, ?_, fun c' hc' => ?_, ?_, fun n hne hnoff =>
      judge_channel_of_endClaim (s := s.yielded _) (returnClaim_channel _ _ _) hne hnoff⟩
    · rw [← hw]; rfl
    · rw [← hw]; rfl
    · rw [← hw]; rfl
    · rw [← hw]; rfl
    · rw [← hw]; rfl
    · obtain ⟨h1, h2, -⟩ := judge_outstanding_of_none (s := State.returnClaim _ _ _) rfl htakes hc'
      exact ⟨h1, h2⟩
    · rw [← hw]; rfl

/-! ## Failed attempts -/

/-- The station at the end of a failed own attempt, before its source is told: its line, and a veto of its frame
counted. -/
structure AttemptEnded (s v : State) (a : LineActivity) (b : List Bool) (suffered : Bool) : Prop where
  eq : v = { s with
    line := { s.line with
      activity := a, idleCount := 0, buffer := b, sendStreak := s.line.sendStreak + 1, courtesyGap := true }
    report := { s.report with counters := { s.report.counters with
      ownVetoed := if suffered then raised s.report.counters.ownVetoed 1 else s.report.counters.ownVetoed } } }

/-- Below the streak's limit an aborted or vetoed attempt is the source's to settle (R180, R183). -/
theorem exec_failed {s : State} {i : Instr} {o : Offer} {f : Frame} (ho : s.member.state.online = true)
    (ha : s.line.activity = .transmitting o f) (hlimit : s.line.sendStreak + 1 < 16)
    (hi : (∃ read, i = .frameVetoed read) ∨ ∃ bit, f.abortsAt bit = true ∧ i = .attemptAborted bit) :
    ∃ v a b suffered, AttemptEnded s v a b suffered ∧ exec i s = .next (v.sourceFailed o) ∧
      (∀ read, i = .frameVetoed read → a = .counting ∧ b = f.bits ++ [false] ∧ suffered = true) ∧
      ∀ bit, i = .attemptAborted bit → a = .receiving ∧ b = f.readUpTo bit ∧ suffered = false := by
  have below (t : State) (a : LineActivity) (b : List Bool) (ht : t.line.sendStreak = s.line.sendStreak) :
      t.failAttempt o a b = (t.attemptFailed a b).sourceFailed o := by
    rcases failAttempt_cases t o a b with ⟨-, he⟩ | ⟨hn, -⟩
    · exact he
    · omega
  rcases hi with ⟨read, rfl⟩ | ⟨bit, hb, rfl⟩
  · refine ⟨s.vetoSuffered.attemptFailed .counting (f.bits ++ [false]), _, _, true, ⟨rfl⟩, ?_, fun _ _ => ⟨rfl, rfl, rfl⟩,
      nofun⟩
    rw [exec_frameVetoed_own read ho ha, below s.vetoSuffered _ _ rfl]
  · refine ⟨s.attemptFailed .receiving (f.readUpTo bit), _, _, false, ⟨rfl⟩, ?_, nofun, fun b h => ?_⟩
    · rw [exec_attemptAborted ho ha hb, below s _ _ rfl]
    · cases h
      exact ⟨rfl, rfl, rfl⟩

theorem sourceFailed_claim {s : State} {c : OutstandingClaim} (hc : s.claims.outstanding = some c) :
    s.sourceFailed .claim =
      s.settleEndedAttempt { c with attempts := c.attempts + 1, inFlight := false }
        (decide (Config.attemptLimit ≤ c.attempts + 1)) := by
  unfold State.sourceFailed
  dsimp only
  rw [hc]

theorem sourceFailed_claims_of_ne {s : State} {o : Offer} (h : o ≠ .claim) :
    (s.sourceFailed o).claims = s.claims ∧ (s.sourceFailed o).channels = s.channels := by
  cases o with
  | claim => exact absurd rfl h
  | command => unfold State.sourceFailed; dsimp only; split <;> exact ⟨rfl, rfl⟩
  | report => unfold State.sourceFailed; dsimp only; split <;> exact ⟨rfl, rfl⟩
  | _ => exact ⟨rfl, rfl⟩

theorem sourceFailed_report_of_ne {s : State} {o : Offer} (h : o ≠ .report) :
    (s.sourceFailed o).report.attempts = s.report.attempts := by
  cases o with
  | report => exact absurd rfl h
  | claim =>
    cases hc : s.claims.outstanding with
    | none => unfold State.sourceFailed; dsimp only; rw [hc]
    | some c => rw [sourceFailed_claim hc, (settleEndedAttempt_work s _ _).report]
  | command => unfold State.sourceFailed; dsimp only; split <;> rfl
  | _ => rfl

theorem sourceFailed_commands_of_ne {s : State} {o : Offer} (h : o ≠ .command) :
    (s.sourceFailed o).commands = s.commands ∧ (s.sourceFailed o).report.counters = s.report.counters := by
  cases o with
  | command => exact absurd rfl h
  | claim =>
    cases hc : s.claims.outstanding with
    | none => unfold State.sourceFailed; dsimp only; rw [hc]; exact ⟨rfl, rfl⟩
    | some c =>
      have hw := settleEndedAttempt_work s { c with attempts := c.attempts + 1, inFlight := false }
        (decide (Config.attemptLimit ≤ c.attempts + 1))
      rw [sourceFailed_claim hc, hw.report]
      exact ⟨hw.commands, rfl⟩
  | report => unfold State.sourceFailed; dsimp only; split <;> exact ⟨rfl, rfl⟩
  | _ => exact ⟨rfl, rfl⟩

theorem sourceFailed_command_kept {s : State} (h : s.commands.headAttempts + 1 < 3) :
    s.sourceFailed .command = s.setCommands { s.commands with headAttempts := s.commands.headAttempts + 1 } := by
  unfold State.sourceFailed
  exact if_neg (Nat.not_le.2 h)

theorem sourceFailed_command_dropped {s : State} (h : 3 ≤ s.commands.headAttempts + 1) :
    s.sourceFailed .command = s.popCommand.countDropped 1 := by
  unfold State.sourceFailed
  exact if_pos h

theorem sourceFailed_report_kept {s : State} (h : s.report.attempts + 1 < 3) :
    s.sourceFailed .report = s.setReport { s.report with attempts := s.report.attempts + 1 } := by
  unfold State.sourceFailed
  exact if_neg (Nat.not_le.2 h)

theorem sourceFailed_report_dropped {s : State} (h : 3 ≤ s.report.attempts + 1) :
    s.sourceFailed .report =
      (s.setReport { s.report with attempts := 0 }).setOffers { s.line.offers with report := false } := by
  unfold State.sourceFailed
  exact if_pos h

/-- The claim's part of a failed attempt (R47, R52). -/
theorem sourceFailed_claim_cases {s : State} {c : OutstandingClaim} (h : s.QueueCore)
    (hc : s.claims.outstanding = some c) :
    (∀ n, n ≠ c.channel → s.channelState n ≠ .off → (s.sourceFailed .claim).channel n = s.channel n) ∧
      (c.stopNote = false → 3 ≤ c.attempts + 1 →
        c.entry true ∈ (s.sourceFailed .claim).claims.queue ∧ (s.sourceFailed .claim).channelState c.channel = .off) ∧
      (c.stopNote = false → c.attempts + 1 < 3 → s.inhibited c.channel = false →
        (s.sourceFailed .claim).claims =
            { s.claims with outstanding := some { c with attempts := c.attempts + 1, inFlight := false } } ∧
          (s.sourceFailed .claim).line.offers = s.line.offers) ∧
      (c.stopNote = false → c.attempts + 1 < 3 → s.inhibited c.channel = true →
        c.entry false ∈ (s.sourceFailed .claim).claims.queue ∧ (s.sourceFailed .claim).channelState c.channel = .off) ∧
      (c.stopNote = true →
        (s.sourceFailed .claim).entryOf c.channel = none ∧ (s.sourceFailed .claim).channelState c.channel = .off) := by
  have he := h.claim_entry hc
  have hx := h.claim_budgeted hc
  rw [sourceFailed_claim hc]
  cases hn : c.stopNote with
  | true =>
    rw [settleEndedAttempt_stopped _ _ rfl]
    obtain ⟨hoff, hentry⟩ := dropClaim_judge (c := { c with attempts := c.attempts + 1, inFlight := false }) he
    exact ⟨fun n hne hnoff => judge_channel_of_endClaim (dropClaim_channel _ _) hne hnoff, nofun, nofun, nofun,
      fun _ => ⟨hentry, congrArg Channel.state hoff⟩⟩
  | false =>
    by_cases h3 : 3 ≤ c.attempts + 1
    · rw [decide_eq_true (by exact h3), settleEndedAttempt_usedUp _ rfl]
      obtain ⟨hmem, hoff⟩ := returnClaim_judge (c := { c with attempts := c.attempts + 1, inFlight := false })
        (hold := true) h.unit.channels he hx (.inl rfl)
      exact ⟨fun n hne hnoff => judge_channel_of_endClaim (returnClaim_channel _ _ _) hne hnoff,
        fun _ _ => ⟨hmem, congrArg Channel.state hoff⟩, fun _ hlt => by omega, fun _ hlt => by omega, nofun⟩
    · rw [decide_eq_false (by exact h3)]
      cases hi : s.inhibited c.channel with
      | false =>
        rw [settleEndedAttempt_kept _ rfl (by exact hi)]
        exact ⟨fun n _ _ => rfl, fun _ hle => absurd hle h3, fun _ _ _ => ⟨rfl, rfl⟩, fun _ _ hi' => (nomatch hi'), nofun⟩
      | true =>
        rw [settleEndedAttempt_inhibited _ rfl (by exact hi)]
        obtain ⟨hmem, hoff⟩ := returnClaim_judge (c := { c with attempts := c.attempts + 1, inFlight := false })
          (hold := false) h.unit.channels he hx (.inr hi)
        exact ⟨fun n hne hnoff => judge_channel_of_endClaim (returnClaim_channel _ _ _) hne hnoff,
          fun _ hle => absurd hle h3, fun _ _ hi' => (nomatch hi'), fun _ _ _ => ⟨hmem, congrArg Channel.state hoff⟩, nofun⟩

/-- Settles O29. -/
theorem thirdFailureGivesUp : Obligations.ThirdFailureGivesUp := by
  intro s i o f ho ha hlimit hi
  obtain ⟨v, a, b, suffered, ⟨hv⟩, hexec, hvetoed, haborted⟩ := exec_failed ho ha hlimit hi
  have hframe := sourceFailed_frame v o
  rw [hexec]
  refine ⟨v.sourceFailed o, rfl, ?_, ?_, fun read hr => ?_, fun bit hb => ?_, ?_, fun hne => ?_, fun hne => ?_,
    fun hne => ?_, ?_, ?_, ?_, ?_, ?_⟩
  · rw [hframe, hv]
  · rw [hframe, hv]
  · obtain ⟨rfl, rfl, rfl⟩ := hvetoed read hr
    rw [hframe, hv]
    exact ⟨rfl, rfl⟩
  · obtain ⟨rfl, rfl, rfl⟩ := haborted bit hb
    rw [hframe, hv]
    exact ⟨rfl, rfl⟩
  · rw [hframe, hv]
  · rw [sourceFailed_report_of_ne hne, hv]
  · obtain ⟨h1, h2⟩ := sourceFailed_claims_of_ne (s := v) hne
    rw [h1, h2, hv]
    exact ⟨rfl, rfl⟩
  · obtain ⟨h1, h2⟩ := sourceFailed_commands_of_ne (s := v) hne
    rw [h1, h2, hv]
    exact ⟨rfl, rfl⟩
  · rintro rfl h3
    rw [sourceFailed_command_kept (by rw [hv]; exact h3), hv]
    exact ⟨rfl, rfl, rfl⟩
  · rintro rfl h3
    rw [sourceFailed_command_dropped (by rw [hv]; exact h3), hv]
    exact ⟨rfl, rfl, rfl⟩
  · rintro rfl h3
    rw [sourceFailed_report_kept (by rw [hv]; exact h3), hv]
    exact ⟨rfl, rfl⟩
  · rintro rfl h3
    rw [sourceFailed_report_dropped (by rw [hv]; exact h3), hv]
    rfl
  · rintro c rfl hc hinv
    have hcore : v.QueueCore := by
      rw [hv]
      exact { ((queueInv_iff s).1 hinv).toQueueCore with }
    have hcases := sourceFailed_claim_cases hcore (c := c) (by rw [hv]; exact hc)
    obtain ⟨hch, hcl, hof, hin, hcs⟩ : v.channel = s.channel ∧ v.claims = s.claims ∧ v.line.offers = s.line.offers ∧
        v.inhibited = s.inhibited ∧ v.channelState = s.channelState := by
      rw [hv]
      exact ⟨rfl, rfl, rfl, rfl, rfl⟩
    rw [hch, hcl, hof, hin, hcs] at hcases
    exact hcases

end Sys2Proof.Machine
end

section
/-! PROOFS. A receiver at a frame that is not accepted (O30), the duplicate-ID halt (O35), and the accepted frames that no
block applies (O36). -/

namespace Sys2Proof.Machine

/-! ## Defective frames (R154) -/

theorem allowedLength_iff (kind : BitVec 4) (n : Nat) : allowedLength kind n = true ↔ lengthAllowed kind.toNat n := by
  have hkind : ∀ k : BitVec 4, kind = k ↔ kind.toNat = k.toNat := fun k => BitVec.toNat_inj.symm
  unfold allowedLength lengthAllowed
  simp only [hkind, kindBeacon, kindRelease, kindClaim, kindRenew, kindInhibit, kindTimeset, kindDemand, kindQuery,
    kindReport]
  norm_num
  repeat' split
  all_goals grind

theorem reserved_iff (b : Byte) : (b.getLsbD 0 || b.getLsbD 1) = true ↔ b.toNat % 4 ≠ 0 := by
  revert b
  decide +kernel

theorem renewReservedSet_iff (payload : List Byte) :
    renewReservedSet payload = true ↔ ∃ k b, payload[2 * k]? = some b ∧ b.toNat % 4 ≠ 0 := by
  match payload with
  | [] => simp [renewReservedSet]
  | [b] =>
    rw [renewReservedSet, reserved_iff, ← Nat.or_exists_add_one]
    simp
  | b :: c :: rest =>
    rw [← Nat.or_exists_add_one, renewReservedSet, Bool.or_eq_true, reserved_iff, renewReservedSet_iff rest]
    refine or_congr ?_ (exists_congr fun k => ?_)
    · simp
    · rw [show 2 * (k + 1) = 2 * k + 1 + 1 by omega]
      simp

theorem RawFrame.coveredBits_eq (f : RawFrame) : f.coveredBits = f.bits.take (25 + 8 * f.payload.length) := by
  refine (List.take_left' ?_).symm
  simp only [RawFrame.coveredBits, List.length_append, length_bitsMsb, length_flatMap_bitsMsb]
  omega

theorem RawFrame.defective_iff (f : RawFrame) : f.defective = true ↔ f.meetsR154 := by
  have hk : f.kind = kindRenew ↔ f.kind = 3 := Iff.rfl
  unfold RawFrame.defective RawFrame.meetsR154
  rw [← f.coveredBits_eq, ← allowedLength_iff]
  simp only [Bool.or_eq_true, Bool.and_eq_true, decide_eq_true_eq, Bool.not_eq_true', bne_iff_ne, beq_iff_eq,
    renewReservedSet_iff, hk, or_assoc, Bool.not_eq_true]

/-! ## A receiver -/

/-- A receiver casts a veto at bits that make a defective frame, whatever the line makes of it (R175, R176). -/
theorem exec_vetoed_defective {s : State} {c : Instr} {read : List Bool} {slot : Bool}
    (ho : s.member.state.online = true) (ha : s.line.activity = .receiving) (hd : readsDefective read = true)
    (hc : (c = .frameVetoed read ∧ slot = false) ∨ (c = .vetoedFrameAcceptedByLine read ∧ slot = true)) :
    exec c s = .next (s.castVeto (read ++ [slot])) := by
  have hp := part_of_online ho ha
  rcases hc with ⟨rfl, rfl⟩ | ⟨rfl, rfl⟩
  · unfold exec execFrameVetoed
    rw [hp]
    exact congrArg _ (if_pos hd)
  · unfold exec execVetoedFrameAcceptedByLine
    rw [hp]
    exact congrArg _ (if_pos hd)

theorem readsDefective_of {read : List Bool} {f : RawFrame} (h : RawFrame.ofBits read = some f) :
    readsDefective read = f.defective := by
  unfold readsDefective
  rw [h]

/-- An accepted frame whose bits make it defective is vetoed by a receiver. -/
theorem acceptFrame_defective {s : State} {f : Frame} (effects : Bool → State → State)
    (ho : s.member.state.online = true) (ha : s.line.activity = .receiving) (hd : f.raw.defective = true) :
    s.acceptFrame f effects = s.castVeto (f.bits ++ [true]) := by
  unfold State.acceptFrame State.reception
  rw [if_pos ho, ha]
  exact if_pos hd

/-- Settles O30. -/
theorem receiverJudgesTheFrame : Obligations.ReceiverJudgesTheFrame := by
  refine ⟨RawFrame.defective_iff, fun s ho ha => ⟨?_, fun read f hf hd => ?_, fun c f hc hlen hd => ?_,
    fun c read slot f hc hf hd hlimit => ?_⟩⟩
  · unfold exec execFrameTruncated
    rw [part_of_online ho ha]
    rfl
  · unfold exec execFrameVetoed
    rw [part_of_online ho ha]
    dsimp only
    rw [readsDefective_of hf, hd, hf]
    rfl
  · have hbits : RawFrame.ofBits f.bits = some f.raw := by
      refine frameBitsRoundTrip f.raw ?_
      change f.payload.length = (BitVec.ofNat 5 f.payload.length).toNat
      rw [BitVec.toNat_ofNat]
      omega
    obtain ⟨effects, he⟩ := exec_of_acceptedFrame hc
    rw [he, acceptFrame_defective effects ho ha hd,
      exec_vetoed_defective ho ha ((readsDefective_of hbits).trans hd) (.inr ⟨rfl, rfl⟩)]
  · rw [exec_vetoed_defective ho ha ((readsDefective_of hf).trans hd) hc]
    rcases castVeto_cases s (read ++ [slot]) with ⟨-, he⟩ | ⟨hn, -⟩
    · rw [he]
      rfl
    · omega

/-! ## The duplicate-ID halt -/

/-- Halted, no output is active (R78, R93). -/
theorem outputActive_of_halted {s : State} (h : s.member.state = .halted) (n : ChannelIx) : s.outputActive n = false := by
  simp [State.outputActive, h]

theorem haltDuplicate_none {s : State} (h : s.claims.outstanding = none) :
    s.haltDuplicate = s.enterHalted { s.report.faults with duplicateId := true } := by
  unfold State.haltDuplicate
  rw [h]

theorem haltDuplicate_some {s : State} {o : OutstandingClaim} (h : s.claims.outstanding = some o) :
    s.haltDuplicate = (s.returnClaim o false).enterHalted { s.report.faults with duplicateId := true } := by
  unfold State.haltDuplicate
  rw [h]
  rfl

/-- The counts of the judgements are in the report unit, and the rest of an acceptance in the line. -/
theorem judged_frame (s : State) (f : Frame) :
    ∃ l r, (s.lineAccepted f).countJudgements f = { s with line := l, report := r } :=
  ⟨_, _, (countJudgements_frame (s.lineAccepted f) f).1⟩

/-- Settles O35: the claim returned, the part halts. -/
theorem duplicateIdHalts : Obligations.DuplicateIdHalts := by
  intro c f s hc ho ha hd hsource
  obtain ⟨effects, he⟩ := exec_of_acceptedFrame hc
  obtain ⟨l, r, hw⟩ := judged_frame s f
  rw [he, acceptFrame_duplicate effects ho ha hd hsource, hw]
  cases hout : s.claims.outstanding with
  | none =>
    rw [haltDuplicate_none (by exact hout), enterHalted_frame]
    exact ⟨_, rfl, rfl, rfl, rfl, rfl, rfl, rfl, hout, nofun, fun _ => ⟨rfl, rfl⟩,
      outputActive_of_halted rfl, rfl, rfl⟩
  | some o =>
    have hch := returnClaim_channel { s with line := l, report := r } o false
    have hclaims : (State.returnClaim { s with line := l, report := r } o false).claims =
        { s.claims with outstanding := none, queue := insertEntry (o.entry false) s.claims.queue } := rfl
    have hqueue (hinv : s.queueInv) : (insertEntry (o.entry false) s.claims.queue).Pairwise fun a b => a.before b = true :=
      (((queueInv_iff s).1 hinv).toQueueCore.returnClaim false hout rfl rfl).unit.ordered
    have hwork := returnClaim_work { s with line := l, report := r } o false
    rw [haltDuplicate_some (o := o) (by exact hout), enterHalted_frame]
    generalize State.returnClaim { s with line := l, report := r } o false = u at *
    have hmember : u.member = s.member := hwork.member
    refine ⟨_, rfl, rfl, rfl, rfl, rfl, rfl, rfl, ?_, fun o' ho' => ?_, nofun, outputActive_of_halted rfl, ?_, ?_⟩
    · dsimp only
      rw [hclaims]
    · obtain rfl := Option.some.inj ho'
      dsimp only
      rw [hclaims]
      exact ⟨(hch _).trans (if_pos rfl), fun n hn => (hch n).trans (if_neg hn), insertEntry_perm _ _, rfl, hqueue⟩
    · rw [← hmember]
    · rw [← hwork]

/-! ## Frames that no block applies -/

/-- A received correct frame that fails a judgement has its line effects and its counts. -/
theorem acceptFrame_unapplied {s : State} {f : Frame} (effects : Bool → State → State) (h : s.hears f)
    (hj : s.passesJudgements f = false) : s.acceptFrame f effects = (s.lineAccepted f).countJudgements f := by
  obtain ⟨h1, h2, h3, h4⟩ := h
  unfold State.acceptFrame State.reception
  rw [if_pos h1, h2]
  dsimp only
  rw [h3, if_neg (by decide), if_neg h4, hj]
  rfl

/-- Settles O36. -/
theorem unappliedFramesHaveLineEffectsOnly : Obligations.UnappliedFramesHaveLineEffectsOnly := by
  intro c f s hc hh line
  obtain ⟨effects, he⟩ := exec_of_acceptedFrame hc
  have hl : s.lineAccepted f = { s with line := line } := rfl
  refine ⟨fun hs => ?_, fun h0 h63 ht => ?_, fun hp => ⟨?_, ?_⟩⟩
  · have hj : s.passesJudgements f = false := by
      unfold State.passesJudgements
      rcases hs with hs | hs <;> rw [hs] <;> rfl
    rw [he, acceptFrame_unapplied effects hh hj, State.countJudgements, if_pos hs, hl]
  · have hj : s.passesJudgements f = false := by
      unfold State.passesJudgements
      rw [beq_eq_false_iff_ne.2 ht, Bool.and_false, Bool.false_and]
    rw [he, acceptFrame_unapplied effects hh hj, State.countJudgements, if_neg (by tauto), if_pos (by exact ht), hl]
    rfl
  · rintro head kind payload rfl
    cases hc
    have h9 : 9 ≤ (frameOf head (BitVec.ofNat 4 (9 + kind.val)) payload).kind.toNat := by
      change 9 ≤ (BitVec.ofNat 4 (9 + kind.val)).toNat
      rw [BitVec.toNat_ofNat]
      omega
    obtain ⟨p1, p2, p3⟩ := hp
    have hj : s.passesJudgements (frameOf head (BitVec.ofNat 4 (9 + kind.val)) payload) = false := by
      unfold State.passesJudgements
      rw [decide_eq_false (Nat.not_lt.2 h9), Bool.and_false]
    rw [he, acceptFrame_unapplied effects hh hj, State.countJudgements, if_neg (by tauto),
      if_neg (by exact fun hn => hn p3), if_pos h9, hl]
    rfl
  · rintro head payload rfl
    cases hc
    exact congrArg Host.Outcome.next (acceptFrame_hears _ hh hp (show kindReport.toNat < 9 by decide))

end Sys2Proof.Machine
end

section
/-! PROOFS. The start wait and the reads (O19, O20): what a number of oscillator periods makes of them. -/

namespace Sys2Proof.Machine

/-! ## The start wait -/

theorem step_of_empty {s : State} (h : s.pending = []) : step s = .next s.oscillatorPeriod := by
  unfold step
  rw [h]

theorem oscillatorPeriod_waiting {s : State} (hp : s.phase = .startWait) (h : s.startPeriods + 1 < Config.startWaitPeriods) :
    s.oscillatorPeriod = { s with startPeriods := s.startPeriods + 1 } := by
  unfold State.oscillatorPeriod
  rw [hp]
  exact if_neg (Nat.not_le.2 h)

theorem oscillatorPeriod_waited {s : State} (hp : s.phase = .startWait) (h : s.startPeriods + 1 = Config.startWaitPeriods) :
    s.oscillatorPeriod = s.endStartWait := by
  unfold State.oscillatorPeriod
  rw [hp]
  exact if_pos h.ge

/-- Fewer periods than are left only count. -/
theorem oscillatorPeriod_iterate_waiting {s : State} (hp : s.phase = .startWait) (k : Nat)
    (h : s.startPeriods + k < Config.startWaitPeriods) :
    State.oscillatorPeriod^[k] s = { s with startPeriods := s.startPeriods + k } := by
  induction k with
  | zero => rfl
  | succ k ih =>
    rw [Function.iterate_succ_apply', ih (by omega)]
    exact oscillatorPeriod_waiting (s := { s with startPeriods := s.startPeriods + k }) hp (by exact h)

/-- Settles O19. -/
theorem startWaitEndsInLoading : Obligations.StartWaitEndsInLoading := by
  refine ⟨fun s => step_of_empty, fun s hp hlt => ?_, fun s hp => ?_⟩
  · obtain ⟨k, hk⟩ : ∃ k, Config.startWaitPeriods - s.startPeriods = k + 1 := ⟨_, (Nat.succ_pred_eq_of_pos (by omega)).symm⟩
    rw [hk, Function.iterate_succ_apply', oscillatorPeriod_iterate_waiting hp k (by omega)]
    exact oscillatorPeriod_waited (s := { s with startPeriods := s.startPeriods + k }) hp
      (by show s.startPeriods + k + 1 = _; omega)
  · refine ⟨s.endStartWait, congrArg _ (if_pos hp), rfl, rfl, rfl, rfl, rfl, rfl, rfl, rfl, rfl, rfl, rfl, rfl⟩

/-! ## The reads -/

theorem readCommand_getElem? (i : Nat) :
    readCommand[i]? = if i < 24 then some ((0x030000#24).getMsbD i) else none := by
  have hlen : readCommand.length = 24 := by decide
  have hbits : ∀ i : Fin 24, readCommand[i.val]? = some ((0x030000#24).getMsbD i.val) := by decide
  split
  · exact hbits ⟨i, ‹_›⟩
  · exact List.getElem?_eq_none (by omega)

theorem isLoading_iff (s : State) : s.isLoading = true ↔ s.phase = .running ∧ s.member.state = .loading := by
  simp [State.isLoading]

/-- In LOADING the phase and the tick leave the loader to itself. -/
theorem phasePeriod_tickPeriod_loading {s : State} (h : s.isLoading = true) :
    s.phasePeriod.tickPeriod.loader = s.loader ∧ s.phasePeriod.tickPeriod.isLoading = true := by
  obtain ⟨hp, hm⟩ := (isLoading_iff s).1 h
  have hphase : s.phasePeriod = s.setCalendar s.phasePeriod.calendar := by
    unfold State.phasePeriod State.fractionStep
    dsimp only
    rw [hm]
    repeat' split
    all_goals first | rfl | simp_all [MemberState.working]
  have htick : ∀ t : State, t.member.state = .loading → t.tickPeriod = { t with
      tickDivider := t.tickPeriod.tickDivider, ticked := t.tickPeriod.ticked } := by
    intro t ht
    unfold State.tickPeriod State.tick
    dsimp only
    rw [ht]
    split <;> rfl
  rw [hphase, htick _ (by exact hm)]
  exact ⟨rfl, (isLoading_iff _).2 ⟨hp, hm⟩⟩

theorem oscillatorPeriod_running {s : State} (h : s.phase = .running) :
    s.oscillatorPeriod = s.loaderPeriod.phasePeriod.tickPeriod := by
  unfold State.oscillatorPeriod
  rw [h]

theorem loaderPeriod_retryWait {s : State} {p : Nat} (h : s.isLoading = true) (ha : s.loader.activity = .retryWait p) :
    s.loaderPeriod =
      if Config.retryWaitPeriods ≤ p + 1 then s.startRetry
      else { s with loader := { s.loader with activity := .retryWait (p + 1) } } := by
  unfold State.loaderPeriod
  rw [if_pos h, ha]

theorem loaderPeriod_reading {s : State} {p : Nat} {bits : List Bool} (h : s.isLoading = true)
    (ha : s.loader.activity = .reading p bits) :
    s.loaderPeriod =
      if Config.readPeriods ≤ p + 1 then s.endRead (imageOfBits (sampled (p + 1) s.dataIn bits))
      else { s with loader := { s.loader with activity := .reading (p + 1) (sampled (p + 1) s.dataIn bits) } } := by
  unfold State.loaderPeriod
  rw [if_pos h, ha]

/-- The retry wait counts the periods. -/
theorem oscillatorPeriod_iterate_retryWait {s : State} (h : s.isLoading = true) (ha : s.loader.activity = .retryWait 0)
    (k : Nat) (hk : k < Config.retryWaitPeriods) :
    (State.oscillatorPeriod^[k] s).loader = { s.loader with activity := .retryWait k } ∧
      (State.oscillatorPeriod^[k] s).isLoading = true := by
  induction k with
  | zero => exact ⟨by rw [← ha]; rfl, h⟩
  | succ k ih =>
    obtain ⟨hl, hi⟩ := ih (by omega)
    rw [Function.iterate_succ_apply']
    generalize State.oscillatorPeriod^[k] s = t at *
    have ht : t.loaderPeriod = { t with loader := { s.loader with activity := .retryWait (k + 1) } } := by
      rw [loaderPeriod_retryWait (p := k) hi (by rw [hl]), if_neg (by omega), hl]
    rw [oscillatorPeriod_running ((isLoading_iff t).1 hi).1, ht]
    exact phasePeriod_tickPeriod_loading (s := { t with loader := _ }) hi

/-- A sample is taken at the fourth period of a clock period past the 24th (R190). -/
theorem samplesAt_iff (p : Nat) : samplesAt p = true ↔ p % 8 = 4 ∧ 24 ≤ p / 8 := by
  have hlen : readCommand.length = 24 := by decide
  simp [samplesAt, hlen, Config.clockPeriods]

theorem sampled_eq (p : Nat) (level : Bool) (bits : List Bool) :
    sampled p level bits = if p % 8 = 4 ∧ 24 ≤ p / 8 then bits ++ [level] else bits := by
  unfold sampled
  simp only [samplesAt_iff]

/-- The bits of a read so far: DI's levels at the rising edges of CLK past the 24th. -/
def sampledBits (level : Nat → Bool) (k : Nat) : List Bool :=
  (List.range ((k + 4) / 8 - 24)).map fun i => level (8 * i + 195)

theorem sampled_sampledBits (level : Nat → Bool) (k : Nat) :
    sampled (k + 1) (level k) (sampledBits level k) = sampledBits level (k + 1) := by
  rw [sampled_eq]
  unfold sampledBits
  split
  · rename_i h
    have hn : (k + 1 + 4) / 8 - 24 = ((k + 4) / 8 - 24) + 1 := by omega
    have hk : 8 * ((k + 4) / 8 - 24) + 195 = k := by omega
    rw [hn, List.range_succ, List.map_append, List.map_singleton, hk]
  · rename_i h
    have hn : (k + 1 + 4) / 8 - 24 = (k + 4) / 8 - 24 := by omega
    rw [hn]

/-- The bits of a read are those that DI has carried. -/
theorem sampledBits_eq {level : Nat → Bool} {bits : List Bool} {k : Nat} (hlen : (k + 4) / 8 - 24 = bits.length)
    (h : ∀ i, i < bits.length → level (8 * i + 195) = bits.getD i true) : sampledBits level k = bits := by
  unfold sampledBits
  rw [hlen]
  refine List.ext_getElem (by simp) fun i h1 h2 => ?_
  rw [List.getElem_map, List.getElem_range, h i h2, List.getD_eq_getElem _ _ h2]

/-- What the end of a read leads to does not depend on what the port was doing. -/
theorem endRead_activity (s : State) (a : LoadActivity) (image : List Byte) :
    State.endRead { s with loader := { s.loader with activity := a } } image = s.endRead image := by
  unfold State.endRead
  cases formFailure image with
  | some failure => rfl
  | none => cases readSettings image <;> rfl

/-- The station k periods into a read. -/
def State.reads (s : State) (level : Nat → Bool) (k : Nat) (d : Bool) : State :=
  { s with dataIn := d, loader := { s.loader with activity := .reading k (sampledBits level k) } }

theorem loaderPeriod_reads {s : State} (h : s.isLoading = true) (level : Nat → Bool) (k : Nat) :
    (s.reads level k (level k)).loaderPeriod =
      if 33216 ≤ k + 1 then State.endRead { s with dataIn := level k } (imageOfBits (sampledBits level (k + 1)))
      else s.reads level (k + 1) (level k) := by
  rw [loaderPeriod_reading (s := s.reads level k (level k)) (p := k) (bits := sampledBits level k) (by exact h) rfl,
    show (s.reads level k (level k)).dataIn = level k from rfl, sampled_sampledBits]
  split
  · exact endRead_activity { s with dataIn := level k } _ _
  · rfl

/-- The periods of a read bring in the bits. -/
theorem foldl_reading {s : State} (h : s.isLoading = true) (ha : s.loader.activity = .reading 0 []) (level : Nat → Bool)
    (k : Nat) (hk : k < 33216) :
    ∃ d, (List.range k).foldl (fun t j => State.loaderPeriod { t with dataIn := level j }) s = s.reads level k d := by
  induction k with
  | zero => exact ⟨s.dataIn, by rw [State.reads, show sampledBits level 0 = [] from rfl, ← ha]; rfl⟩
  | succ k ih =>
    obtain ⟨d, ih⟩ := ih (by omega)
    refine ⟨level k, ?_⟩
    rw [List.range_succ, List.foldl_append, ih]
    exact (loaderPeriod_reads h level k).trans (if_neg (by omega))

theorem imageOfBits_flatMap (image : List Byte) : imageOfBits (image.flatMap bitsMsb) = image := by
  induction image with
  | nil => rfl
  | cons b image ih => rw [List.flatMap_cons, imageOfBits_byte, ih]

/-- Settles O20. -/
theorem secondReadStartsOneTickLater : Obligations.SecondReadStartsOneTickLater := by
  refine ⟨fun s hl hr => ?_, fun s hl ha => ⟨fun k hk => (oscillatorPeriod_iterate_retryWait hl ha k hk).1, ?_⟩,
    fun s p bits ha hp => ?_, fun s p bits hl ha => ⟨fun hp => ?_, fun hp => ?_, fun image => ?_⟩,
    fun s => oscillatorPeriod_running, imageOfBits_flatMap, fun s image level hl ha hlen hlevel => ?_⟩
  · unfold exec execRetryReadStart
    rw [hl, hr]
    rfl
  · obtain ⟨hloader, hi⟩ := oscillatorPeriod_iterate_retryWait hl ha 511 (by decide)
    rw [show Config.retryWaitPeriods = 511 + 1 from rfl, Function.iterate_succ_apply']
    generalize State.oscillatorPeriod^[511] s = t at *
    rw [oscillatorPeriod_running ((isLoading_iff t).1 hi).1,
      loaderPeriod_retryWait (p := 511) hi (by rw [hloader]), if_pos (by decide)]
    refine (phasePeriod_tickPeriod_loading (s := t.startRetry) hi).1.trans ?_
    unfold State.startRetry
    rw [hloader]
  · unfold State.port
    rw [ha]
    dsimp only
    rw [if_pos (by exact hp), ← readCommand_getElem?]
    rfl
  · rw [loaderPeriod_reading hl ha, if_neg (by exact Nat.not_le.2 hp), sampled_eq]
  · rw [loaderPeriod_reading hl ha, if_pos (by exact hp.ge), sampled_eq]
  · unfold exec execReadEnd
    rw [hl, ha]
    rfl
  · obtain ⟨d, hfold⟩ := foldl_reading hl ha level 33215 (by decide)
    rw [show 33216 = 33215 + 1 from rfl, List.range_succ, List.foldl_append, hfold]
    refine ((loaderPeriod_reads hl level 33215).trans (if_pos (by decide))).trans ?_
    have hbits : sampledBits level (33215 + 1) = image.flatMap bitsMsb := by
      have hlength : (image.flatMap bitsMsb).length = 4128 := by rw [length_flatMap_bitsMsb, hlen]
      exact sampledBits_eq (by rw [hlength]) fun i hi => hlevel i (by rw [← hlength]; exact hi)
    rw [hbits, imageOfBits_flatMap]

end Sys2Proof.Machine
end

section
/-! PROOFS. A sound image is taken whole (O21): the settings are those of its bytes, field by field. -/

namespace Sys2Proof.Machine

/-! ## Fields -/

theorem place_val {b : Byte} {n : Fin 8} (h : placeOf? b = some n) : n.val = b.toNat := by
  unfold placeOf? at h
  split at h
  · cases h; rfl
  · cases h

theorem place_map_val (b : Byte) : (placeOf? b).map Fin.val = if b.toNat < 8 then some b.toNat else none := by
  unfold placeOf?
  split <;> rfl

theorem classOfByte_number {b : Byte} {p : Class} (h : Class.ofByte? b = some p) : p.number = b.toNat := by
  revert h p
  have : ∀ b : Byte, ∀ p, Class.ofByte? b = some p → p.number = b.toNat := by
    intro b p
    unfold Class.ofByte?
    repeat' split
    all_goals rintro ⟨⟩
    all_goals subst_vars; rfl
  exact fun {p} h => this b p h

theorem classOfBits_number (b : BitVec 2) : (Class.ofBits b).number = b.toNat := by
  revert b
  decide

theorem getLsbD_iff (b : Byte) (k : Nat) : b.getLsbD k = true ↔ b.toNat / 2 ^ k % 2 = 1 := by
  rw [BitVec.getLsbD, Nat.testBit_eq_decide_div_mod_eq, decide_eq_true_iff]

theorem extract_toNat (b : Byte) (start len : Nat) : (b.extractLsb' start len).toNat = b.toNat / 2 ^ start % 2 ^ len := by
  rw [BitVec.extractLsb'_toNat, Nat.shiftRight_eq_div_pow]

theorem byte_eq_iff (b : Byte) (n : Nat) (h : n < 256) : b = BitVec.ofNat 8 n ↔ b.toNat = n := by
  rw [← BitVec.toNat_inj, BitVec.toNat_ofNat, Nat.mod_eq_of_lt h]

theorem inSet_eq_some {α : Type} {ok : Bool} {a b : α} (h : inSet ok a = some b) : ok = true ∧ a = b := by
  cases ok
  · cases h
  · exact ⟨rfl, Option.some.inj h⟩

/-! ## Records in a row -/

theorem getElem?_readRecords {α : Type} {read : Nat → Option α} {k n : Nat} {as : List α}
    (h : readRecords read k n = some as) {i : Nat} {a : α} (hi : as[i]? = some a) : read (k + i) = some a := by
  induction n generalizing k as i with
  | zero => cases h; simp at hi
  | succ n ih =>
    rw [readRecords_succ] at h
    obtain ⟨x, hx, hmap⟩ := Option.bind_eq_some_iff.1 h
    obtain ⟨rest, hrest, rfl⟩ := Option.map_eq_some_iff.1 hmap
    cases i with
    | zero =>
      obtain rfl := Option.some.inj hi
      exact hx
    | succ i =>
      rw [show k + (i + 1) = k + 1 + i by omega]
      exact ih hrest hi

theorem getElem_readEight {α : Type} {read : Nat → Option α} {v : Vector α 8}
    (h : (readRecords read 0 8).bind eightOf = some v) (k : Fin 8) : read k.val = some v[k] := by
  obtain ⟨as, has, hv⟩ := Option.bind_eq_some_iff.1 h
  unfold eightOf at hv
  split at hv
  · cases hv
    have := getElem?_readRecords has (i := k.val) (a := as[k.val]'(by omega)) (by simp)
    rw [Nat.zero_add] at this
    exact this
  · cases hv

/-! ## The parts -/

theorem channelOfImage_of_read {image : List Byte} {budget : Nat} {k : Fin 8} {c : ChannelSettings}
    (h : readChannel image budget k = some c) : channelOfImage image k c := by
  unfold readChannel at h
  dsimp only at h
  split at h
  · rename_i hr
    cases h
    have hw : ∀ i, imageWord image (10 + 7 * k.val + i) =
        256 * (imageByte image (10 + 7 * k.val + i)).toNat + (imageByte image (10 + 7 * k.val + (i + 1))).toNat :=
      fun i => imageWord_eq image _
    refine ⟨rfl, ?_, ?_, ?_, ?_, hw 3, hw 5⟩
    · rw [place_map_val]
      have h255 := byte_eq_iff (imageByte image (10 + 7 * k.val + 1)) 255 (by decide)
      rcases hr.2 with hg | hg
      · exact (if_pos hg).trans (if_neg (show ¬ (imageByte image (10 + 7 * k.val + 1)).toNat = 255 by omega)).symm
      · exact (if_neg (by rw [h255.1 hg]; decide)).trans (if_pos (h255.1 hg)).symm
    · exact (getLsbD_iff _ 0).trans (by rw [Nat.pow_zero, Nat.div_one])
    · exact getLsbD_iff _ 1
    · exact (classOfBits_number _).trans (extract_toNat _ 2 2)
  · cases h

theorem actionOfImage_of_read {action station target cls : Byte} {duration : Nat} {a : EdgeAction}
    (h : readEdgeAction action station target cls duration = some a) :
    actionOfImage action.toNat station target cls.toNat duration a := by
  unfold readEdgeAction at h
  dsimp only at h
  unfold actionOfImage
  generalize action.toNat = code at *
  split at h
  · rename_i hc
    obtain ⟨n, hn, rfl⟩ := Option.map_eq_some_iff.1 h
    exact ⟨by omega, fun _ => ⟨n, .urgent, 0, rfl, place_val hn⟩, by omega, by omega, by omega, by omega, by omega,
      by omega⟩
  split at h
  · rename_i hc
    split at h
    · rename_i n p hn hp
      cases h
      refine ⟨fun h1 => ?_, by omega, fun h3 => ?_, by omega, by omega, by omega, by omega, by omega⟩
      · subst h1; exact ⟨n, p, rfl, place_val hn, classOfByte_number hp⟩
      · subst h3; exact ⟨n, p, rfl, place_val hn, classOfByte_number hp⟩
    · cases h
  split at h
  · rename_i hc
    split at h
    · rename_i n p hn hp
      obtain ⟨-, rfl⟩ := inSet_eq_some h
      refine ⟨by omega, by omega, by omega, fun h4 => ?_, fun h5 => ?_, fun h6 => ?_, by omega, by omega⟩
      · subst h4; exact ⟨p, rfl, classOfByte_number hp⟩
      · subst h5; exact ⟨p, rfl, classOfByte_number hp⟩
      · subst h6; exact ⟨p, rfl, classOfByte_number hp⟩
    · cases h
  split at h
  · cases h
    exact ⟨by omega, by omega, by omega, by omega, by omega, by omega, fun _ => rfl, by omega⟩
  split at h
  · cases h
    exact ⟨by omega, by omega, by omega, by omega, by omega, by omega, by omega, fun _ => rfl⟩
  · cases h

theorem inputOfImage_of_read {image : List Byte} {k : Fin 8} {i : InputSettings}
    (h : readInputRecord image k = some i) : inputOfImage image k i := by
  unfold readInputRecord at h
  dsimp only at h
  have hbase : 66 + 8 * k.val + 0 = 66 + 8 * k.val := rfl
  have hmode := extract_toNat (imageByte image (66 + 8 * k.val)) 0 2
  have hedge := extract_toNat (imageByte image (66 + 8 * k.val)) 2 2
  have hhigh := getLsbD_iff (imageByte image (66 + 8 * k.val)) 4
  have htwo : ∀ (x : BitVec 2) (n : Nat), n < 4 → (x = BitVec.ofNat 2 n ↔ x.toNat = n) := fun x n hn => by
    rw [← BitVec.toNat_inj, BitVec.toNat_ofNat, Nat.mod_eq_of_lt hn]
  have hword : imageWord image (66 + 8 * k.val + 6) =
      256 * (imageByte image (66 + 8 * k.val + 6)).toNat + (imageByte image (66 + 8 * k.val + 7)).toNat :=
    imageWord_eq image _
  unfold inputOfImage
  dsimp only
  rw [hbase]
  rw [hword] at h
  generalize (imageByte image (66 + 8 * k.val)).extractLsb' 0 2 = mode at *
  generalize (imageByte image (66 + 8 * k.val)).extractLsb' 2 2 = edge at *
  generalize (imageByte image (66 + 8 * k.val)).getLsbD 4 = high at *
  generalize (imageByte image (66 + 8 * k.val)).toNat = first at *
  norm_num at hmode hedge hhigh
  split at h
  · rename_i hm
    have := (htwo mode 0 (by decide)).1 hm
    cases h
    exact ⟨fun _ => rfl, by omega, by omega⟩
  split at h
  · rename_i hm
    have := (htwo mode 1 (by decide)).1 hm
    split at h
    · rename_i action ha
      have hact := actionOfImage_of_read ha
      refine ⟨by omega, fun _ => ?_, by omega⟩
      split at h
      · rename_i he
        cases h
        exact ⟨.rising, action, rfl, hedge.symm.trans ((htwo edge 0 (by decide)).1 he), hact⟩
      split at h
      · rename_i he
        cases h
        exact ⟨.falling, action, rfl, hedge.symm.trans ((htwo edge 1 (by decide)).1 he), hact⟩
      split at h
      · rename_i he
        cases h
        exact ⟨.both, action, rfl, hedge.symm.trans ((htwo edge 2 (by decide)).1 he), hact⟩
      · cases h
    · cases h
  split at h
  · rename_i hm
    have := (htwo mode 2 (by decide)).1 hm
    cases h
    exact ⟨by omega, by omega, fun _ => ⟨high, rfl, hhigh⟩⟩
  · cases h

theorem selectOfImage_of_read {image : List Byte} {base : Nat} {select : MinuteSelect}
    (h : readSelect image base = some select) :
    let byte (j : Nat) : Nat := (imageByte image (base + j)).toNat
    let orAny (b : Nat) : Option Nat := if b = 255 then none else some b
    (byte 0 = 1 → ∃ day, select = .calendar (orAny (byte 1)) (orAny (byte 2)) day ∧
      (byte 3 = 0 → day = .any) ∧ (byte 3 = 2 → day = .date (byte 4)) ∧
      (byte 3 = 1 → ∃ set, day = .weekdays set ∧ set.toNat = byte 4 % 128)) ∧
    (byte 0 = 2 → select = .cyclic (256 * byte 1 + byte 2) (256 * byte 3 + byte 4)) := by
  have hany : ∀ (bound : Nat) (b : Byte) (o : Option Nat), readOrAny bound b = some o →
      o = if b.toNat = 255 then none else some b.toNat := by
    intro bound b o ho
    have h255 := byte_eq_iff b 255 (by decide)
    unfold readOrAny at ho
    split at ho
    · rename_i hb
      cases ho
      rw [if_pos (h255.1 hb)]
    · rename_i hb
      obtain ⟨-, rfl⟩ := inSet_eq_some ho
      rw [if_neg fun hn => hb (h255.2 hn)]
  have hday : ∀ (mode value : Byte) (day : DaySelect), readDay mode value = some day →
      (mode.toNat = 0 → day = .any) ∧ (mode.toNat = 2 → day = .date value.toNat) ∧
        (mode.toNat = 1 → ∃ set, day = .weekdays set ∧ set.toNat = value.toNat % 128) := by
    intro mode value day hd
    have hm : ∀ n, n < 256 → (mode = BitVec.ofNat 8 n ↔ mode.toNat = n) := byte_eq_iff mode
    unfold readDay at hd
    dsimp only at hd
    split at hd
    · rename_i h0
      have := (hm 0 (by decide)).1 h0
      cases hd
      exact ⟨fun _ => rfl, by omega, by omega⟩
    split at hd
    · rename_i h1
      have := (hm 1 (by decide)).1 h1
      obtain ⟨-, rfl⟩ := inSet_eq_some hd
      refine ⟨by omega, by omega, fun _ => ⟨_, rfl, ?_⟩⟩
      rw [BitVec.toNat_and]
      exact Nat.and_two_pow_sub_one_eq_mod value.toNat 7
    split at hd
    · rename_i h2
      have := (hm 2 (by decide)).1 h2
      obtain ⟨-, rfl⟩ := inSet_eq_some hd
      exact ⟨by omega, fun _ => rfl, by omega⟩
    · cases hd
  have hkind : ∀ n, n < 256 → (imageByte image base = BitVec.ofNat 8 n ↔ (imageByte image base).toNat = n) :=
    byte_eq_iff _
  dsimp only [Nat.add_zero]
  unfold readSelect at h
  dsimp only at h
  split at h
  · rename_i hk
    have := (hkind 1 (by decide)).1 hk
    split at h
    · rename_i m o d hm ho hd
      cases h
      rw [hany _ _ _ hm, hany _ _ _ ho]
      exact ⟨fun _ => ⟨d, rfl, hday _ _ _ hd⟩, by omega⟩
    · cases h
  split at h
  · rename_i hk
    have := (hkind 2 (by decide)).1 hk
    obtain ⟨-, rfl⟩ := inSet_eq_some h
    refine ⟨by omega, fun _ => ?_⟩
    rw [imageWord_eq, imageWord_eq]
  · cases h

theorem scheduleActionOfImage_of_read {action target cls : Byte} {duration : Nat} {a : ScheduleAction}
    (h : readScheduleAction action target cls duration = some a) :
    (action.toNat = 1 → ∃ n p, a = .start n p duration ∧ n.val = target.toNat ∧ p.number = cls.toNat) ∧
      (action.toNat = 2 → ∃ n, a = .stop n ∧ n.val = target.toNat) ∧
      (action.toNat = 3 → a = .inhibitOn target) ∧ (action.toNat = 4 → a = .inhibitOff target) := by
  have ha : ∀ n, n < 256 → (action = BitVec.ofNat 8 n ↔ action.toNat = n) := byte_eq_iff action
  unfold readScheduleAction at h
  split at h
  · rename_i h1
    have := (ha 1 (by decide)).1 h1
    split at h
    · rename_i c p hc hp
      cases h
      exact ⟨fun _ => ⟨c, p, rfl, place_val hc, classOfByte_number hp⟩, by omega, by omega, by omega⟩
    · cases h
  split at h
  · rename_i h2
    have := (ha 2 (by decide)).1 h2
    obtain ⟨n, hn, rfl⟩ := Option.map_eq_some_iff.1 h
    exact ⟨by omega, fun _ => ⟨n, rfl, place_val hn⟩, by omega, by omega⟩
  split at h
  · rename_i h3
    have := (ha 3 (by decide)).1 h3
    cases h
    exact ⟨by omega, by omega, fun _ => rfl, by omega⟩
  split at h
  · rename_i h4
    have := (ha 4 (by decide)).1 h4
    cases h
    exact ⟨by omega, by omega, by omega, fun _ => rfl⟩
  · cases h

theorem entryOfImage_of_read {image : List Byte} {k : Nat} {entry : Option ScheduleEntry}
    (h : readScheduleRecord image k = some entry) : entryOfImage image k entry := by
  have h0 : imageByte image (130 + 12 * k) = 0 ↔ (imageByte image (130 + 12 * k)).toNat = 0 :=
    byte_eq_iff _ 0 (by decide)
  unfold readScheduleRecord at h
  dsimp only at h
  unfold entryOfImage
  dsimp only [Nat.add_zero]
  split at h
  · rename_i hk
    cases h
    exact ⟨fun _ => rfl, fun hn => absurd (h0.1 hk) hn⟩
  · rename_i hk
    split at h
    · rename_i select action hs ha
      obtain ⟨-, rfl⟩ := inSet_eq_some h
      obtain ⟨hcal, hcyc⟩ := selectOfImage_of_read hs
      obtain ⟨a1, a2, a3, a4⟩ := scheduleActionOfImage_of_read ha
      rw [imageWord_eq] at a1
      refine ⟨fun hn => absurd (h0.2 hn) hk, fun _ => ⟨_, rfl, ?_, hcal, hcyc, a1, a2, a3, a4⟩⟩
      rw [BitVec.toNat_and, word16_toNat]
      exact Nat.and_two_pow_sub_one_eq_mod _ 12
    · cases h

/-- Settings read of an image are those of its bytes (R161 to R164). -/
theorem settingsOfImage_of_read {image : List Byte} {c : Settings} (h : readSettings image = some c) :
    settingsOfImage image c := by
  unfold readSettings at h
  dsimp only at h
  split at h
  · split at h
    · rename_i channels inputs schedule hc hi hs
      cases h
      refine ⟨rfl, rfl, rfl, rfl, rfl, ?_, fun k => channelOfImage_of_read (getElem_readEight hc k),
        fun k => inputOfImage_of_read (getElem_readEight hi k), length_of_readRecords hs, fun k entry hk => ?_⟩
      · exact BitVec.toNat_setWidth _ _
      · have := getElem?_readRecords hs hk
        rw [Nat.zero_add] at this
        exact entryOfImage_of_read this
    · cases h
  · cases h

/-! ## The entry into LISTENING -/

theorem endRead_of_settings {s : State} {bytes : List Byte} {c : Settings} (hf : formFailure bytes = none)
    (hr : readSettings bytes = some c) : s.endRead bytes = (s.readChecked .sound .idle).takeImage c := by
  unfold State.endRead
  rw [hf]
  dsimp only
  rw [hr]

theorem sampledInputs_getElem (settings : Vector InputSettings 8) (pins : Vector Bool 8) (n : InputIx) :
    (sampledInputs settings pins)[n] = { taken := if settings[n] = .unused then none else some pins[n], debounce := 0 } := by
  unfold sampledInputs
  simp only [Fin.getElem_fin, Vector.getElem_ofFn]
  cases settings[n.val] <;> rfl

/-- Settles O21. -/
theorem soundImageEntersListening : Obligations.SoundImageEntersListening := by
  refine ⟨fun bytes c => settingsOfImage_of_read, fun bytes c s hl hr hf hc => ?_⟩
  have hphase := ((isLoading_iff s).1 hl).1
  rw [exec_readEnd_of_reading bytes hl hr, endRead_of_settings hf hc]
  refine ⟨_, rfl, rfl, rfl, rfl, rfl, rfl, fun n => sampledInputs_getElem c.inputs s.pins n, rfl, rfl, fun n hn => ?_⟩
  have hoff : ((s.readChecked .sound .idle).takeImage c).channelState n = .off := hn
  unfold State.outputLevel
  rw [if_pos ⟨hphase, rfl⟩, hoff]
  change (if (false && _) != c.channels[n].activeLow then DrivenLevel.high else .low) = _
  cases c.channels[n].activeLow <;> rfl

end Sys2Proof.Machine
end

section
/-! PROOFS. The membership controller's timers (O32, O33): what the station's ticks make of them. -/

namespace Sys2Proof.Machine

/-! ## A tick of a working station, part by part -/

/-- All run and rest timers counted (R89, R92). -/
def State.tickCounted (s : State) : State := { s with channels := s.channels.map Channel.counted }

/-- The allowances that ran out expired (R90). -/
def State.tickExpired (s : State) : State :=
  allEight.foldl (fun t n => if (s.tickCounted.channel n).runOut then t.expireRun n else t) s.tickCounted

/-- The rests that ended judged (R92). -/
def State.tickRested (s : State) : State :=
  if allEight.any fun n => (s.channel n).rest == 1 then s.tickExpired.judge else s.tickExpired

/-- The inputs read (R135). -/
def State.tickRead (s : State) : State := allEight.foldl (fun t n => t.readInput n s.pins[n]) s.tickRested

theorem workTick_eq (s : State) : s.workTick = s.tickRead.tickBeacon.tickMute := rfl

theorem tick_of_working {s : State} (h : s.member.state.working = true) : s.tick = s.tickRead.tickBeacon.tickMute := by
  rw [← workTick_eq]
  unfold State.tick
  cases hm : s.member.state <;> rw [hm] at h <;> first | rfl | cases h

theorem expireRun_work (s : State) (n : ChannelIx) : ClaimWork s (s.expireRun n) := by
  unfold State.expireRun
  repeat' split
  all_goals first | exact .refl s | exact (switchOff_work s n).trans (judge_work _)

theorem tickExpired_work (s : State) : ClaimWork s s.tickExpired := by
  have h : ClaimWork s s.tickCounted := rfl
  refine h.trans (ClaimWork.foldl (fun t n => ?_) _ _)
  split
  · exact expireRun_work t n
  · exact .refl t

theorem tickRested_work (s : State) : ClaimWork s s.tickRested := by
  unfold State.tickRested
  split
  · exact (tickExpired_work s).trans (judge_work _)
  · exact tickExpired_work s

theorem InputWork.foldl {α : Type} {f : State → α → State} (hf : ∀ s a, InputWork s (f s a)) (l : List α) (s : State) :
    InputWork s (l.foldl f s) := by
  induction l generalizing s with
  | nil => exact .refl s
  | cons a l ih => exact (hf s a).trans (ih _)

theorem tickRead_work (s : State) : InputWork s s.tickRead :=
  (tickRested_work s).maskWork.inputWork.trans (InputWork.foldl (fun t n => readInput_work t n _) _ _)

theorem InputWork.member {s t : State} (h : InputWork s t) : t.member = s.member := by rw [← h]

theorem InputWork.settings {s t : State} (h : InputWork s t) : t.settings = s.settings := by rw [← h]

/-! ## The BEACON offer through a tick -/

/-- What a predicate has to be kept by so that a tick's expiries and reads keep it. -/
structure KeepsTick (P : State → Prop) : Prop where
  counted : ∀ s, P s → P s.tickCounted
  move : ∀ s t, Move s t → P s → P t
  masks : ∀ s m, P s → P (s.setMasks m)
  input : ∀ s n i, P s → P (s.setInput n i)
  raises : ∀ s c, P s → P (s.raiseCommand c)

namespace KeepsTick

variable {P : State → Prop}

theorem moves (K : KeepsTick P) {s t : State} (h : Moves s t) (hs : P s) : P t := Moves.keeps K.move h hs

theorem takeLevel (K : KeepsTick P) {s : State} (n : InputIx) (high : Bool) (hs : P s) : P (s.takeLevel n high) := by
  have hin := K.input s n { taken := some high, debounce := 0 } hs
  unfold State.takeLevel
  dsimp only
  split
  · exact hs
  · rename_i action _
    split
    · cases action with
      | act a m cls d => exact K.moves (act_moves _ a m cls d) hin
      | send => exact K.raises _ _ hin
      | inhibitSet => exact K.raises _ _ hin
      | inhibitClear => exact K.raises _ _ hin
    · exact hin
  · exact K.moves (changeMasks_moves _ _) (K.masks _ _ hin)

theorem readInput (K : KeepsTick P) {s : State} (n : InputIx) (high : Bool) (hs : P s) : P (s.readInput n high) := by
  unfold State.readInput
  repeat' split
  all_goals first | exact hs | exact K.takeLevel n _ hs | exact K.input s n _ hs

theorem foldl {α : Type} {f : State → α → State} (hf : ∀ s a, P s → P (f s a)) (l : List α) {s : State} (hs : P s) :
    P (l.foldl f s) := by
  induction l generalizing s with
  | nil => exact hs
  | cons a l ih => exact ih (hf s a hs)

theorem expireRun (K : KeepsTick P) {s : State} (n : ChannelIx) (hs : P s) : P (s.expireRun n) := by
  unfold State.expireRun
  split
  · rename_i d hd
    split
    · exact K.moves ((switchOff_moves (by rw [hd]; rfl)).trans (judge_moves _)) hs
    · exact hs
  · exact hs

theorem tickRead (K : KeepsTick P) {s : State} (hs : P s) : P s.tickRead := by
  have hexpired : P s.tickExpired := by
    refine foldl (fun t n ht => ?_) _ (K.counted s hs)
    split
    · exact K.expireRun n ht
    · exact ht
  refine foldl (fun t n ht => K.readInput n _ ht) _ ?_
  unfold State.tickRested
  split
  · exact K.moves (judge_moves _) hexpired
  · exact hexpired

end KeepsTick

/-- No work of the claim unit, the channels or the inputs places or withdraws the BEACON offer. -/
theorem beaconOffer_keepsTick (b : Bool) : KeepsTick fun s => s.line.offers.beacon = b where
  counted _ h := h
  move s _ hm h := by
    cases hm with
    | serve e => unfold State.serveEntry; split <;> exact h
    | _ => exact h
  masks _ _ h := h
  input _ _ _ h := h
  raises s c h := by
    unfold State.raiseCommand
    repeat' split
    all_goals exact h

/-! ## The beacon timer -/

theorem tickMute_of_ne {s : State} (h : s.member.state ≠ .mute) : s.tickMute = s := if_neg h

theorem tickBeacon_tickMute {s : State} (h : s.member.state ≠ .mute) : s.tickBeacon.tickMute = s.tickBeacon := by
  have hstate : s.tickBeacon.member.state = s.member.state := by
    unfold State.tickBeacon
    repeat' split
    all_goals rfl
  exact tickMute_of_ne (by rw [hstate]; exact h)

/-- A tick of a station on the line counts the beacon timer (R56). -/
theorem tick_beacon {s : State} {t : Nat} (ho : s.member.state.online = true) (hb : s.member.beaconTimer = .counting t) :
    (t + 1 < s.settings.beaconPeriod →
        s.tick.member = { s.member with beaconTimer := .counting (t + 1) } ∧ s.tick.settings = s.settings ∧
          s.tick.line.offers.beacon = s.line.offers.beacon) ∧
      (s.settings.beaconPeriod ≤ t + 1 →
        s.tick.member = { s.member with beaconTimer := .expired } ∧ s.tick.line.offers.beacon = true) := by
  have hw := tickRead_work s
  have hbeacon := (beaconOffer_keepsTick _).tickRead (s := s) rfl
  have hm := hw.member
  have hc := hw.settings
  have hnot : s.member.state ≠ .mute := by
    intro hmute
    rw [hmute] at ho
    cases ho
  rw [tick_of_working (MemberState.working_of_online ho)]
  generalize s.tickRead = u at *
  have hu : u.tickBeacon =
      if s.settings.beaconPeriod ≤ t + 1 then u.expireBeaconTimer
      else u.setMember { u.member with beaconTimer := .counting (t + 1) } := by
    unfold State.tickBeacon
    rw [hm, if_pos ho, hb, hc]
  rw [tickBeacon_tickMute (by rw [hm]; exact hnot), hu]
  refine ⟨fun hlt => ?_, fun hle => ?_⟩
  · rw [if_neg (Nat.not_le.2 hlt)]
    exact ⟨by rw [← hm]; rfl, hc, hbeacon⟩
  · rw [if_pos hle]
    exact ⟨by rw [← hm]; rfl, rfl⟩

/-- Settles O33. -/
theorem beaconTimerPlacesTheOffer : Obligations.BeaconTimerPlacesTheOffer := by
  refine ⟨fun s k ho hk => ?_, fun s p ho h0 hp hpos => ?_⟩
  · unfold exec execBeaconTimerExpiry
    rw [ho, hk]
    rfl
  have hperiod : s.settings.beaconPeriod = p := hp.symm
  have counted : ∀ k, k < p →
      (State.tick^[k] s).member = { s.member with beaconTimer := .counting k } ∧
        (State.tick^[k] s).settings = s.settings ∧
        (State.tick^[k] s).line.offers.beacon = s.line.offers.beacon := by
    intro k hk
    induction k with
    | zero => exact ⟨by rw [← h0]; rfl, rfl, rfl⟩
    | succ k ih =>
      obtain ⟨hm, hc, hb⟩ := ih (by omega)
      rw [Function.iterate_succ_apply']
      generalize State.tick^[k] s = u at *
      obtain ⟨h1, h2, h3⟩ := (tick_beacon (s := u) (t := k) (by rw [hm]; exact ho) (by rw [hm])).1
        (by rw [hc, hperiod]; exact hk)
      exact ⟨by rw [h1, hm], h2.trans hc, h3.trans hb⟩
  refine ⟨fun k hk => ⟨(counted k hk).1, (counted k hk).2.2⟩, ?_⟩
  obtain ⟨k, rfl⟩ : ∃ k, p = k + 1 := ⟨p - 1, by omega⟩
  obtain ⟨hm, hc, -⟩ := counted k (by omega)
  rw [Function.iterate_succ_apply']
  generalize State.tick^[k] s = u at *
  obtain ⟨h1, h2⟩ := (tick_beacon (s := u) (t := k) (by rw [hm]; exact ho) (by rw [hm])).2
    (by rw [hc, hperiod])
  exact ⟨by rw [h1, hm], h2⟩

/-! ## The mute timer -/

theorem leaveMute_member (s : State) :
    s.leaveMute.member = { s.member with
      state := .listening, beaconsHeard := 0, authHeard := false, beaconTimer := .counting 0, muteTimer := 0 } :=
  (judge_work ((s.setMember { s.member.listening with muteTimer := 0 }).setLine s.line.joined)).member

/-- What the end of MUTE can change. -/
theorem leaveMute_frame (s : State) :
    s.leaveMute = { s with
      member := s.leaveMute.member, line := s.leaveMute.line, claims := s.leaveMute.claims
      channels := s.leaveMute.channels } := by
  have hw := judge_work ((s.setMember { s.member.listening with muteTimer := 0 }).setLine s.line.joined)
  unfold State.leaveMute
  rw [← hw]
  rfl

/-- Outside SYNCED the judgement offers nothing. -/
theorem judge_line_of_not_synced {s : State} (h : s.member.state ≠ .synced) : s.judge.line = s.line := by
  have ht : s.takes = none := by
    unfold State.takes
    exact if_neg fun hs => h hs.1
  rw [judge_line, ht]

theorem leaveMute_line (s : State) :
    s.leaveMute.line = { s.line with activity := .counting, idleCount := 0, courtesyGap := false } :=
  judge_line_of_not_synced (s := (s.setMember { s.member.listening with muteTimer := 0 }).setLine s.line.joined) nofun

/-- A tick in MUTE counts the mute timer, and leaves MUTE with its last (R75). -/
theorem tick_mute {s : State} (hmute : s.member.state = .mute) :
    (1 < s.member.muteTimer → s.tick.member = { s.member with muteTimer := s.member.muteTimer - 1 }) ∧
      (s.member.muteTimer ≤ 1 →
        s.tick.member = { s.member with
          state := .listening, beaconsHeard := 0, authHeard := false, beaconTimer := .counting 0, muteTimer := 0 } ∧
        s.tick.line.activity = .counting ∧ s.tick.line.idleCount = 0 ∧ s.tick.line.courtesyGap = false) := by
  have hm := (tickRead_work s).member
  rw [tick_of_working (by rw [hmute]; rfl)]
  generalize s.tickRead = u at *
  have hu : u.tickBeacon = u := by
    unfold State.tickBeacon
    rw [hm, hmute]
    rfl
  have ht : u.tickMute =
      if s.member.muteTimer ≤ 1 then u.leaveMute
      else u.setMember { u.member with muteTimer := u.member.muteTimer - 1 } := by
    unfold State.tickMute
    rw [hm, if_pos hmute]
  rw [hu, ht]
  refine ⟨fun hlt => ?_, fun hle => ?_⟩
  · rw [if_neg (Nat.not_le.2 hlt), ← hm]
    rfl
  · rw [if_pos hle, leaveMute_line]
    exact ⟨by rw [leaveMute_member, hm], rfl, rfl, rfl⟩

/-- Settles O32. -/
theorem muteEndsInListening : Obligations.MuteEndsInListening := by
  refine ⟨fun s hm => ?_, fun _ => rfl, fun s k hmute hk => ?_⟩
  · have he : exec .muteTimerExpiry s = .next s.leaveMute := congrArg _ (if_pos hm)
    exact ⟨_, he, leaveMute_member s, leaveMute_line s, leaveMute_frame s,
      judge_channel ((s.setMember { s.member.listening with muteTimer := 0 }).setLine s.line.joined)⟩
  have counted : ∀ j, j ≤ k → (State.tick^[j] s).member = { s.member with muteTimer := k + 1 - j } := by
    intro j hj
    induction j with
    | zero => rw [Nat.sub_zero, ← hk]; rfl
    | succ j ih =>
      have hm := ih (by omega)
      rw [Function.iterate_succ_apply']
      generalize State.tick^[j] s = u at *
      have htimer : u.member.muteTimer = k + 1 - j := by rw [hm]
      rw [(tick_mute (s := u) (by rw [hm]; exact hmute)).1 (by omega), htimer, hm]
      have : k + 1 - j - 1 = k + 1 - (j + 1) := by omega
      rw [this]
  have hm := counted k le_rfl
  refine ⟨counted, ?_⟩
  rw [Function.iterate_succ_apply']
  generalize State.tick^[k] s = u at *
  obtain ⟨h1, h2⟩ := (tick_mute (s := u) (by rw [hm]; exact hmute)).2 (by rw [hm]; show k + 1 - k ≤ 1; omega)
  exact ⟨by rw [h1, hm], h2⟩

end Sys2Proof.Machine
end

section
/-! PROOFS. STATUS (O59), the fraction step (O57), the minute event (O58) and the adjustment by a TIMESET (O51). -/

namespace Sys2Proof.Machine

/-! ## STATUS -/

theorem FaultSet.anyLatched_iff (f : FaultSet) :
    f.anyLatched = true ↔ f.diverged = true ∨ f.mutedVeto = true ∨ f.mutedSend = true ∨ f.profileClash = true ∨
      f.outQueueFull = true := by
  simp only [FaultSet.anyLatched, Bool.or_eq_true, or_assoc]

/-- The pulses stand in the first n spans of 16 ticks, each in the first half of its span (R206). -/
theorem blinkAsserted_iff (n tick : Nat) :
    blinkAsserted n tick = true ↔ ∃ k, k < n ∧ 16 * k ≤ tick ∧ tick < 16 * k + 8 := by
  simp only [blinkAsserted, Config.blinkHalf, Bool.and_eq_true, decide_eq_true_eq]
  constructor
  · rintro ⟨h1, h2⟩
    exact ⟨tick / 16, by omega, by omega, by omega⟩
  · rintro ⟨k, h1, h2, h3⟩
    omega

theorem statusAsserted_halted {s : State} (hp : s.phase = .running) (hm : s.member.state = .halted) :
    s.statusAsserted = blinkAsserted s.report.faults.haltCode s.report.blink := by
  unfold State.statusAsserted
  rw [if_pos hp, hm]

/-- The next change of level is one: at most 8 ticks on within the pulses, and else at the end of the cycle (R206). -/
theorem blinkAsserted_nextBlinkChange {n tick : Nat} (hn : 1 ≤ n) (ht : tick < blinkCycle n) :
    blinkAsserted n (nextBlinkChange n tick) = !blinkAsserted n tick := by
  rw [Bool.eq_not_iff, ne_eq, Bool.eq_iff_iff]
  simp only [blinkAsserted, nextBlinkChange, blinkCycle, Config.blinkHalf, Config.blinkGap, Bool.and_eq_true,
    decide_eq_true_eq] at ht ⊢
  split <;> omega

/-- In HALTED a period counts the tick divider and the blink code alone (R79, R105). -/
theorem oscillatorPeriod_halted {s : State} (hp : s.phase = .running) (hm : s.member.state = .halted) :
    s.oscillatorPeriod = s.tickPeriod := by
  have hl : s.loaderPeriod = s := by
    unfold State.loaderPeriod State.isLoading
    simp [hp, hm]
  have hc : s.phasePeriod = s := by
    unfold State.phasePeriod State.calendarCounts
    simp [hp, hm]
  unfold State.oscillatorPeriod
  rw [hp]
  dsimp only
  rw [hl, hc]

theorem tick_halted {s : State} (hm : s.member.state = .halted) :
    s.tick = { s with report := { s.report with
      blink := (s.report.blink + 1) % (16 * s.report.faults.haltCode + 128) } } := by
  unfold State.tick
  rw [hm]
  rfl

theorem tickPeriod_halted {s : State} (hm : s.member.state = .halted) :
    s.tickPeriod.calendar = s.calendar ∧ s.tickPeriod.channels = s.channels ∧ s.tickPeriod.inputs = s.inputs := by
  unfold State.tickPeriod
  split
  · rw [tick_halted (by exact hm)]
    exact ⟨rfl, rfl, rfl⟩
  · exact ⟨rfl, rfl, rfl⟩

/-- Settles O59. -/
theorem statusFollowsTheState : Obligations.StatusFollowsTheState := by
  refine ⟨fun s => ⟨fun hp => ?_, fun hp hm => ?_, fun hp ho => ?_, fun hp hm => ?_⟩,
    fun n tick => ⟨rfl, blinkAsserted_iff n tick⟩, fun f => ⟨fun h => ?_, fun h h' => ?_, fun h h' h'' => ?_,
    fun h h' h'' h''' => ?_⟩, fun s f => rfl, fun k s => ⟨_, rfl, rfl⟩, fun s hp hm hc hb => ?_⟩
  · rw [State.statusAsserted, if_neg hp]
  · rw [State.statusAsserted, if_pos hp, hm]
  · have hs : s.statusAsserted = (s.report.faults.anyLatched || s.report.faults.joinStalled) := by
      rw [State.statusAsserted, if_pos hp]
      cases hm : s.member.state <;> rw [hm] at ho <;> first | rfl | cases ho
    rw [hs, Bool.or_eq_true, FaultSet.anyLatched_iff]
    simp only [or_assoc]
  · rw [State.statusAsserted, if_pos hp, hm]
  · simp [FaultSet.haltCode, h]
  · simp [FaultSet.haltCode, h, h']
  · simp [FaultSet.haltCode, h, h', h'']
  · simp [FaultSet.haltCode, h, h', h'', h''']
  · have hs := statusAsserted_halted hp hm
    rw [oscillatorPeriod_halted hp hm]
    obtain ⟨h1, h2, h3⟩ := tickPeriod_halted hm
    refine ⟨hs, tick_halted hm, h1, h2, h3,
      s.setReport { s.report with blink := nextBlinkChange s.report.faults.haltCode s.report.blink }, ?_, rfl,
      nextBlinkChange_lt _ _, ?_⟩
    · change execStatusBlink s = _
      rw [execStatusBlink, if_pos hm]
    · rw [hs, ← blinkAsserted_nextBlinkChange hc hb]
      exact statusAsserted_halted hp hm

/-! ## The fraction step -/

theorem minuteNumber_eq_div {v : CalendarValue} (h : v.inRange = true) :
    minuteNumber v = fractionPosition v / 3840 := by
  obtain ⟨-, -, -, -, -, -, -, -, h9, h10⟩ := v.inRange_iff.1 h
  unfold fractionPosition
  omega

/-- A step of the fraction changes the minute number exactly where it carries into the minute (R102, R112). -/
theorem minuteNumber_stepFraction_ne_iff {v : CalendarValue} (h : v.inRange = true) :
    minuteNumber (stepFraction v) ≠ minuteNumber v ↔ carriesIntoMinute v = true := by
  obtain ⟨hr, hp⟩ := stepFraction_spec h
  have hlt := fractionPosition_lt h
  obtain ⟨-, -, -, -, -, -, -, -, h9, h10⟩ := v.inRange_iff.1 h
  have hf : fractionPosition v = minuteNumber v * 3840 + v.second * 64 + v.fraction := rfl
  rw [minuteNumber_eq_div hr, minuteNumber_eq_div h, hp]
  simp only [carriesIntoMinute, Bool.and_eq_true, decide_eq_true_eq, Config.cycleFractions] at hlt ⊢
  omega

/-- The state after a fraction step, the minute event apart (R102). -/
def State.stepped (s : State) : State :=
  s.setCalendar { s.calendar with value := stepFraction s.calendar.value, phase := 0 }

theorem fractionStep_eq (s : State) :
    s.fractionStep =
      if s.calendar.valid && carriesIntoMinute s.calendar.value && s.member.state.working then
        s.stepped.minuteEvent (minuteNumber s.stepped.calendar.value)
      else s.stepped := rfl

/-- What a minute event can reach (R122 to R130). -/
def TimeWork (s t : State) : Prop :=
  t = { s with
    lastMinute := t.lastMinute, claims := t.claims, channels := t.channels, masks := t.masks, line := t.line
    report := t.report }

theorem minuteEvent_timeWork (s : State) (minute : Nat) : TimeWork s (s.minuteEvent minute) := by
  rcases minuteEvent_cases s minute with he | ⟨last, t, u, -, -, -, hw, hu, he⟩ <;> rw [he]
  · rfl
  · unfold TimeWork
    rw [← hw] at hu
    rcases hu with rfl | ⟨n, rfl⟩ <;> rfl

theorem fractionStep_timeWork (s : State) : TimeWork s.stepped s.fractionStep := by
  rw [fractionStep_eq]
  split
  · exact minuteEvent_timeWork _ _
  · rfl

theorem exec_fractionStep {s : State} (hp : s.phase = .running) (hm : s.member.state ≠ .halted) :
    exec .fractionStep s = .next s.fractionStep := by
  change execFractionStep s = _
  rw [execFractionStep, if_pos (by simp [State.calendarCounts, hp, hm])]

theorem phasePeriod_count {s : State} (hp : s.phase = .running) (hm : s.member.state ≠ .halted)
    (h : s.calendar.phase < 511) :
    s.phasePeriod = { s with calendar := { s.calendar with phase := s.calendar.phase + 1 } } := by
  unfold State.phasePeriod
  rw [if_pos (by simp [State.calendarCounts, hp, hm]), if_neg (by change ¬ 512 ≤ _; omega), State.setCalendar]

theorem phasePeriod_step {s : State} (hp : s.phase = .running) (hm : s.member.state ≠ .halted)
    (h : s.calendar.phase = 511) : s.phasePeriod = s.fractionStep := by
  unfold State.phasePeriod
  rw [if_pos (by simp [State.calendarCounts, hp, hm]), if_pos (by rw [h])]

theorem phasePeriod_iterate {s : State} (hp : s.phase = .running) (hm : s.member.state ≠ .halted)
    (h : s.calendar.phase = 0) (k : Nat) (hk : k < 512) :
    State.phasePeriod^[k] s = { s with calendar := { s.calendar with phase := k } } := by
  induction k with
  | zero => rw [Function.iterate_zero_apply, ← h]
  | succ k ih =>
    rw [Function.iterate_succ_apply', ih (by omega),
      phasePeriod_count (by exact hp) (by exact hm) (by change k < 511; omega)]

/-- Settles O57. -/
theorem fractionStepCounts : Obligations.FractionStepCounts := by
  refine ⟨fun s => ⟨fun h => ?_, fun hp hm => ⟨phasePeriod_count hp hm, fun h => ?_, fun h => ⟨
    phasePeriod_iterate hp hm h, ?_⟩⟩⟩, fun s hinv hp hm => ?_⟩
  · unfold State.phasePeriod State.calendarCounts
    rw [if_neg]
    rcases h with h | h <;> simp [h]
  · rw [exec_fractionStep hp hm, phasePeriod_step hp hm h]
  · rw [exec_fractionStep hp hm, Function.iterate_succ_apply', phasePeriod_iterate hp hm h 511 (by decide),
      phasePeriod_step (by exact hp) (by exact hm) rfl]
    rfl
  · have hr := hinv.1
    have hcal : s.fractionStep.calendar = s.stepped.calendar := by rw [fractionStep_timeWork s]
    have hw := fractionStep_timeWork s
    obtain ⟨hr', hp'⟩ := stepFraction_spec hr
    have hne := minuteNumber_stepFraction_ne_iff hr
    have hevent : s.calendar.valid = true → s.member.state.working = true →
        minuteNumber s.stepped.calendar.value ≠ minuteNumber s.calendar.value →
        s.fractionStep = s.stepped.minuteEvent (minuteNumber s.stepped.calendar.value) := fun hv hwk h => by
      rw [fractionStep_eq, hv, hwk, hne.1 h]
      rfl
    refine ⟨s.fractionStep, exec_fractionStep hp hm, ?_⟩
    rw [hcal]
    refine ⟨hp', hr', rfl, rfl, hw, fun h => ?_, hevent, fun last hv hwk hl h hd => ?_⟩
    · rw [fractionStep_eq, if_neg]
      · rfl
      · have hc : s.calendar.valid = false ∨ carriesIntoMinute s.calendar.value = false :=
          h.imp_right fun h => Bool.eq_false_iff.2 fun hc => hne.2 hc h
        rcases hc with hc | hc <;> simp [hc]
    · rw [hevent hv hwk h]
      unfold State.minuteEvent
      rw [show s.stepped.lastMinute = some last from hl]
      dsimp only
      rw [hd, if_pos (by decide)]

/-! ## The minute event -/

theorem forwardDistance_eq {last minute : Nat} (hl : last < 52596000) :
    (forwardDistance last minute : Int) = ((minute : Int) - last) % 52596000 := by
  simp only [forwardDistance, Config.cycleMinutes]
  omega

theorem minuteEvent_short {s : State} {last minute : Nat} (h : s.lastMinute = some last)
    (h1 : 1 ≤ forwardDistance last minute) (h3 : forwardDistance last minute ≤ 3) :
    s.minuteEvent minute =
      { s.evaluateAfter last (forwardDistance last minute) with lastMinute := some minute } := by
  unfold State.minuteEvent
  rw [h]
  dsimp only
  rw [if_pos ⟨h1, by exact h3⟩]

theorem minuteEvent_long {s : State} {last minute : Nat} (h : s.lastMinute = some last)
    (h4 : 4 ≤ forwardDistance last minute) (hh : forwardDistance last minute ≤ 26297999) :
    s.minuteEvent minute =
      { (s.evaluateMinute minute).countMissed (forwardDistance last minute - 1) with lastMinute := some minute } := by
  unfold State.minuteEvent
  rw [h]
  dsimp only
  rw [if_neg (by change ¬ (1 ≤ _ ∧ _ ≤ 3); omega), if_pos (by change 3 < _ ∧ _ < 26298000; omega)]

theorem minuteEvent_none {s : State} {last minute : Nat} (h : s.lastMinute = some last)
    (hd : forwardDistance last minute = 0 ∨ 26298000 ≤ forwardDistance last minute) : s.minuteEvent minute = s := by
  unfold State.minuteEvent
  rw [h]
  dsimp only
  rw [if_neg (by change ¬ (1 ≤ _ ∧ _ ≤ 3); omega), if_neg (by change ¬ (3 < _ ∧ _ < 26298000); omega)]

/-- The minute of an event stands as many minutes after the last-evaluated one as the forward distance says (R126). -/
theorem add_forwardDistance {last minute : Nat} (hl : last < 52596000) (hm : minute < 52596000) :
    (last + forwardDistance last minute) % 52596000 = minute := by
  simp only [forwardDistance, Config.cycleMinutes]
  omega

theorem matchesOrAny_iff (selected : Option Nat) (value : Nat) :
    matchesOrAny selected value = true ↔ selected = none ∨ selected = some value := by
  cases selected <;> simp [matchesOrAny]

theorem DaySelect.selects_iff (mode : DaySelect) (weekday day : Nat) :
    mode.selects weekday day = true ↔
      mode = .any ∨ (∃ set, mode = .weekdays set ∧ set.getLsbD weekday = true) ∨ mode = .date day := by
  cases mode <;> simp [DaySelect.selects]

theorem MinuteSelect.selects_iff (select : MinuteSelect) (minute : Nat) :
    select.selects minute = true ↔
      (∀ m h day, select = .calendar m h day →
        (m = none ∨ m = some (minute % 60)) ∧ (h = none ∨ h = some (minute % 1440 / 60)) ∧
          (day = .any ∨ (∃ set, day = .weekdays set ∧ set.getLsbD ((6 + minute / 1440) % 7) = true) ∨
            day = .date (dateOfDay (minute / 1440)).2.2)) ∧
      ∀ period offset, select = .cyclic period offset → minute % 1440 % period = offset := by
  have h60 : minute % 1440 % 60 = minute % 60 := by omega
  cases select with
  | calendar m h day =>
    simp only [MinuteSelect.selects, Bool.and_eq_true, matchesOrAny_iff, DaySelect.selects_iff, h60, weekdayOf]
    constructor
    · rintro ⟨⟨h1, h2⟩, h3⟩
      refine ⟨?_, nofun⟩
      rintro _ _ _ ⟨⟩
      exact ⟨h1, h2, h3⟩
    · rintro ⟨hc, -⟩
      obtain ⟨h1, h2, h3⟩ := hc _ _ _ rfl
      exact ⟨⟨h1, h2⟩, h3⟩
  | cyclic period offset =>
    simp only [MinuteSelect.selects, beq_iff_eq]
    constructor
    · intro h
      refine ⟨nofun, ?_⟩
      rintro _ _ ⟨⟩
      exact h
    · exact fun h => h.2 _ _ rfl

theorem ScheduleEntry.selects_iff (e : ScheduleEntry) (minute : Nat) :
    e.selects minute = true ↔
      e.months.getLsbD ((dateOfDay (minute / 1440)).2.1 - 1) = true ∧ e.select.selects minute = true := by
  simp only [ScheduleEntry.selects, Bool.and_eq_true, inMonths]

theorem MaskWork.untouched {s t : State} (h : MaskWork s t) :
    t = { s with masks := t.masks, claims := t.claims, channels := t.channels, line := t.line } := by
  rw [← h]

theorem inhibited_of_fewer {s : State} {groups : GroupMask} {n : ChannelIx}
    (h : (s.setMasks { s.masks with schedule := s.masks.schedule &&& ~~~groups }).inhibited n = true) :
    s.inhibited n = true := by
  unfold State.inhibited groupInhibited at h ⊢
  change (match (s.channelSettings n).group with | some g => _ | none => _) = true at h
  cases hg : (s.channelSettings n).group with
  | none => rw [hg] at h; exact h
  | some g =>
    rw [hg] at h
    simp only [InhibitMasks.effective, State.setMasks, BitVec.getLsbD_or, BitVec.getLsbD_and, Bool.or_eq_true,
      Bool.and_eq_true] at h ⊢
    tauto

/-- Masks that inhibit no further channel only have the claim unit judge afresh (R94, R97). -/
theorem changeMasks_of_fewer {s : State} {m : InhibitMasks}
    (h : ∀ n, (s.setMasks m).inhibited n = true → s.inhibited n = true) : s.changeMasks m = (s.setMasks m).judge := by
  have hid : (fun (t : State) n => if (s.setMasks m).inhibited n && !s.inhibited n then t.becomeInhibited n else t) =
      fun t _ => t := by
    funext t n
    rw [if_neg]
    intro hc
    rw [Bool.and_eq_true, Bool.not_eq_true'] at hc
    rw [h n hc.1] at hc
    cases hc.2
  unfold State.changeMasks
  rw [hid, List.foldl_const]
  rfl

theorem evaluateAfter_zero (s : State) (last : Nat) : s.evaluateAfter last 0 = s := rfl

theorem evaluateAfter_succ (s : State) (last k : Nat) :
    s.evaluateAfter last (k + 1) = (s.evaluateAfter last k).evaluateMinute ((last + (k + 1)) % 52596000) := by
  unfold State.evaluateAfter
  rw [List.range_succ, List.foldl_append, List.foldl_cons, List.foldl_nil]
  congr 2
  omega

/-- Settles O58. -/
theorem minuteEventsCatchUpOrSkip : Obligations.MinuteEventsCatchUpOrSkip := by
  refine ⟨fun s last minute hlast hl hm => ?_, fun e minute _ => ?_, fun s minute => ?_,
    fun s n cls duration => ⟨rfl, rfl⟩, fun s groups hinv => ⟨⟨_, rfl, ?_, ?_, ?_⟩, _, rfl, ?_, ?_, ?_⟩⟩
  · have hd := forwardDistance_eq (minute := minute) hl
    have hat := add_forwardDistance hl hm
    dsimp only
    rw [← hd]
    refine ⟨fun h => ?_, fun h => ?_, fun h => ?_, fun h4 hh => ?_, fun h => minuteEvent_none hlast (by omega)⟩
    · have h1 : forwardDistance last minute = 1 := by omega
      rw [h1] at hat
      rw [minuteEvent_short hlast (by omega) (by omega), h1, evaluateAfter_succ, evaluateAfter_zero, hat]
    · have h2 : forwardDistance last minute = 2 := by omega
      rw [h2] at hat
      rw [minuteEvent_short hlast (by omega) (by omega), h2, evaluateAfter_succ, evaluateAfter_succ,
        evaluateAfter_zero, hat]
    · have h3 : forwardDistance last minute = 3 := by omega
      rw [h3] at hat
      rw [minuteEvent_short hlast (by omega) (by omega), h3, evaluateAfter_succ, evaluateAfter_succ,
        evaluateAfter_succ, evaluateAfter_zero, hat]
    · have hreport := (evaluateMinute_work s minute).frame.2.2
      rw [minuteEvent_long hlast (by omega) (by omega)]
      refine ⟨rfl, ?_, rfl, rfl, rfl⟩
      generalize s.evaluateMinute minute = t at hreport ⊢
      rw [← hreport]
      rfl
  · rw [ScheduleEntry.selects_iff, MinuteSelect.selects_iff]
  · unfold State.evaluateMinute
    congr 1
  · exact changeMasks_masks s _
  · exact (changeMasks_work s _).untouched
  · exact (((inhibitInv_iff s).1 hinv).quiet.changeMasks _ : State.inhibitsSound _)
  · exact changeMasks_masks s _
  · exact (changeMasks_work s _).untouched
  · intro n hn
    have hr : (s.setMasks { s.masks with schedule := s.masks.schedule &&& ~~~groups }).ready n = false := by
      rw [Bool.eq_false_iff]
      exact fun h => hn ((State.ready_iff _ n).1 h).1
    change (s.changeMasks _).channel n = _
    rw [changeMasks_of_fewer fun _ => inhibited_of_fewer]
    exact (judge_of_not_ready hr).1

/-! ## The adjustment of the calendar -/

theorem adjustedPosition_eq (present carried sof : Nat) :
    (adjustedPosition present carried sof : Int) =
      ((present : Int) + ((carried : Int) - sof)) % 201968640000 := by
  simp only [adjustedPosition, Config.cycleFractions]
  omega

theorem adjustTime_invalid {s : State} {v : CalendarValue} (h : v.inRange = false) (restart : Bool) :
    s.adjustTime v restart = s := by
  unfold State.adjustTime
  rw [h]
  rfl

/-- The three outcomes of a carried time in range: the first adjustment, one within the minute, and one into another
minute with its minute event (R109, R113, R127). -/
theorem adjustTime_cases {s : State} {v : CalendarValue} (h : v.inRange = true) (restart : Bool) :
    (s.calendar.valid = false → s.adjustTime v restart =
      { s with
        calendar := s.calendar.adjusted v restart
        lastMinute := some (minuteNumber (s.calendar.adjusted v restart).value)
        report := { s.report with faults := { s.report.faults with timeInvalid := false } } }) ∧
    (s.calendar.valid = true →
      minuteNumber (s.calendar.adjusted v restart).value = minuteNumber s.calendar.value →
        s.adjustTime v restart = s.setCalendar (s.calendar.adjusted v restart)) ∧
    (s.calendar.valid = true →
      minuteNumber (s.calendar.adjusted v restart).value ≠ minuteNumber s.calendar.value →
        s.adjustTime v restart = (s.setCalendar (s.calendar.adjusted v restart)).minuteEvent
          (minuteNumber (s.calendar.adjusted v restart).value)) := by
  unfold State.adjustTime
  rw [if_pos h]
  dsimp only
  refine ⟨fun hv => ?_, fun hv hm => ?_, fun hv hm => ?_⟩
  · rw [hv]
    rfl
  · rw [if_pos hv]
    exact if_pos hm
  · rw [if_pos hv]
    exact if_neg hm

/-- What taking a carried time can reach (R109, R113, R122 to R130). -/
theorem adjustTime_timeWork {s : State} {v : CalendarValue} (h : v.inRange = true) (restart : Bool) :
    TimeWork (s.setCalendar (s.calendar.adjusted v restart)) (s.adjustTime v restart) := by
  obtain ⟨h1, h2, h3⟩ := adjustTime_cases (s := s) h restart
  cases hv : s.calendar.valid
  · rw [h1 hv]
    rfl
  · by_cases hm : minuteNumber (s.calendar.adjusted v restart).value = minuteNumber s.calendar.value
    · rw [h2 hv hm]
      rfl
    · rw [h3 hv hm]
      exact minuteEvent_timeWork _ _

theorem adjustTime_calendar {s : State} {v : CalendarValue} (h : v.inRange = true) (restart : Bool) :
    (s.adjustTime v restart).calendar = s.calendar.adjusted v restart := by
  rw [adjustTime_timeWork h restart]
  rfl

/-- The calendar after an adjustment: a value of the cycle at the position moved by the delta (R109). -/
theorem adjusted_spec (c : Calendar) (v : CalendarValue) (restart : Bool) :
    (c.adjusted v restart).value.inRange = true ∧
      (fractionPosition (c.adjusted v restart).value : Int) =
        ((fractionPosition c.value : Int) + (fractionPosition v - c.sofPosition)) % 201968640000 := by
  obtain ⟨h1, h2⟩ := fractionPosition_valueAt
    (adjustedPosition_lt (fractionPosition c.value) (fractionPosition v) c.sofPosition)
  refine ⟨h1, ?_⟩
  change (fractionPosition (valueAt _) : Int) = _
  rw [h2, adjustedPosition_eq]

/-- A TIMESET that the station hears moves its calendar and nothing else (R110). -/
theorem exec_timesetAccepted {s : State} {head : FrameHead} {p : Vector Byte 7}
    (hh : s.hears (frameOf head kindTimeset p.toList)) (hp : s.ofProfile (frameOf head kindTimeset p.toList)) :
    exec (.timesetAccepted head p) s =
      .next ((s.lineAccepted (frameOf head kindTimeset p.toList)).adjustTime
        (calendarOfBytes p[0] p[1] p[2] p[3] p[4] p[5] p[6]) true) := by
  change execTimesetAccepted head p s = _
  unfold execTimesetAccepted
  rw [acceptFrame_hears _ hh hp (show kindTimeset.toNat < 9 by decide)]

/-- Settles O51. -/
theorem timesetMovesTheCalendar : Obligations.TimesetMovesTheCalendar := by
  intro head p s f carried heard hh hp
  have hexec : exec (.timesetAccepted head p) s = .next (heard.adjustTime carried true) := exec_timesetAccepted hh hp
  rw [hexec]
  refine ⟨fun hr => by rw [adjustTime_invalid hr], fun hr _ => ⟨_, rfl, ?_⟩⟩
  have hcal : (heard.adjustTime carried true).calendar = s.calendar.adjusted carried true :=
    adjustTime_calendar (s := heard) hr true
  obtain ⟨h1, h2, h3⟩ := adjustTime_cases (s := heard) hr true
  have hw := adjustTime_timeWork (s := heard) hr true
  obtain ⟨hin, hpos⟩ := adjusted_spec s.calendar carried true
  rw [hcal]
  refine ⟨hpos, hin, rfl, hw, h1, h2, h3⟩

end Sys2Proof.Machine
end

section
/-! PROOFS. The holding table's frames: evaluation (O38), displacement (O40), promotion (O45), RENEW (O46), and that two
replicas stay alike (O12). -/

namespace Sys2Proof.Machine

/-! ## The evaluation of a CLAIM -/

theorem unitsWhere_mono {p q : Holding → Bool} (h : ∀ r, p r = true → q r = true) (t : List Holding) :
    unitsWhere p t ≤ unitsWhere q t := by
  rw [unitsWhere_split q p t, unitsWhere_congr (p := fun r => q r && p r) (q := p)]
  · omega
  · intro r _
    cases hp : p r
    · simp
    · simp [h r hp]

theorem sum_units_candidatesOf (cls : Class) (t : List Holding) :
    ((candidatesOf cls t).map Holding.units).sum = unitsWhere (fun r => r.state == .held && r.cls == cls) t :=
  (((List.reverse_perm t).filter _).map Holding.units).sum_eq

/-- The units the victim order can free are the displaceable units, in whatever order the table stands (R14). -/
theorem sum_units_victimOrder_eq (t : List Holding) :
    ((victimOrder t).map Holding.units).sum = displaceableUnits t := by
  have hsplit : ∀ q : Holding → Bool, unitsWhere q t = _ := fun q => unitsWhere_split q (fun r => r.cls == .low) t
  rw [victimOrder, List.map_append, List.map_append, List.sum_append, List.sum_append, sum_units_candidatesOf,
    sum_units_candidatesOf, sum_units_candidatesOf, displaceableUnits,
    unitsWhere_split Holding.displaceable (fun r => r.cls == .low) t,
    unitsWhere_split (fun r => r.displaceable && !(r.cls == .low)) (fun r => r.cls == .normal) t, Nat.add_assoc]
  refine congrArg₂ _ (unitsWhere_congr fun r _ => ?_)
    (congrArg₂ _ (unitsWhere_congr fun r _ => ?_) (unitsWhere_congr fun r _ => ?_)) <;>
  · unfold Holding.displaceable
    cases r.state <;> cases r.cls <;> rfl

theorem displaceableUnits_le (t : List Holding) : displaceableUnits t ≤ reservedUnits t :=
  unitsWhere_mono (fun r h => by
    rw [Holding.displaceable_iff] at h
    simp [Holding.reserved, h.1]) t

theorem displaceFlag_iff (d : Bool) (p : Machine.Class) (t : List Holding) :
    (d && p == .urgent && !pendingPresent t) = true ↔ d = true ∧ p = .urgent ∧ pendingPresent t = false := by
  rw [Bool.and_eq_true, Bool.and_eq_true, Bool.not_eq_true', and_assoc]
  cases p <;> simp

section
variable {budget lease : Nat} {t : List Holding} {h : Nat} {c : ChannelIx} {u : Nat} {p : Machine.Class} {d : Bool}

theorem evaluateClaim_granted (ha : findHolding h c t = none) (hl : t.length < 48) (hu : u ≤ freeUnits budget t) :
    evaluateClaim budget lease t h c u p d =
      { result := .granted
        table := insertHolding { holder := h, channel := c, units := u, cls := p, state := .held, lease := lease } t
        victims := [] } := by
  unfold evaluateClaim
  rw [ha, if_neg (by decide), if_neg (by exact Nat.not_le.2 hl), if_pos hu]

theorem evaluateClaim_displacing (ha : findHolding h c t = none) (hl : t.length < 48) (hu : freeUnits budget t < u)
    (hf : d = true ∧ p = .urgent ∧ pendingPresent t = false) {vs : List Holding}
    (hw : walkVictims u (freeUnits budget t) (victimOrder t) = some vs) :
    (evaluateClaim budget lease t h c u p d).result = .displacing := by
  unfold evaluateClaim
  rw [ha, if_neg (by decide), if_neg (by exact Nat.not_le.2 hl), if_neg (Nat.not_le.2 hu),
    if_pos ((displaceFlag_iff d p t).2 hf), hw]

theorem evaluateClaim_noBudget (ha : findHolding h c t = none) (hl : t.length < 48) (hu : freeUnits budget t < u)
    (hf : (d = true ∧ p = .urgent ∧ pendingPresent t = false) →
      walkVictims u (freeUnits budget t) (victimOrder t) = none) :
    evaluateClaim budget lease t h c u p d = { result := .noBudget, table := t, victims := [] } := by
  unfold evaluateClaim
  rw [ha, if_neg (by decide), if_neg (by exact Nat.not_le.2 hl), if_neg (Nat.not_le.2 hu)]
  split
  · rw [hf ((displaceFlag_iff d p t).1 ‹_›)]
  · rfl

end

/-- Settles O38. -/
theorem claimIsEvaluatedByCases : Obligations.ClaimIsEvaluatedByCases := by
  intro budget lease t h c u p d ev absent flag
  have hwalk (hf : freeUnits budget t < u) := walkVictims_eq_none u (freeUnits budget t) (victimOrder t) hf
  rw [sum_units_victimOrder_eq] at hwalk
  refine ⟨fun ha => ?_, fun ha hl => ?_, fun ha hl hu => ?_, fun ha hl hu => ⟨fun hf hd => ?_, fun hn => ?_⟩,
    fun hr hb => ?_⟩
  · change evaluateClaim budget lease t h c u p d = _
    unfold evaluateClaim
    rw [if_pos (Option.isSome_iff_ne_none.2 ha)]
  · change evaluateClaim budget lease t h c u p d = _
    unfold evaluateClaim
    rw [show findHolding h c t = none from ha, if_neg (by decide), if_pos (by exact hl)]
  · rw [show ev = _ from evaluateClaim_granted ha hl hu]
    refine ⟨rfl, rfl, rfl, reservedUnits_insertHolding rfl t, ?_, ?_, length_insertHolding _ t⟩
    · unfold reservedCount
      rw [((insertHolding_perm _ t).filter _).length_eq]
      rfl
    · exact unitsWhere_insertHolding _ _ t
  · cases hw : walkVictims u (freeUnits budget t) (victimOrder t) with
    | none =>
      have := (hwalk hu).1 hw
      omega
    | some vs => exact evaluateClaim_displacing ha hl hu hf hw
  · refine evaluateClaim_noBudget ha hl hu fun hf => (hwalk hu).2 ?_
    have : ¬ u ≤ freeUnits budget t + displaceableUnits t := fun h => hn ⟨hf, h⟩
    omega
  · have hle := displaceableUnits_le t
    have hfree : freeUnits budget t = budget - reservedUnits t := rfl
    rcases evaluateClaim_cases budget lease t h c u p d with ⟨-, -, hres⟩ | ⟨-, -, hu, -⟩ | ⟨-, -, hu, -, -, -, vs, hw, -⟩
    · change ev.result = _ ∨ ev.result = _ ∨ ev.result = _ at hres
      rcases hres with hres | hres | hres <;> rw [hres] <;> exact ⟨by decide, by decide⟩
    · omega
    · have hnone := hwalk hu
      rw [hw] at hnone
      have := mt hnone.2 (by simp)
      omega

/-! ## Displacement -/

/-- Every shorter start of the victims falls short of the claim (R15). -/
theorem walkVictims_minimal {units total : Nat} {t vs : List Holding} (h : walkVictims units total t = some vs)
    (ht : total < units) (k : Nat) (hk : k < vs.length) :
    total + ((vs.take k).map Holding.units).sum < units := by
  induction t generalizing total vs k with
  | nil => cases h
  | cons r rs ih =>
    cases k with
    | zero => simpa using ht
    | succ k =>
      unfold walkVictims at h
      split at h
      · cases h
        simp at hk
      · obtain ⟨ws, hw, rfl⟩ := Option.map_eq_some_iff.1 h
        have := ih hw (by omega) k (by simpa using hk)
        simp only [List.take_succ_cons, List.map_cons, List.sum_cons]
        omega

theorem walkVictims_ne_nil {units total : Nat} {t vs : List Holding} (h : walkVictims units total t = some vs) :
    vs ≠ [] := by
  cases t with
  | nil => cases h
  | cons r rs =>
    unfold walkVictims at h
    split at h
    · cases h
      exact List.cons_ne_nil _ _
    · obtain ⟨ws, -, rfl⟩ := Option.map_eq_some_iff.1 h
      exact List.cons_ne_nil _ _

/-- The victims' records join the SHEDDING ones (R15). -/
theorem sheddingCount_shedIn {t vs : List Holding} (ht : t.Nodup) (hv : ∀ r ∈ vs, r ∈ t ∧ r.state = .held)
    (hn : vs.Nodup) : sheddingCount (t.map (Holding.shedIn vs)) = sheddingCount t + vs.length := by
  have hvs : (t.filter fun r => decide (r ∈ vs)).length = vs.length :=
    ((List.perm_ext_iff_of_nodup (ht.filter _) hn).2 fun r => by
      rw [List.mem_filter, decide_eq_true_eq]
      exact ⟨fun h => h.2, fun h => ⟨(hv r h).1, h⟩⟩).length_eq
  rw [← hvs]
  have hheld : ∀ r ∈ vs, r.state = .held := fun r hr => (hv r hr).2
  unfold sheddingCount
  simp only [← List.countP_eq_length_filter, List.countP_map]
  clear ht hvs hn hv
  induction t with
  | nil => rfl
  | cons r rs ih =>
    simp only [List.countP_cons, Function.comp_apply, ih]
    by_cases hr : r ∈ vs
    · simp [Holding.shedIn_of_mem hr, hr, hheld r hr]
      omega
    · simp [Holding.shedIn_of_not_mem hr, hr]
      omega

theorem findHolding_insertHolding {r : Holding} {t : List Holding} {holder : Nat} {channel : ChannelIx}
    (hr : r.key = (holder, channel)) (h : tableOrdered t) (hn : findHolding holder channel t = none) :
    findHolding holder channel (insertHolding r t) = some r := by
  cases hr
  exact findHolding_of_mem (insertHolding_ordered h hn) ((mem_insertHolding r r t).2 (.inl rfl))

/-- Settles O40. -/
theorem displacementMarksTheShortestPrefix : Obligations.DisplacementMarksTheShortestPrefix := by
  intro budget lease t h c u p d ho hb ev hd
  obtain ⟨-, -, hres⟩ | ⟨-, -, -, hev⟩ | ⟨ha, hl, hu, rfl, hd', hp, vs, hw, hev⟩ :=
    evaluateClaim_cases budget lease t h c u p d
  · rw [show (evaluateClaim budget lease t h c u p d).result = _ from hd] at hres
    simp at hres
  · change ev = _ at hev
    rw [hev] at hd
    cases hd
  · obtain ⟨hprefix, hsum, hheld, hnodup⟩ := victims_of_walk ho hw
    have hmark := markShedding_eq ho fun r hr => (hheld r hr).1
    have hnone := (findHolding_map_eq_none (Holding.key_shedIn vs) h c t).2 ha
    have hord : tableOrdered (t.map (Holding.shedIn vs)) := map_ordered (Holding.key_shedIn vs) ho
    have hunits := reservedUnits_shedIn ho hheld hnodup
    change ev = _ at hev
    rw [hmark] at hev
    rw [hev]
    dsimp only
    refine ⟨vs, hprefix, walkVictims_ne_nil hw, rfl, hsum, walkVictims_minimal hw hu,
      findHolding_insertHolding rfl hord hnone, fun r hr => ⟨fun hv => ?_, fun hv => ?_⟩, ?_, ?_, ?_, ?_, ?_⟩
    · exact (mem_insertHolding _ _ _).2 (.inr (List.mem_map.2 ⟨r, hr, Holding.shedIn_of_mem hv⟩))
    · exact (mem_insertHolding _ _ _).2 (.inr (List.mem_map.2 ⟨r, hr, Holding.shedIn_of_not_mem hv⟩))
    · rw [length_insertHolding, List.length_map]
    · rw [onUnitsSum, unitsWhere_insertHolding]
      exact onUnitsSum_shedIn hheld
    · rw [← sheddingCount_shedIn ho.nodup hheld hnodup]
      unfold sheddingCount
      rw [((insertHolding_perm _ _).filter _).length_eq]
      rfl
    · rw [reservedUnits_insertHolding rfl]
      have hfree : freeUnits budget t = budget - reservedUnits t := rfl
      dsimp only
      omega
    · rw [pendingPresent_iff]
      exact ⟨_, (mem_insertHolding _ _ _).2 (.inl rfl), rfl⟩

/-! ## Promotion -/

theorem onUnitsSum_promote (t : List Holding) :
    onUnitsSum (promoteTable t) = onUnitsSum t + unitsWhere (fun r => r.state == .pending) t := by
  rw [promoteTable_eq, onUnitsSum, unitsWhere_map _ Holding.promoted_units,
    unitsWhere_split _ (fun r => r.state != .pending) t]
  refine congrArg₂ _ (unitsWhere_congr fun r _ => ?_) (unitsWhere_congr fun r _ => ?_) <;>
  · simp only [Holding.onUnits, Holding.promoted_state]
    cases r.state <;> rfl

theorem reservedUnits_promote (t : List Holding) : reservedUnits (promoteTable t) = reservedUnits t := by
  rw [promoteTable_eq, reservedUnits, unitsWhere_map _ Holding.promoted_units]
  exact unitsWhere_congr fun r _ => r.promoted_reserved

theorem reservedCount_promote (t : List Holding) : reservedCount (promoteTable t) = reservedCount t := by
  rw [promoteTable_eq, reservedCount, List.filter_map, List.length_map]
  exact congrArg List.length (List.filter_congr fun r _ => r.promoted_reserved)

/-- No record is left PENDING (R25). -/
theorem pendingPresent_promote (t : List Holding) : pendingPresent (promoteTable t) = false := by
  rw [pendingPresent_eq_false, promoteTable_eq]
  intro r hr
  obtain ⟨x, -, rfl⟩ := List.mem_map.1 hr
  rw [Holding.promoted_state]
  split
  · decide
  · assumption

theorem pendingRecord_eq_some {t : List Holding} {r : Holding} (h : pendingRecord t = some r) :
    r ∈ t ∧ r.state = .pending := by
  refine ⟨List.mem_of_find?_eq_some h, ?_⟩
  have hp := List.find?_some h
  simpa using hp

/-- With one PENDING record at most, its units are those pending. -/
theorem unitsWhere_pending {t : List Holding} {r : Holding} (h : pendingRecord t = some r)
    (h1 : (t.filter fun r => r.state == .pending).length ≤ 1) :
    unitsWhere (fun r => r.state == .pending) t = r.units := by
  have hhead : (t.filter fun r => r.state == .pending).head? = some r := by
    rw [List.head?_filter]
    exact h
  unfold unitsWhere
  match hl : t.filter fun r => r.state == .pending with
  | [] => rw [hl] at hhead; cases hhead
  | x :: [] =>
    rw [hl] at hhead
    cases hhead
    rw [hl]
    exact Nat.add_zero _
  | x :: y :: l => rw [hl] at h1; simp at h1

theorem promotionCheck_of_fits {budget : Nat} {t : List Holding} {r : Holding} (h : pendingRecord t = some r)
    (hu : onUnitsSum t + r.units ≤ budget) : promotionCheck budget t = (promoteTable t, some r) := by
  unfold promotionCheck promotionPasses
  rw [h]
  dsimp only
  rw [if_pos hu]

theorem promotionCheck_of_not_fits {budget : Nat} {t : List Holding} {r : Holding} (h : pendingRecord t = some r)
    (hu : budget < onUnitsSum t + r.units) : promotionCheck budget t = (t, none) := by
  unfold promotionCheck promotionPasses
  rw [h]
  dsimp only
  rw [if_neg (Nat.not_le.2 hu)]

/-- Settles O45. -/
theorem promotionFollowsTheLastVictim : Obligations.PromotionFollowsTheLastVictim := by
  intro budget lease t r hs hr
  obtain ⟨hord, -, hone, hbudget, -⟩ := id hs
  obtain ⟨hmem, hstate⟩ := pendingRecord_eq_some hr
  have hpending := unitsWhere_pending hr hone
  refine ⟨fun hu => ?_, promotionCheck_of_not_fits hr, fun h0 => ?_⟩
  · have hp : r.promoted = { r with state := .held } := if_pos (by rw [hstate]; rfl)
    rw [promotionCheck_of_fits hr hu]
    refine ⟨rfl, ?_, reservedUnits_promote t, reservedCount_promote t, ?_, pendingPresent_promote t⟩
    · have hfound := findHolding_of_mem hs.promote.1 (List.mem_map.2 ⟨r, hmem, hp⟩)
      exact hfound
    · rw [onUnitsSum_promote, hpending]
  · have hsplit : onUnitsSum t + unitsWhere (fun r => r.state == .pending) t = reservedUnits t := by
      rw [reservedUnits, unitsWhere_split Holding.reserved (fun r => r.state != .pending) t]
      unfold onUnitsSum
      refine congrArg₂ _ (unitsWhere_congr fun x hx => ?_) (unitsWhere_congr fun x hx => ?_) <;>
      · have hx' : x.state ≠ .shedding := by
          simpa using List.filter_eq_nil_iff.1 (List.length_eq_zero_iff.1 h0) x hx
        simp only [Holding.onUnits, Holding.reserved]
        cases hc : x.state with
        | shedding => exact absurd hc hx'
        | held => rfl
        | pending => rfl
    omega

/-! ## RENEW -/

theorem unitsInRange_eq (u : Nat) : unitsInRange u = decide (1 ≤ u ∧ u ≤ 250) := by
  rw [unitsInRange, Bool.decide_and]

/-- The fields of a RENEW entry, as numbers of its two bytes (R157). -/
theorem renewEntryOf_fields (first second : Byte) :
    (renewEntryOf first second).channel.val = first.toNat / 32 ∧
      (renewEntryOf first second).cls.number = first.toNat / 8 % 4 ∧
      ((renewEntryOf first second).pending = true ↔ first.toNat / 4 % 2 = 1) ∧
      (renewEntryOf first second).units = second.toNat := by
  refine ⟨?_, ?_, getLsbD_iff first 2, rfl⟩
  · change (first.extractLsb' 5 3).toNat = _
    rw [extract_toNat]
    omega
  · change (Class.ofBits (first.extractLsb' 3 2)).number = _
    rw [classOfBits_number, extract_toNat]
    rfl

theorem length_renewEntries (payload : List Byte) : (renewEntries payload).length = payload.length / 2 := by
  induction payload using renewEntries.induct with
  | case1 first second rest ih =>
    simp only [renewEntries, List.length_cons, ih]
    omega
  | case2 payload h =>
    match payload, h with
    | [], _ => rfl
    | [x], _ => simp [renewEntries]
    | x :: y :: l, h => exact absurd rfl (h x y l)

/-- The k-th entry is that of the bytes 2k and 2k + 1 (R157). -/
theorem renewEntries_getElem? (payload : List Byte) (k : Nat) (e : RenewEntry)
    (h : (renewEntries payload)[k]? = some e) :
    ∃ first second, payload[2 * k]? = some first ∧ payload[2 * k + 1]? = some second ∧
      e = renewEntryOf first second := by
  induction payload using renewEntries.induct generalizing k with
  | case1 first second rest ih =>
    cases k with
    | zero =>
      cases h
      exact ⟨first, second, rfl, rfl, rfl⟩
    | succ k =>
      obtain ⟨a, b, ha, hb, he⟩ := ih k h
      exact ⟨a, b, ha, hb, he⟩
  | case2 payload hn =>
    match payload, hn with
    | [], _ => cases h
    | [x], _ => cases h
    | x :: y :: l, hn => exact absurd rfl (hn x y l)

theorem find?_insertHolding {p : Holding → Bool} {r : Holding} (h : p r = false) (t : List Holding) :
    (insertHolding r t).find? p = t.find? p := by
  induction t with
  | nil => simp [insertHolding, h]
  | cons x xs ih =>
    unfold insertHolding
    split
    · simp [List.find?_cons, h]
    · rw [List.find?_cons, List.find?_cons, ih]

theorem findHolding_insertHolding_ne {r : Holding} {holder : Nat} {channel : ChannelIx} (t : List Holding)
    (h : r.holder ≠ holder ∨ r.channel ≠ channel) :
    findHolding holder channel (insertHolding r t) = findHolding holder channel t := by
  refine find?_insertHolding ?_ t
  rw [Bool.eq_false_iff, Ne, Holding.keyed_iff]
  tauto

theorem findHolding_removeHolding_ne {holder holder' : Nat} {channel channel' : ChannelIx} (t : List Holding)
    (h : holder' ≠ holder ∨ channel' ≠ channel) :
    findHolding holder' channel' (removeHolding holder channel t) = findHolding holder' channel' t := by
  refine find?_filter_of_imp (fun r hr => ?_) t
  rw [Holding.keyed_iff] at hr
  rw [Bool.not_eq_true', Bool.eq_false_iff, Ne, Holding.keyed_iff]
  rintro ⟨h1, h2⟩
  rcases h with h | h
  · exact h (hr.1.symm.trans h1)
  · exact h (hr.2.symm.trans h2)

theorem renewMatching_getElem? (lease h : Nat) (t : List Holding) (e : RenewEntry) {i : Nat} {r : Holding}
    (hr : t[i]? = some r) :
    (renewMatching lease h t e)[i]? =
      some (if r.holder = h ∧ r.channel = e.channel ∧ r.units = e.units ∧ r.cls = e.cls then
        { r with lease := lease } else r) := by
  unfold renewMatching
  rw [List.getElem?_map, hr, Option.map_some]
  refine congrArg some (if_congr ?_ rfl rfl)
  have hc : (r.cls == e.cls) = true ↔ r.cls = e.cls := by
    cases r.cls <;> cases e.cls <;> decide
  rw [Bool.and_eq_true, Bool.and_eq_true, Holding.keyed_iff, beq_iff_eq, hc, and_assoc, and_assoc]

/-- The checks of R19 that leave an entry out. -/
theorem renewSkip_iff (budget h : Nat) (t : List Holding) (e : RenewEntry) :
    ((!(findHolding h e.channel t).isSome && decide (Config.tableCapacity ≤ t.length)) ||
      decide (budget < reservedUnits (removeHolding h e.channel t) + e.units) ||
        (e.pending && pendingPresent (removeHolding h e.channel t))) = true ↔
      (findHolding h e.channel t = none ∧ 48 ≤ t.length) ∨
        budget < reservedUnits (removeHolding h e.channel t) + e.units ∨
        (e.pending = true ∧ pendingPresent (removeHolding h e.channel t) = true) := by
  rw [Bool.or_eq_true, Bool.or_eq_true, Bool.and_eq_true, Bool.and_eq_true, decide_eq_true_eq, decide_eq_true_eq,
    Bool.not_eq_true', Option.isSome_eq_false_iff, Option.isNone_iff_eq_none, or_assoc]

/-- A frame that the station takes part in and that passes the judgements has its kind's effects. -/
theorem acceptFrame_takesPart {s : State} {f : Frame} (effects : Bool → State → State) (h : s.takesPart f)
    (hj : s.passesJudgements f = true) :
    ∃ part, s.partakes f part ∧ s.acceptFrame f effects = effects part.isSome (s.afterFrame f part) := by
  rcases h with ⟨h1, h2, h3, h4⟩ | ⟨h1, -, o, ho⟩
  · refine ⟨none, ⟨h1, h2⟩, ?_⟩
    unfold State.acceptFrame State.reception
    rw [if_pos h1, h2]
    dsimp only
    rw [h3, if_neg (by decide), if_neg h4, hj]
    rfl
  · refine ⟨some o, ⟨h1, ho⟩, (acceptFrame_own effects h1 ho).trans ?_⟩
    rw [if_pos hj]
    rfl

/-- One that does not pass them has the line's effects, the counts and the attempt's end. -/
theorem acceptFrame_takesPart_unapplied {s : State} {f : Frame} (effects : Bool → State → State) (h : s.takesPart f)
    (hj : s.passesJudgements f = false) :
    ∃ part, s.acceptFrame f effects = s.afterFrame f part ∨ s.acceptFrame f effects = (s.afterFrame f part).judge := by
  rcases h with h | ⟨h1, -, o, ho⟩
  · exact ⟨none, .inl (acceptFrame_unapplied effects h hj)⟩
  · refine ⟨some o, .inr ((acceptFrame_own effects h1 ho).trans ?_)⟩
    rw [if_neg (by simp [hj])]
    rfl

/-- The acceptance of a RENEW, before its entries: the line, and at the sender the attempt's end (R178, R181). -/
theorem afterFrame_renew {s : State} {f : Frame} (hp : s.ofProfile f) (hk : f.kind = kindRenew)
    (hs : s.flightSound) {part : Option Offer} (h : s.partakes f part) :
    s.afterFrame f part = { s with line := (s.afterFrame f part).line } := by
  have hc := (judgements_ofProfile hp (by rw [hk]; decide)).2
  cases part with
  | none =>
    change (s.lineAccepted f).countJudgements f = _
    unfold State.afterFrame
    dsimp only
    rw [hc]
    rfl
  | some o =>
    have ho : o = .renew := by
      have hsends := (hs o f h.2).2.2.1
      cases o <;> simp [Offer.sends, hk, kindRenew] at hsends ⊢
    subst ho
    unfold State.afterFrame
    dsimp only
    rw [hc]
    rfl

theorem ofProfile_of {s t : State} {f : Frame} (h : s.ofProfile f) (ht : t.settings = s.settings) : t.ofProfile f := by
  unfold State.ofProfile
  rw [ht]
  exact h

/-- Settles O46. -/
theorem renewWritesLeasesOrLearns : Obligations.RenewWritesLeasesOrLearns := by
  refine ⟨fun payload => ⟨?_, length_renewEntries payload, fun k e h => ?_⟩, fun head payload s hs hpart hp => ?_,
    fun lease h t e => ⟨List.length_map _, fun i r => renewMatching_getElem? lease h t e⟩,
    fun budget lease h t e ho => ?_⟩
  · exact List.filter_congr fun e _ => unitsInRange_eq e.units
  · obtain ⟨first, second, h1, h2, rfl⟩ := renewEntries_getElem? payload k e h
    exact ⟨first, second, h1, h2, renewEntryOf_fields first second⟩
  · obtain ⟨hj, -⟩ := judgements_ofProfile hp (show kindRenew.toNat < 9 by decide)
    obtain ⟨part, hpk, he⟩ := acceptFrame_takesPart (State.applyRenew head.source.toNat payload) hpart hj
    have ha := afterFrame_renew hp rfl hs hpk
    generalize s.afterFrame (frameOf head kindRenew payload) part = u at he ha
    have hw := judge_work (u.setTable (u.renewedTable head.source.toNat payload))
    refine ⟨_, congrArg Host.Outcome.next he, ?_, ?_, fun n hn => ?_⟩
    · rw [applyRenew_eq, hw.frame.2.2.2.2.1]
      rw [ha]
      rfl
    · rw [applyRenew_eq, ← hw]
      rw [ha]
      rfl
    · have hr : (u.setTable (u.renewedTable head.source.toNat payload)).ready n = false := by
        rw [Bool.eq_false_iff]
        intro h
        refine hn ?_
        have := ((State.ready_iff _ n).1 h).1
        rw [ha] at this
        exact this
      rw [applyRenew_eq, (judge_of_not_ready hr).1]
      rw [ha]
      rfl
  · intro others skipped
    refine ⟨fun hsk => if_pos ((renewSkip_iff budget h t e).2 hsk), fun hsk => ?_⟩
    have hn := findHolding_removeHolding h e.channel t
    have hro := removeHolding_ordered h e.channel ho
    have he : renewLearning budget lease h t e = _ := if_neg (mt (renewSkip_iff budget h t e).1 hsk)
    rw [he]
    refine ⟨findHolding_insertHolding rfl hro hn, insertHolding_ordered hro hn, fun h' c' hne => ?_⟩
    rw [findHolding_insertHolding_ne _ (hne.imp Ne.symm Ne.symm), findHolding_removeHolding_ne _ hne]

/-! ## Replicas -/

theorem afterFrame_table (s : State) (f : Frame) (part : Option Offer) :
    (s.afterFrame f part).table = s.table ∧ (s.afterFrame f part).settings = s.settings ∧
      (s.afterFrame f part).member = s.member := by
  rw [afterFrame_frame]
  exact ⟨rfl, rfl, rfl⟩

theorem settleOwnClaim_table (s : State) (r : ClaimResult) (c : ChannelIx) :
    (s.settleOwnClaim r c).table = s.table :=
  (settleOwnClaim_work s r c).elim (fun h => h.table) fun h => h.table

theorem applyClaim_table (source : Nat) (cls : Machine.Class) (c : ChannelIx) (units : Nat) (d own : Bool) (s : State) :
    (State.applyClaim source cls c units d own s).table =
      if s.member.state = .synced ∧ unitsInRange units = true then (s.evaluated source cls c units d).table
      else s.table := by
  rcases applyClaim_cases source cls c units d own s with ⟨h, he⟩ | ⟨h1, h2, he⟩
  · rw [he, if_neg h]
  · rw [he, if_pos (show s.member.state = .synced ∧ unitsInRange units = true from ⟨h1, h2⟩), (judge_work _).table, (dropIdleRenew_work _).table]
    split
    · rw [settleOwnClaim_table]
      exact (giveSheds_work _ _).table
    · exact (giveSheds_work _ _).table

theorem applyRelease_table (source : Nat) (c : ChannelIx) (own : Bool) (s : State) :
    (State.applyRelease source c own s).table =
      if findHolding source c s.table = none then s.table else (s.releasedTable source c).1 := by
  rcases applyRelease_cases source c own s with ⟨h, he⟩ | ⟨h, he⟩
  · rw [he, if_pos h, (judge_work _).table]
  · rw [he, if_neg (Option.isSome_iff_ne_none.1 h), (judge_work _).table, (dropIdleRenew_work _).table,
      (givePromotion_work _ _).table]
    split
    · rw [(ownReleased_work _ _).table]
      exact (holdClear_work _).table
    · exact (holdClear_work _).table

theorem applyRenew_table (source : Nat) (payload : List Byte) (own : Bool) (s : State) :
    (State.applyRenew source payload own s).table = s.renewedTable source payload :=
  (judge_work _).table

/-- Effects that settle the table by it, the profile and the membership state alone. -/
def settlesTable (effects : Bool → State → State) : Prop :=
  ∀ own₁ own₂ s₁ s₂, s₁.table = s₂.table → s₁.member.state = s₂.member.state →
    s₁.settings.budget = s₂.settings.budget → s₁.settings.lease = s₂.settings.lease →
    (effects own₁ s₁).table = (effects own₂ s₂).table

theorem settlesTable_applyClaim (source : Nat) (cls : Machine.Class) (c : ChannelIx) (units : Nat) (d : Bool) :
    settlesTable (State.applyClaim source cls c units d) := by
  intro own₁ own₂ s₁ s₂ ht hm hb hl
  rw [applyClaim_table, applyClaim_table, State.evaluated, State.evaluated, ht, hm, hb, hl]

theorem settlesTable_applyRelease (source : Nat) (c : ChannelIx) : settlesTable (State.applyRelease source c) := by
  intro own₁ own₂ s₁ s₂ ht hm hb hl
  rw [applyRelease_table, applyRelease_table, State.releasedTable, State.releasedTable, ht, hm, hb]

theorem settlesTable_applyRenew (source : Nat) (payload : List Byte) :
    settlesTable (State.applyRenew source payload) := by
  intro own₁ own₂ s₁ s₂ ht hm hb hl
  rw [applyRenew_table, applyRenew_table, State.renewedTable, State.renewedTable, ht, hm, hb, hl]

theorem acceptFrame_table {f : Frame} {effects : Bool → State → State} (he : settlesTable effects) {s₁ s₂ : State}
    (h₁ : s₁.takesPart f) (h₂ : s₂.takesPart f) (hm : s₁.member.state = s₂.member.state)
    (hb : s₁.settings.budget = s₂.settings.budget) (hl : s₁.settings.lease = s₂.settings.lease)
    (ht : s₁.settings.tag = s₂.settings.tag) (htab : s₁.table = s₂.table) :
    (s₁.acceptFrame f effects).table = (s₂.acceptFrame f effects).table := by
  have hj : s₁.passesJudgements f = s₂.passesJudgements f := by
    unfold State.passesJudgements
    rw [ht]
  cases hj₂ : s₂.passesJudgements f
  · have unapplied : ∀ s : State, s.takesPart f → s.passesJudgements f = false →
        (s.acceptFrame f effects).table = s.table := by
      intro s h hj
      obtain ⟨part, hp | hp⟩ := acceptFrame_takesPart_unapplied effects h hj <;> rw [hp]
      · exact (afterFrame_table s f part).1
      · rw [(judge_work _).table]
        exact (afterFrame_table s f part).1
    rw [unapplied s₁ h₁ (hj.trans hj₂), unapplied s₂ h₂ hj₂, htab]
  · obtain ⟨p₁, -, e₁⟩ := acceptFrame_takesPart effects h₁ (hj.trans hj₂)
    obtain ⟨p₂, -, e₂⟩ := acceptFrame_takesPart effects h₂ hj₂
    obtain ⟨t₁, c₁, m₁⟩ := afterFrame_table s₁ f p₁
    obtain ⟨t₂, c₂, m₂⟩ := afterFrame_table s₂ f p₂
    rw [e₁, e₂]
    exact he _ _ _ _ (by rw [t₁, t₂, htab]) (by rw [m₁, m₂, hm]) (by rw [c₁, c₂, hb]) (by rw [c₁, c₂, hl])

/-- Settles O12. -/
theorem replicasAgree : Obligations.ReplicasAgree := by
  intro c f s₁ s₂ hc hk h₁ h₂ hm₁ hm₂ hb hl ht htab
  have agree : ∀ effects, settlesTable effects →
      (∀ s, exec c s = .next (s.acceptFrame f effects)) →
      ∃ t₁ t₂, exec c s₁ = .next t₁ ∧ exec c s₂ = .next t₂ ∧ t₁.table = t₂.table := fun effects he hx =>
    ⟨_, _, hx s₁, hx s₂, acceptFrame_table he h₁ h₂ (hm₁.trans hm₂.symm) hb hl ht htab⟩
  cases c <;> cases hc
  case claimAccepted head payload =>
    exact agree _ (settlesTable_applyClaim _ _ _ _ _) fun s => rfl
  case releaseAccepted head payload => exact agree _ (settlesTable_applyRelease _ _) fun s => rfl
  case renewAccepted head payload => exact agree _ (settlesTable_applyRenew _ _) fun s => rfl
  case undefinedKindAccepted head kind payload =>
    have hne : ∀ k : Fin 7, BitVec.ofNat 4 (9 + k.val) ≠ kindClaim ∧ BitVec.ofNat 4 (9 + k.val) ≠ kindRelease ∧
        BitVec.ofNat 4 (9 + k.val) ≠ kindRenew := by decide
    obtain ⟨h1, h2, h3⟩ := hne kind
    rcases hk with hk | hk | hk
    · exact absurd hk h1
    · exact absurd hk h2
    · exact absurd hk h3
  all_goals
    exfalso
    revert hk
    simp only [frameOf]
    decide

end Sys2Proof.Machine
end

section
/-! PROOFS. One channel's part of the station: what each operation of the claim unit and of the channel controller does to
it, and that the passes over the channels do to each channel what its own turn does. -/

namespace Sys2Proof.Machine

/-! ## The view of a channel -/

/-- A demand's entry apart from its channel and its enqueue number. -/
def Entry.terms (e : Entry) : Machine.Class × Option Nat × Bool := (e.cls, e.allowance, e.hold)

/-- A channel's entry in the queue, apart from its enqueue number. -/
def ClaimUnit.entryView (u : ClaimUnit) (n : ChannelIx) : Option (Machine.Class × Option Nat × Bool) :=
  (entryIn n u.queue).map Entry.terms

/-- The outstanding claim where it is the channel's, apart from its enqueue number. -/
def ClaimUnit.claimView (u : ClaimUnit) (n : ChannelIx) : Option OutstandingClaim :=
  (u.outstanding.filter fun o => o.channel == n).map fun o => { o with number := 0 }

/-- A channel's part of the station: its state and rest, its RELEASE offer, its entry and its claim. -/
structure ChannelView where
  channel : Channel
  release : Bool
  entry : Option (Machine.Class × Option Nat × Bool)
  claim : Option OutstandingClaim

def State.view (s : State) (n : ChannelIx) : ChannelView :=
  { channel := s.channel n, release := s.line.offers.releases[n], entry := s.claims.entryView n
    claim := s.claims.claimView n }

namespace ChannelView

def become (v : ChannelView) (c : ChannelState) : ChannelView := { v with channel := { v.channel with state := c } }

theorem become_self {v : ChannelView} {c : ChannelState} (h : v.channel.state = c) : v.become c = v := by
  rw [← h]
  rfl

/-- Entry to STOPPING (R86). -/
def stop (v : ChannelView) : ChannelView := { v.become .stopping with release := true }

/-- The rest begins under this rest setting (R92). -/
def rested (v : ChannelView) (rest : Nat) : ChannelView :=
  if rest = 0 then v else { v with channel := { v.channel with rest := rest * Config.ticksPerSecond } }

/-- A demand joins the queue (R36). -/
def joined (v : ChannelView) (d : Demand) : ChannelView :=
  { v with entry := some (match v.entry with
      | some (c, a, h) => (c.higher d.cls, longer a d.allowance, h)
      | none => (d.cls, d.allowance, false)) }

/-- A demand is handed back (R40, R91). -/
def requeued (v : ChannelView) (d : Demand) : ChannelView := if d.allowance = some 0 then v else v.joined d

/-- The channel leaves ON: an exempt one to OFF, a budgeted one to STOPPING, its rest begun (R85, R88, R92). -/
def off (v : ChannelView) (exempt : Bool) (rest : Nat) : ChannelView :=
  (if exempt then v.become .off else v.stop).rested rest

end ChannelView

/-! ## The claim unit's operations -/

theorem entryIn_map {f : Entry → Entry} (hf : ∀ e, (f e).channel = e.channel) (n : ChannelIx) (q : List Entry) :
    entryIn n (q.map f) = (entryIn n q).map f := by
  unfold entryIn
  rw [List.find?_map]
  congr 2
  funext e
  simp [hf]

theorem entryIn_insertEntry_of_none {e : Entry} {q : List Entry} (h : entryIn e.channel q = none) :
    entryIn e.channel (insertEntry e q) = some e := by
  induction q with
  | nil => simp [insertEntry, entryIn]
  | cons x xs ih =>
    rw [entryIn_eq_none] at h
    have hx : x.channel ≠ e.channel := h x List.mem_cons_self
    have hxs : entryIn e.channel xs = none := entryIn_eq_none.2 fun y hy => h y (List.mem_cons_of_mem x hy)
    unfold insertEntry
    split
    · simp [entryIn]
    · rw [← ih hxs]
      simp [entryIn, hx]

namespace ClaimUnit

theorem entryView_eq_none {u : ClaimUnit} {n : ChannelIx} : u.entryView n = none ↔ entryIn n u.queue = none :=
  Option.map_eq_none_iff

theorem claimView_of_none {u : ClaimUnit} (h : u.outstanding = none) (n : ChannelIx) : u.claimView n = none := by
  unfold claimView
  rw [h]
  rfl

theorem claimView_self {u : ClaimUnit} {o : OutstandingClaim} (h : u.outstanding = some o) :
    u.claimView o.channel = some { o with number := 0 } := by
  unfold claimView
  rw [h]
  simp

theorem claimView_ne {u : ClaimUnit} {o : OutstandingClaim} {n : ChannelIx} (h : u.outstanding = some o)
    (hn : n ≠ o.channel) : u.claimView n = none := by
  unfold claimView
  rw [h]
  simp [Ne.symm hn]

theorem claimView_eq_some {u : ClaimUnit} {n : ChannelIx} {c : OutstandingClaim} (h : u.claimView n = some c) :
    ∃ o, u.outstanding = some o ∧ o.channel = n ∧ c = { o with number := 0 } := by
  unfold claimView at h
  obtain ⟨o, ho, rfl⟩ := Option.map_eq_some_iff.1 h
  obtain ⟨ho, hn⟩ := Option.filter_eq_some_iff.1 ho
  exact ⟨o, ho, by simpa using hn, rfl⟩

theorem claimView_eq_none {u : ClaimUnit} {n : ChannelIx} (h : u.claimView n = none) :
    ∀ o, u.outstanding = some o → o.channel ≠ n := by
  rintro o ho rfl
  rw [claimView_self ho] at h
  cases h

/-- Renumbering changes enqueue numbers alone (R34). -/
theorem renumbered_view (u : ClaimUnit) (n : ChannelIx) :
    u.renumbered.entryView n = u.entryView n ∧ u.renumbered.claimView n = u.claimView n := by
  constructor
  · unfold entryView renumbered
    dsimp only
    rw [entryIn_map (by exact fun _ => rfl), Option.map_map]
    rfl
  · unfold claimView renumbered
    dsimp only
    cases u.outstanding with
    | none => rfl
    | some o => by_cases h : o.channel = n <;> simp [h, Option.filter]

theorem claimView_insert (u : ClaimUnit) (q : List Entry) (k : Nat) (n : ChannelIx) :
    ({ u with queue := q, enqueueCount := k } : ClaimUnit).claimView n = u.claimView n := rfl

theorem append_view (u : ClaimUnit) (m : ChannelIx) (d : Demand) (n : ChannelIx) (h : entryIn m u.queue = none) :
    (u.append m d).entryView n = (if n = m then some (d.cls, d.allowance, false) else u.entryView n) ∧
      (u.append m d).claimView n = u.claimView n := by
  have hq : entryIn n (insertEntry
      { channel := m, cls := d.cls, allowance := d.allowance, hold := false, number := u.enqueueCount } u.queue) =
      if n = m then
        some { channel := m, cls := d.cls, allowance := d.allowance, hold := false, number := u.enqueueCount }
      else entryIn n u.queue := by
    split
    · rename_i hn
      subst hn
      exact entryIn_insertEntry_of_none
        (e := { channel := n, cls := d.cls, allowance := d.allowance, hold := false, number := u.enqueueCount }) h
    · exact entryIn_insertEntry_ne (Ne.symm ‹_›) u.queue
  have hbefore : (({ u with
      queue := insertEntry
        { channel := m, cls := d.cls, allowance := d.allowance, hold := false, number := u.enqueueCount } u.queue
      enqueueCount := u.enqueueCount + 1 } : ClaimUnit)).entryView n =
      if n = m then some (d.cls, d.allowance, false) else u.entryView n := by
    unfold entryView
    rw [hq]
    split <;> rfl
  unfold append
  dsimp only
  split
  · rw [(renumbered_view _ n).1, (renumbered_view _ n).2]
    exact ⟨hbefore, rfl⟩
  · exact ⟨hbefore, rfl⟩

theorem mergeInto_view (u : ClaimUnit) (e : Entry) (d : Demand) (n : ChannelIx) :
    (u.mergeInto e d).entryView n =
        (if n = e.channel then some (e.cls.higher d.cls, longer e.allowance d.allowance, e.hold)
        else u.entryView n) ∧
      (u.mergeInto e d).claimView n = u.claimView n := by
  refine ⟨?_, rfl⟩
  unfold mergeInto entryView
  dsimp only
  split
  · rename_i hn
    subst hn
    rw [entryIn_insertEntry_of_none
      (e := { e with cls := e.cls.higher d.cls, allowance := longer e.allowance d.allowance })
      (entryIn_removeEntry_self e.channel u.queue)]
    rfl
  · rename_i hn
    rw [entryIn_insertEntry_ne (by exact Ne.symm hn), entryIn_removeEntry_ne (Ne.symm hn)]

/-- What joining the queue does to the entries and the claim, by channel (R36). -/
theorem enqueue_view (u : ClaimUnit) (m : ChannelIx) (d : Demand) (n : ChannelIx) :
    (u.enqueue m d).entryView n =
        (if n = m then some (match u.entryView m with
          | some (c, a, h) => (c.higher d.cls, longer a d.allowance, h)
          | none => (d.cls, d.allowance, false))
        else u.entryView n) ∧
      (u.enqueue m d).claimView n = u.claimView n := by
  cases h : entryIn m u.queue with
  | none =>
    have he : u.enqueue m d = u.append m d := by
      unfold enqueue
      rw [show (u.queue.find? fun e => e.channel == m) = none from h]
    rw [he, entryView_eq_none.2 h]
    exact append_view u m d n h
  | some e =>
    have he : u.enqueue m d = u.mergeInto e d := by
      unfold enqueue
      rw [show (u.queue.find? fun e => e.channel == m) = some e from h]
    have hm : e.channel = m := (mem_of_entryIn h).2
    have hv : u.entryView m = some e.terms := by rw [entryView, h]; rfl
    rw [he, hv, ← hm]
    exact mergeInto_view u e d n

end ClaimUnit

/-! ## The operations, by channel -/

namespace State

theorem view_setClaims (s : State) (u : ClaimUnit) (n : ChannelIx) :
    (s.setClaims u).view n = { s.view n with entry := u.entryView n, claim := u.claimView n } := rfl

theorem view_setChannel_self (s : State) (n : ChannelIx) (c : Channel) :
    (s.setChannel n c).view n = { s.view n with channel := c } := by
  unfold view
  rw [channel_setChannel_self]
  rfl

theorem view_setChannel_ne (s : State) {m n : ChannelIx} (c : Channel) (h : n ≠ m) :
    (s.setChannel m c).view n = s.view n := by
  unfold view
  rw [channel_setChannel_ne s m n c h]
  rfl

theorem view_setChannelState_self (s : State) (n : ChannelIx) (c : ChannelState) :
    (s.setChannelState n c).view n = (s.view n).become c := view_setChannel_self s n _

theorem view_setChannelState_ne (s : State) {m n : ChannelIx} (c : ChannelState) (h : n ≠ m) :
    (s.setChannelState m c).view n = s.view n := view_setChannel_ne s _ h

theorem view_setRelease_self (s : State) (n : ChannelIx) (b : Bool) :
    (s.setOffers { s.line.offers with releases := s.line.offers.releases.set n b }).view n =
      { s.view n with release := b } := by
  have h := releases_set s.line.offers.releases n n b
  rw [if_pos rfl] at h
  exact congrArg (fun r => { s.view n with release := r }) h

theorem view_setRelease_ne (s : State) {m n : ChannelIx} (b : Bool) (h : n ≠ m) :
    (s.setOffers { s.line.offers with releases := s.line.offers.releases.set m b }).view n = s.view n := by
  have hr := releases_set s.line.offers.releases m n b
  rw [if_neg h] at hr
  exact congrArg (fun r => { s.view n with release := r }) hr

theorem view_enterStopping_self (s : State) (n : ChannelIx) : (s.enterStopping n).view n = (s.view n).stop := by
  unfold enterStopping
  exact (view_setRelease_self _ n true).trans (by rw [view_setChannelState_self]; rfl)

theorem view_enterStopping_ne (s : State) {m n : ChannelIx} (h : n ≠ m) : (s.enterStopping m).view n = s.view n :=
  (view_setRelease_ne (s.setChannelState m .stopping) true h).trans (view_setChannelState_ne s _ h)

theorem view_endStopping_self (s : State) (n : ChannelIx) :
    (s.endStopping n).view n = { (s.view n).become .off with release := false } := by
  unfold endStopping
  exact (view_setRelease_self _ n false).trans (by rw [view_setChannelState_self])

theorem view_endStopping_ne (s : State) {m n : ChannelIx} (h : n ≠ m) : (s.endStopping m).view n = s.view n :=
  (view_setRelease_ne (s.setChannelState m .off) false h).trans (view_setChannelState_ne s _ h)

theorem view_beginRest_self (s : State) (n : ChannelIx) :
    (s.beginRest n).view n = (s.view n).rested (s.channelSettings n).rest := by
  unfold beginRest ChannelView.rested
  split
  · rfl
  · exact view_setChannel_self s n _

theorem view_beginRest_ne (s : State) {m n : ChannelIx} (h : n ≠ m) : (s.beginRest m).view n = s.view n := by
  unfold beginRest
  split
  · rfl
  · exact view_setChannel_ne s _ h

theorem view_switchOff_self (s : State) (n : ChannelIx) :
    (s.switchOff n).view n = (s.view n).off (s.exempt n) (s.channelSettings n).rest := by
  unfold switchOff ChannelView.off
  rw [view_beginRest_self]
  split
  · rw [view_setChannelState_self]; rfl
  · rw [view_enterStopping_self]; rfl

theorem view_switchOff_ne (s : State) {m n : ChannelIx} (h : n ≠ m) : (s.switchOff m).view n = s.view n := by
  unfold switchOff
  rw [view_beginRest_ne _ h]
  split
  · exact view_setChannelState_ne s _ h
  · exact view_enterStopping_ne s h

theorem view_switchOn_self (s : State) (n : ChannelIx) (d : Demand) :
    (s.switchOn n d).view n =
      (s.view n).become (.switchedOn { d with allowance := capped (s.channelSettings n).maxRun d.allowance }) :=
  view_setChannelState_self s n _

theorem view_switchOn_ne (s : State) {m n : ChannelIx} (d : Demand) (h : n ≠ m) :
    (s.switchOn m d).view n = s.view n := view_setChannelState_ne s _ h

theorem view_enqueue_self (s : State) (n : ChannelIx) (d : Demand) :
    (s.setClaims (s.claims.enqueue n d)).view n = (s.view n).joined d := by
  obtain ⟨h1, h2⟩ := ClaimUnit.enqueue_view s.claims n d n
  rw [view_setClaims, h1, h2, if_pos rfl]
  rfl

theorem view_enqueue_ne (s : State) {m n : ChannelIx} (d : Demand) (h : n ≠ m) :
    (s.setClaims (s.claims.enqueue m d)).view n = s.view n := by
  obtain ⟨h1, h2⟩ := ClaimUnit.enqueue_view s.claims m d n
  rw [view_setClaims, h1, h2, if_neg h]
  rfl

theorem view_requeue_self (s : State) (n : ChannelIx) (d : Demand) :
    (s.requeue n d).view n = (s.view n).requeued d := by
  unfold requeue ChannelView.requeued
  split
  · rfl
  · exact view_enqueue_self s n d

theorem view_requeue_ne (s : State) {m n : ChannelIx} (d : Demand) (h : n ≠ m) :
    (s.requeue m d).view n = s.view n := by
  unfold requeue
  split
  · rfl
  · exact view_enqueue_ne s d h

/-- The hold-clear signal (R50). -/
theorem view_holdClear (s : State) (n : ChannelIx) :
    s.holdClear.view n = { s.view n with entry := (s.view n).entry.map fun e => (e.1, e.2.1, false) } := by
  have he : ({ s.claims with queue := clearHolds s.claims.queue } : ClaimUnit).entryView n =
      (s.claims.entryView n).map fun e => (e.1, e.2.1, false) := by
    unfold ClaimUnit.entryView clearHolds
    dsimp only
    rw [entryIn_map (by exact fun _ => rfl), Option.map_map, Option.map_map]
    rfl
  unfold holdClear
  rw [view_setClaims, he]
  rfl

theorem view_dropClaim_self (s : State) (o : OutstandingClaim) :
    (s.dropClaim o).view o.channel = { (s.view o.channel).become .off with claim := none } := by
  unfold dropClaim
  exact (view_setChannelState_self (s.setClaims { s.claims with outstanding := none }) o.channel .off)

theorem view_dropClaim_ne {s : State} {o : OutstandingClaim} (ho : s.claims.outstanding = some o) {n : ChannelIx}
    (h : n ≠ o.channel) : (s.dropClaim o).view n = s.view n := by
  refine (view_setChannelState_ne (s.setClaims { s.claims with outstanding := none }) .off h).trans ?_
  rw [view_setClaims]
  unfold view
  rw [ClaimUnit.claimView_ne ho h]
  rfl

theorem view_returnClaim_self {s : State} {o : OutstandingClaim} {hold : Bool}
    (he : entryIn o.channel s.claims.queue = none) :
    (s.returnClaim o hold).view o.channel =
      { (s.view o.channel).become .off with claim := none, entry := some (o.cls, o.allowance, hold) } := by
  have hin : entryIn o.channel (insertEntry (o.entry hold) s.claims.queue) = some (o.entry hold) :=
    entryIn_insertEntry_of_none (e := o.entry hold) he
  unfold returnClaim
  dsimp only
  rw [view_setClaims, view_dropClaim_self]
  unfold ClaimUnit.entryView
  dsimp only
  rw [show (s.dropClaim o).claims.queue = s.claims.queue from rfl, hin]
  rfl

theorem view_returnClaim_ne {s : State} {o : OutstandingClaim} (hold : Bool) (ho : s.claims.outstanding = some o)
    {n : ChannelIx} (h : n ≠ o.channel) : (s.returnClaim o hold).view n = s.view n := by
  have hin : entryIn n (insertEntry (o.entry hold) s.claims.queue) = entryIn n s.claims.queue :=
    entryIn_insertEntry_ne (Ne.symm h) _
  have hd := view_dropClaim_ne ho h
  unfold returnClaim
  dsimp only
  rw [view_setClaims, ← hd]
  unfold ClaimUnit.entryView
  dsimp only
  rw [show (s.dropClaim o).claims.queue = s.claims.queue from rfl, hin]
  rfl

theorem view_judge_of {s : State} {n : ChannelIx} (hc : s.judge.channel n = s.channel n)
    (he : s.judge.entryOf n = s.entryOf n) (ht : ∀ e, s.takes = some e → e.channel ≠ n) : s.judge.view n = s.view n := by
  have hentry : s.judge.claims.entryView n = s.claims.entryView n := congrArg (Option.map Entry.terms) he
  have hclaim : s.judge.claims.claimView n = s.claims.claimView n := by
    rcases judge_outstanding_cases s with h | ⟨e, htakes, hn, ho⟩
    · unfold ClaimUnit.claimView
      rw [h]
    · rw [ClaimUnit.claimView_of_none hn, ClaimUnit.claimView_ne ho (Ne.symm (ht e htakes))]
  unfold view
  rw [hc, hentry, hclaim, judge_releases]

/-- The judgement leaves a channel that is not ready (R41, R42). -/
theorem view_judge_of_not_ready {s : State} {n : ChannelIx} (h : s.ready n = false) : s.judge.view n = s.view n :=
  view_judge_of (judge_of_not_ready h).1 (judge_of_not_ready h).2 (takes_ne_of_not_ready h)

/-- The judgement leaves a channel without an entry. -/
theorem view_judge_of_no_entry {s : State} {n : ChannelIx} (h : s.entryOf n = none) : s.judge.view n = s.view n :=
  view_judge_of (judge_of_no_entry h).1 ((judge_of_no_entry h).2.trans h.symm) (takes_ne_of_no_entry h)

/-! ## The own-record events and the passes, by channel -/

theorem view_ownShed_ne (s : State) {m n : ChannelIx} (h : n ≠ m) : (s.ownShed m).view n = s.view n := by
  unfold ownShed
  repeat' split
  · rfl
  · rw [view_requeue_ne _ _ h, view_switchOff_ne _ h]
  · exact view_enterStopping_ne s h
  · rfl

theorem view_ownExpired_ne (s : State) {m n : ChannelIx} (h : n ≠ m) : (s.ownExpired m).view n = s.view n := by
  unfold ownExpired
  repeat' split
  · rfl
  · rw [view_requeue_ne _ _ h, view_beginRest_ne _ h, view_setChannelState_ne _ _ h]
  · rw [view_requeue_ne _ _ h, view_setChannelState_ne _ _ h]
  · exact view_endStopping_ne s h
  · rfl

theorem view_ownReleased_ne (s : State) {m n : ChannelIx} (h : n ≠ m) : (s.ownReleased m).view n = s.view n := by
  unfold ownReleased
  repeat' split
  · rfl
  · rw [view_requeue_ne _ _ h, view_setChannelState_ne _ _ h]
  · rfl

theorem view_ownPromoted_ne (s : State) {m n : ChannelIx} (h : n ≠ m) : (s.ownPromoted m).view n = s.view n := by
  unfold ownPromoted
  repeat' split
  · rfl
  · exact view_switchOn_ne s _ h
  · rfl

theorem view_becomeInhibited_ne (s : State) {m n : ChannelIx} (h : n ≠ m) :
    (s.becomeInhibited m).view n = s.view n := by
  unfold becomeInhibited
  split
  · rfl
  · rfl
  · rw [view_requeue_ne _ _ h, view_enterStopping_ne _ h]
  · rw [view_requeue_ne _ _ h, view_switchOff_ne _ h]
  · split
    · split
      · rename_i o ho hc
        exact view_returnClaim_ne false ho (by rwa [hc.1])
      · rfl
    · rfl

theorem view_divergeChannel_ne (s : State) {m n : ChannelIx} (h : n ≠ m) :
    (s.divergeChannel m).view n = s.view n := by
  unfold divergeChannel
  split
  · rfl
  split
  · rw [view_requeue_ne _ _ h, view_switchOff_ne _ h]
  · rw [view_requeue_ne _ _ h, view_enterStopping_ne _ h]
  · rfl
  · split
    · exact view_enterStopping_ne s h
    · rfl
  · split
    · split
      · rename_i o ho hc
        exact view_returnClaim_ne false ho (by rwa [hc])
      · rfl
    · rfl

theorem view_muteChannel_ne (s : State) {m n : ChannelIx} (h : n ≠ m) : (s.muteChannel m).view n = s.view n := by
  unfold muteChannel
  split
  · rfl
  split
  · rw [view_requeue_ne _ _ h, view_beginRest_ne _ h, view_setChannelState_ne _ _ h]
  · rw [view_requeue_ne _ _ h, view_setChannelState_ne _ _ h]
  · exact view_setChannelState_ne s _ h
  · rfl
  · split
    · split
      · rename_i o ho hc
        exact view_returnClaim_ne false ho (by rwa [hc])
      · rfl
    · rfl

/-- A pass over channels leaves a channel that is not among them. -/
theorem view_foldl_of_not_mem {f : State → ChannelIx → State} {n : ChannelIx}
    (hf : ∀ t m, n ≠ m → (f t m).view n = t.view n) {l : List ChannelIx} (hn : n ∉ l) (s : State) :
    (l.foldl f s).view n = s.view n := by
  induction l generalizing s with
  | nil => rfl
  | cons m l ih =>
    rw [List.foldl_cons, ih (fun h => hn (List.mem_cons_of_mem m h)),
      hf s m (by rintro rfl; exact hn List.mem_cons_self)]

/-- A pass over channels does to each of them what its own turn does, its part of the station as it stood before. -/
theorem view_foldl {f : State → ChannelIx → State} {n : ChannelIx} (hw : ∀ t m, ClaimWork t (f t m))
    (hf : ∀ t m, n ≠ m → (f t m).view n = t.view n) {l : List ChannelIx} (hl : l.Nodup) (hn : n ∈ l) (s : State) :
    ∃ t, ClaimWork s t ∧ t.view n = s.view n ∧ (l.foldl f s).view n = (f t n).view n := by
  induction l generalizing s with
  | nil => cases hn
  | cons m l ih =>
    obtain ⟨hm, hl⟩ := List.nodup_cons.1 hl
    rw [List.foldl_cons]
    by_cases h : n = m
    · subst h
      exact ⟨s, .refl s, rfl, view_foldl_of_not_mem hf hm _⟩
    · obtain ⟨t, ht, hv, he⟩ := ih hl ((List.mem_cons.1 hn).resolve_left h) (f s m)
      exact ⟨t, (hw s m).trans ht, hv.trans (hf s m h), he⟩

/-- A pass whose turn does the same to the channel's part every time, and once only, does it once. -/
theorem view_foldl_of_idem {f : State → ChannelIx → State} {n : ChannelIx} {F : ChannelView → ChannelView} {s : State}
    (hw : ∀ t m, ClaimWork t (f t m)) (hf : ∀ t m, n ≠ m → (f t m).view n = t.view n)
    (hF : ∀ t, ClaimWork s t → (f t n).view n = F (t.view n)) (hidem : ∀ v, F (F v) = F v) {l : List ChannelIx}
    (hn : n ∈ l) : (l.foldl f s).view n = F (s.view n) := by
  have stays : ∀ (l : List ChannelIx) (t : State), ClaimWork s t → t.view n = F (s.view n) →
      (l.foldl f t).view n = F (s.view n) := by
    intro l
    induction l with
    | nil => exact fun _ _ h => h
    | cons m l ih =>
      intro t ht hv
      refine ih _ (ht.trans (hw t m)) ?_
      by_cases h : n = m
      · subst h
        rw [hF t ht, hv, hidem]
      · rw [hf t m h, hv]
  have reaches : ∀ (l : List ChannelIx) (t : State), n ∈ l → ClaimWork s t → t.view n = s.view n →
      (l.foldl f t).view n = F (s.view n) := by
    intro l
    induction l with
    | nil => exact fun _ h => nomatch h
    | cons m l ih =>
      intro t hn ht hv
      by_cases h : n = m
      · subst h
        exact stays l _ (ht.trans (hw t n)) (by rw [hF t ht, hv])
      · exact ih _ ((List.mem_cons.1 hn).resolve_left h) (ht.trans (hw t m)) (by rw [hf t m h, hv])
  exact reaches l s hn (.refl s) rfl

/-- A claim read off a channel's part is the outstanding one, apart from its number. -/
theorem claim_of_view {s t : State} {n : ChannelIx} {o : OutstandingClaim} (h : t.view n = s.view n)
    (ho : s.claims.outstanding = some o) (hn : o.channel = n) :
    ∃ k, t.claims.outstanding = some { o with number := k } := by
  have hc : t.claims.claimView n = s.claims.claimView n := congrArg ChannelView.claim h
  subst hn
  rw [ClaimUnit.claimView_self ho] at hc
  obtain ⟨o', ho', -, he⟩ := ClaimUnit.claimView_eq_some hc
  refine ⟨o'.number, ho'.trans (congrArg some ?_)⟩
  have : { o with number := o'.number } = ({ o' with number := o'.number } : OutstandingClaim) :=
    congrArg (fun c : OutstandingClaim => { c with number := o'.number }) he
  exact this.symm

theorem entry_of_view {s t : State} {n : ChannelIx} (h : t.view n = s.view n) :
    entryIn n t.claims.queue = none ↔ entryIn n s.claims.queue = none := by
  rw [← ClaimUnit.entryView_eq_none, ← ClaimUnit.entryView_eq_none]
  exact (congrArg ChannelView.entry h).congr_left

theorem channel_of_view {s t : State} {n : ChannelIx} (h : t.view n = s.view n) : t.channel n = s.channel n :=
  congrArg ChannelView.channel h

theorem channelState_of_view {s t : State} {n : ChannelIx} (h : t.view n = s.view n) :
    t.channelState n = s.channelState n := congrArg Channel.state (channel_of_view h)

theorem release_of_view {s t : State} {n : ChannelIx} (h : t.view n = s.view n) :
    t.line.offers.releases[n] = s.line.offers.releases[n] := congrArg ChannelView.release h

/-- An entry read off a channel's part. -/
theorem entry_of_view_some {s : State} {n : ChannelIx} {c : Machine.Class} {a : Option Nat} {h : Bool}
    (he : (s.view n).entry = some (c, a, h)) :
    ∃ e, s.entryOf n = some e ∧ e.cls = c ∧ e.allowance = a ∧ e.hold = h := by
  obtain ⟨e, hin, hterms⟩ := Option.map_eq_some_iff.1 he
  cases hterms
  exact ⟨e, hin, rfl, rfl, rfl⟩

theorem entryOf_eq_none_iff {s : State} {n : ChannelIx} : s.entryOf n = none ↔ (s.view n).entry = none :=
  ClaimUnit.entryView_eq_none.symm

/-! ## The turn of a channel in the passes -/

theorem view_becomeInhibited_on {s : State} {n : ChannelIx} {d : Demand} (h : s.channelState n = .switchedOn d) :
    (s.becomeInhibited n).view n = ((s.view n).off (s.exempt n) (s.channelSettings n).rest).requeued d := by
  unfold becomeInhibited
  rw [h]
  dsimp only
  rw [view_requeue_self, view_switchOff_self]

theorem view_becomeInhibited_pending {s : State} {n : ChannelIx} {d : Demand} (h : s.channelState n = .pending d) :
    (s.becomeInhibited n).view n = ((s.view n).stop).requeued d := by
  unfold becomeInhibited
  rw [h]
  dsimp only
  rw [view_requeue_self, view_enterStopping_self]

theorem becomeInhibited_of_rests {s : State} {n : ChannelIx} (h : s.channelState n = .off ∨ s.channelState n = .stopping) :
    s.becomeInhibited n = s := by
  unfold becomeInhibited
  rcases h with h | h <;> rw [h]

theorem view_becomeInhibited_claim {s : State} {o : OutstandingClaim} (h : s.channelState o.channel = .claiming)
    (ho : s.claims.outstanding = some o) (hf : o.inFlight = false) (he : entryIn o.channel s.claims.queue = none) :
    (s.becomeInhibited o.channel).view o.channel =
      { (s.view o.channel).become .off with claim := none, entry := some (o.cls, o.allowance, false) } := by
  unfold becomeInhibited
  rw [h, ho]
  dsimp only
  rw [if_pos ⟨rfl, hf⟩, view_returnClaim_self he]

theorem becomeInhibited_inFlight {s : State} {o : OutstandingClaim} (h : s.channelState o.channel = .claiming)
    (ho : s.claims.outstanding = some o) (hf : o.inFlight = true) : s.becomeInhibited o.channel = s := by
  unfold becomeInhibited
  rw [h, ho]
  dsimp only
  rw [if_neg (by simp [hf])]

theorem view_divergeChannel_on {s : State} {n : ChannelIx} {d : Demand} (hx : s.exempt n = false)
    (h : s.channelState n = .switchedOn d) :
    (s.divergeChannel n).view n = ((s.view n).off false (s.channelSettings n).rest).requeued d := by
  unfold divergeChannel
  rw [if_neg (by simp [hx]), h]
  dsimp only
  rw [view_requeue_self, view_switchOff_self, hx]

theorem view_divergeChannel_pending {s : State} {n : ChannelIx} {d : Demand} (hx : s.exempt n = false)
    (h : s.channelState n = .pending d) : (s.divergeChannel n).view n = ((s.view n).stop).requeued d := by
  unfold divergeChannel
  rw [if_neg (by simp [hx]), h]
  dsimp only
  rw [view_requeue_self, view_enterStopping_self]

theorem divergeChannel_exempt {s : State} {n : ChannelIx} (hx : s.exempt n = true) : s.divergeChannel n = s := by
  unfold divergeChannel
  rw [if_pos hx]

theorem divergeChannel_stopping {s : State} {n : ChannelIx} (h : s.channelState n = .stopping) :
    s.divergeChannel n = s := by
  unfold divergeChannel
  rw [h]
  exact ite_self s

theorem view_divergeChannel_off {s : State} {n : ChannelIx} (hx : s.exempt n = false) (h : s.channelState n = .off) :
    (s.divergeChannel n).view n =
      if (findHolding s.ownId n s.table).isSome then (s.view n).stop else s.view n := by
  unfold divergeChannel
  rw [if_neg (by simp [hx]), h]
  dsimp only
  split
  · exact view_enterStopping_self s n
  · rfl

theorem view_divergeChannel_claim {s : State} {o : OutstandingClaim} (hx : s.exempt o.channel = false)
    (h : s.channelState o.channel = .claiming) (ho : s.claims.outstanding = some o)
    (he : entryIn o.channel s.claims.queue = none) :
    (s.divergeChannel o.channel).view o.channel =
      { (s.view o.channel).become .off with claim := none, entry := some (o.cls, o.allowance, false) } := by
  unfold divergeChannel
  rw [if_neg (by simp [hx]), h, ho]
  dsimp only
  rw [if_pos rfl, view_returnClaim_self he]

theorem view_muteChannel_on {s : State} {n : ChannelIx} {d : Demand} (hx : s.exempt n = false)
    (h : s.channelState n = .switchedOn d) :
    (s.muteChannel n).view n = (((s.view n).become .off).rested (s.channelSettings n).rest).requeued d := by
  unfold muteChannel
  rw [if_neg (by simp [hx]), h]
  dsimp only
  rw [view_requeue_self, view_beginRest_self, view_setChannelState_self]
  rfl

theorem view_muteChannel_pending {s : State} {n : ChannelIx} {d : Demand} (hx : s.exempt n = false)
    (h : s.channelState n = .pending d) : (s.muteChannel n).view n = ((s.view n).become .off).requeued d := by
  unfold muteChannel
  rw [if_neg (by simp [hx]), h]
  dsimp only
  rw [view_requeue_self, view_setChannelState_self]

theorem view_muteChannel_rests {s : State} {n : ChannelIx} (hx : s.exempt n = false)
    (h : s.channelState n = .stopping ∨ s.channelState n = .off) :
    (s.muteChannel n).view n = (s.view n).become .off := by
  unfold muteChannel
  rw [if_neg (by simp [hx])]
  rcases h with h | h <;> rw [h] <;> dsimp only
  · exact view_setChannelState_self s n .off
  · exact (ChannelView.become_self h).symm

theorem muteChannel_exempt {s : State} {n : ChannelIx} (hx : s.exempt n = true) : s.muteChannel n = s := by
  unfold muteChannel
  rw [if_pos hx]

theorem view_muteChannel_claim {s : State} {o : OutstandingClaim} (hx : s.exempt o.channel = false)
    (h : s.channelState o.channel = .claiming) (ho : s.claims.outstanding = some o)
    (he : entryIn o.channel s.claims.queue = none) :
    (s.muteChannel o.channel).view o.channel =
      { (s.view o.channel).become .off with claim := none, entry := some (o.cls, o.allowance, false) } := by
  unfold muteChannel
  rw [if_neg (by simp [hx]), h, ho]
  dsimp only
  rw [if_pos rfl, view_returnClaim_self he]

/-! ## The own-record events -/

end State

/-- "Own record became SHEDDING" (R85, R86, R87), of a budgeted channel. -/
def ChannelView.shed (v : ChannelView) (rest : Nat) : ChannelView :=
  match v.channel.state with
  | .switchedOn d => (v.off false rest).requeued d
  | .off => v.stop
  | _ => v

/-- "Own record removed, by expiry" (R84 to R87), of a budgeted channel. -/
def ChannelView.expired (v : ChannelView) (rest : Nat) : ChannelView :=
  match v.channel.state with
  | .switchedOn d => ((v.become .off).rested rest).requeued d
  | .pending d => (v.become .off).requeued d
  | .stopping => { v.become .off with release := false }
  | _ => v

namespace ChannelView

theorem state_rested (v : ChannelView) (rest : Nat) : (v.rested rest).channel.state = v.channel.state := by
  unfold rested
  split <;> rfl

theorem channel_requeued (v : ChannelView) (d : Demand) : (v.requeued d).channel = v.channel := by
  unfold requeued
  split <;> rfl

theorem release_requeued (v : ChannelView) (d : Demand) : (v.requeued d).release = v.release := by
  unfold requeued
  split <;> rfl

theorem release_rested (v : ChannelView) (rest : Nat) : (v.rested rest).release = v.release := by
  unfold rested
  split <;> rfl

theorem entry_rested (v : ChannelView) (rest : Nat) : (v.rested rest).entry = v.entry := by
  unfold rested
  split <;> rfl

theorem rest_rested (v : ChannelView) (rest : Nat) :
    (v.rested rest).channel.rest = if rest = 0 then v.channel.rest else rest * 64 := by
  unfold rested
  split <;> rfl

theorem state_off (v : ChannelView) (exempt : Bool) (rest : Nat) :
    (v.off exempt rest).channel.state = if exempt then .off else .stopping := by
  unfold off
  rw [state_rested]
  cases exempt <;> rfl

theorem rest_off (v : ChannelView) (exempt : Bool) (rest : Nat) :
    (v.off exempt rest).channel.rest = if rest = 0 then v.channel.rest else rest * 64 := by
  unfold off
  rw [rest_rested]
  cases exempt <;> rfl

theorem release_off (v : ChannelView) (exempt : Bool) (rest : Nat) :
    (v.off exempt rest).release = if exempt then v.release else true := by
  unfold off
  rw [release_rested]
  cases exempt <;> rfl

theorem entry_off (v : ChannelView) (exempt : Bool) (rest : Nat) : (v.off exempt rest).entry = v.entry := by
  unfold off
  rw [entry_rested]
  cases exempt <;> rfl

/-- A demand handed back where none waits is the channel's entry. -/
theorem entry_requeued {v : ChannelView} {d : Demand} (h : v.entry = none) (hd : d.allowance ≠ some 0) :
    (v.requeued d).entry = some (d.cls, d.allowance, false) := by
  unfold requeued joined
  rw [if_neg hd, h]

theorem entry_requeued_empty {v : ChannelView} {d : Demand} (hd : d.allowance = some 0) :
    (v.requeued d).entry = v.entry := by
  unfold requeued
  rw [if_pos hd]

theorem shed_shed (v : ChannelView) (rest : Nat) : (v.shed rest).shed rest = v.shed rest := by
  have stopped : ∀ w : ChannelView, w.channel.state = .stopping → w.shed rest = w := by
    intro w hw
    unfold shed
    rw [hw]
  cases h : v.channel.state with
  | switchedOn d =>
    have he : v.shed rest = (v.off false rest).requeued d := by unfold shed; rw [h]
    rw [he]
    exact stopped _ (by rw [channel_requeued, state_off]; rfl)
  | off =>
    have he : v.shed rest = v.stop := by unfold shed; rw [h]
    rw [he]
    exact stopped _ rfl
  | _ =>
    have he : v.shed rest = v := by unfold shed; rw [h]
    rw [he, he]

theorem expired_expired (v : ChannelView) (rest : Nat) : (v.expired rest).expired rest = v.expired rest := by
  have gone : ∀ w : ChannelView, w.channel.state = .off → w.expired rest = w := by
    intro w hw
    unfold expired
    rw [hw]
  cases h : v.channel.state with
  | switchedOn d =>
    have he : v.expired rest = ((v.become .off).rested rest).requeued d := by unfold expired; rw [h]
    rw [he]
    exact gone _ (by rw [channel_requeued, state_rested]; rfl)
  | pending d =>
    have he : v.expired rest = (v.become .off).requeued d := by unfold expired; rw [h]
    rw [he]
    exact gone _ (by rw [channel_requeued]; rfl)
  | stopping =>
    have he : v.expired rest = { v.become .off with release := false } := by unfold expired; rw [h]
    rw [he]
    exact gone _ rfl
  | _ =>
    have he : v.expired rest = v := by unfold expired; rw [h]
    rw [he, he]

end ChannelView

namespace State

theorem view_ownShed_self {s : State} {n : ChannelIx} (hx : s.exempt n = false) :
    (s.ownShed n).view n = (s.view n).shed (s.channelSettings n).rest := by
  unfold ownShed ChannelView.shed
  rw [if_neg (by simp [hx])]
  change _ = match s.channelState n with | .switchedOn d => _ | .off => _ | _ => _
  cases h : s.channelState n <;> dsimp only
  · exact view_enterStopping_self s n
  · rw [view_requeue_self, view_switchOff_self, hx]

theorem ownShed_exempt {s : State} {n : ChannelIx} (hx : s.exempt n = true) : s.ownShed n = s := by
  unfold ownShed
  rw [if_pos hx]

theorem view_ownExpired_self {s : State} {n : ChannelIx} (hx : s.exempt n = false) :
    (s.ownExpired n).view n = (s.view n).expired (s.channelSettings n).rest := by
  unfold ownExpired ChannelView.expired
  rw [if_neg (by simp [hx])]
  change _ = match s.channelState n with | .switchedOn d => _ | .pending d => _ | .stopping => _ | _ => _
  cases h : s.channelState n <;> dsimp only
  · rw [view_requeue_self, view_setChannelState_self]
  · rw [view_requeue_self, view_beginRest_self, view_setChannelState_self]
    rfl
  · exact view_endStopping_self s n

theorem ownExpired_exempt {s : State} {n : ChannelIx} (hx : s.exempt n = true) : s.ownExpired n = s := by
  unfold ownExpired
  rw [if_pos hx]

theorem view_ownPromoted_self {s : State} {n : ChannelIx} {d : Demand} (hx : s.exempt n = false)
    (h : s.channelState n = .pending d) :
    (s.ownPromoted n).view n = (s.view n).become
      (.switchedOn { d with allowance := capped (s.channelSettings n).maxRun d.allowance }) := by
  unfold ownPromoted
  rw [if_neg (by simp [hx]), h]
  exact view_switchOn_self s n d

/-- The events of a list of own records are those of its channels, in its order. -/
theorem foldl_own {α : Type} {f : State → ChannelIx → State} (hw : ∀ t m, ClaimWork t (f t m)) (holder : α → Nat)
    (channel : α → ChannelIx) (l : List α) (s : State) :
    l.foldl (fun t a => if holder a = t.ownId then f t (channel a) else t) s =
      ((l.filter fun a => decide (holder a = s.ownId)).map channel).foldl f s := by
  induction l generalizing s with
  | nil => rfl
  | cons a l ih =>
    rw [List.foldl_cons, List.filter_cons]
    by_cases h : holder a = s.ownId
    · rw [if_pos h, if_pos (by simpa using h), List.map_cons, List.foldl_cons, ih, (hw s (channel a)).ownId]
    · rw [if_neg h, if_neg (by simpa using h), ih]

/-- The sheds reach the own budgeted victims and leave every other channel. -/
theorem view_giveSheds (s : State) (victims : List (Nat × ChannelIx)) (n : ChannelIx) :
    (s.giveSheds victims).view n =
      if (s.ownId, n) ∈ victims ∧ s.exempt n = false then (s.view n).shed (s.channelSettings n).rest
      else s.view n := by
  have hl : s.giveSheds victims =
      ((victims.filter fun v => decide (v.1 = s.ownId)).map Prod.snd).foldl ownShed s :=
    foldl_own ownShed_work Prod.fst Prod.snd victims s
  have hmem : n ∈ (victims.filter fun v => decide (v.1 = s.ownId)).map Prod.snd ↔ (s.ownId, n) ∈ victims := by
    rw [List.mem_map]
    constructor
    · rintro ⟨⟨h, c⟩, hv, rfl⟩
      rw [List.mem_filter, decide_eq_true_eq] at hv
      obtain ⟨hv, rfl⟩ := hv
      exact hv
    · exact fun hv => ⟨_, List.mem_filter.2 ⟨hv, by simp⟩, rfl⟩
  rw [hl]
  split
  · rename_i h
    refine view_foldl_of_idem (F := fun v => v.shed (s.channelSettings n).rest) ownShed_work
      (fun t m hn => view_ownShed_ne t hn) (fun t ht => ?_) (fun v => v.shed_shed _) (hmem.2 h.1)
    rw [view_ownShed_self (by rw [ht.exempt]; exact h.2), show t.channelSettings n = s.channelSettings n by
      unfold channelSettings; rw [ht.settings]]
  · rename_i h
    by_cases hx : s.exempt n = false
    · exact view_foldl_of_not_mem (fun t m hn => view_ownShed_ne t hn) (fun hm => h ⟨hmem.1 hm, hx⟩) s
    · by_cases hm : n ∈ (victims.filter fun v => decide (v.1 = s.ownId)).map Prod.snd
      · refine view_foldl_of_idem (F := id) ownShed_work (fun t m hn => view_ownShed_ne t hn) (fun t ht => ?_)
          (fun v => rfl) hm
        rw [ownShed_exempt (by rw [ht.exempt]; simpa using hx)]
        rfl
      · exact view_foldl_of_not_mem (fun t m hn => view_ownShed_ne t hn) hm s

/-- The expiries reach the own budgeted channels whose records are gone and leave every other channel. -/
theorem view_giveExpiries (s : State) (gone : List Holding) (n : ChannelIx) :
    (s.giveExpiries gone).view n =
      if (∃ r ∈ gone, r.holder = s.ownId ∧ r.channel = n) ∧ s.exempt n = false then
        (s.view n).expired (s.channelSettings n).rest
      else s.view n := by
  have hl : s.giveExpiries gone =
      ((gone.filter fun r => decide (r.holder = s.ownId)).map Holding.channel).foldl ownExpired s :=
    foldl_own ownExpired_work Holding.holder Holding.channel gone s
  have hmem : n ∈ (gone.filter fun r => decide (r.holder = s.ownId)).map Holding.channel ↔
      ∃ r ∈ gone, r.holder = s.ownId ∧ r.channel = n := by
    rw [List.mem_map]
    constructor
    · rintro ⟨r, hr, hc⟩
      rw [List.mem_filter, decide_eq_true_eq] at hr
      exact ⟨r, hr.1, hr.2, hc⟩
    · rintro ⟨r, hr, hh, hc⟩
      exact ⟨r, List.mem_filter.2 ⟨hr, by simpa using hh⟩, hc⟩
  rw [hl]
  split
  · rename_i h
    refine view_foldl_of_idem (F := fun v => v.expired (s.channelSettings n).rest) ownExpired_work
      (fun t m hn => view_ownExpired_ne t hn) (fun t ht => ?_) (fun v => v.expired_expired _) (hmem.2 h.1)
    rw [view_ownExpired_self (by rw [ht.exempt]; exact h.2), show t.channelSettings n = s.channelSettings n by
      unfold channelSettings; rw [ht.settings]]
  · rename_i h
    by_cases hx : s.exempt n = false
    · exact view_foldl_of_not_mem (fun t m hn => view_ownExpired_ne t hn) (fun hm => h ⟨hmem.1 hm, hx⟩) s
    · by_cases hm : n ∈ (gone.filter fun r => decide (r.holder = s.ownId)).map Holding.channel
      · refine view_foldl_of_idem (F := id) ownExpired_work (fun t m hn => view_ownExpired_ne t hn) (fun t ht => ?_)
          (fun v => rfl) hm
        rw [ownExpired_exempt (by rw [ht.exempt]; simpa using hx)]
        rfl
      · exact view_foldl_of_not_mem (fun t m hn => view_ownExpired_ne t hn) hm s

end State

end Sys2Proof.Machine
end

section
/-! PROOFS. What a CLAIM, a RELEASE and an INHIBIT do to each own channel (O41 to O44, O50). -/

namespace Sys2Proof.Machine

namespace State

/-! ## A channel's part told by its fields -/

theorem outputActive_of_not_on {s : State} {n : ChannelIx} (h : (s.channelState n).isOn = false) :
    s.outputActive n = false := by
  rw [Bool.eq_false_iff, Ne, outputActive_iff, h]
  rintro ⟨-, -, hc, -⟩
  cases hc

/-- A channel that left ON with its demand handed back (R85, R88, R91, R92). -/
theorem off_requeued {t : State} {n : ChannelIx} {v : ChannelView} {exempt : Bool} {rest : Nat} {d : Demand}
    (hv : t.view n = (v.off exempt rest).requeued d) :
    t.channelState n = (if exempt then .off else .stopping) ∧
      t.line.offers.releases[n] = (if exempt then v.release else true) ∧
      (t.channel n).rest = (if rest = 0 then v.channel.rest else rest * 64) ∧
      (v.entry = none → d.allowance ≠ some 0 → t.holdsEntry n d) ∧
      (v.entry = none → d.allowance = some 0 → t.entryOf n = none) := by
  have hc : t.channel n = (v.off exempt rest).channel :=
    (congrArg ChannelView.channel hv).trans (ChannelView.channel_requeued _ _)
  refine ⟨?_, ?_, ?_, fun he hd => ?_, fun he hd => ?_⟩
  · exact (congrArg Channel.state hc).trans (v.state_off exempt rest)
  · exact (congrArg ChannelView.release hv).trans ((ChannelView.release_requeued _ _).trans (v.release_off exempt rest))
  · exact (congrArg Channel.rest hc).trans (v.rest_off exempt rest)
  · refine entry_of_view_some ?_
    rw [hv, ChannelView.entry_requeued (by rw [v.entry_off, he]) hd]
  · rw [entryOf_eq_none_iff, hv, ChannelView.entry_requeued_empty hd, v.entry_off, he]

/-- A PENDING channel that went to STOPPING with its demand handed back (R84, R85). -/
theorem stop_requeued {t : State} {n : ChannelIx} {v : ChannelView} {d : Demand} (hv : t.view n = v.stop.requeued d) :
    t.channel n = { v.channel with state := .stopping } ∧ t.line.offers.releases[n] = true ∧
      (v.entry = none → d.allowance ≠ some 0 → t.holdsEntry n d) := by
  refine ⟨(congrArg ChannelView.channel hv).trans (ChannelView.channel_requeued _ _),
    (congrArg ChannelView.release hv).trans (ChannelView.release_requeued _ _), fun he hd => ?_⟩
  refine entry_of_view_some ?_
  rw [hv, ChannelView.entry_requeued (v := v.stop) he hd]

/-! ## Operations that leave every channel's part -/

theorem view_dropIdleRenew (s : State) (n : ChannelIx) : s.dropIdleRenew.view n = s.view n := by
  unfold dropIdleRenew
  split <;> rfl

theorem view_judge_of_ne_off {s : State} {n : ChannelIx} (h : s.channelState n ≠ .off) : s.judge.view n = s.view n :=
  view_judge_of_not_ready (by rw [Bool.eq_false_iff]; exact fun hr => h ((ready_iff s n).1 hr).1)

/-- What a judgement with the RENEW check before it leaves of a channel that is not OFF. -/
theorem view_dropIdleRenew_judge {s : State} {n : ChannelIx} (h : s.channelState n ≠ .off) :
    s.dropIdleRenew.judge.view n = s.view n := by
  rw [view_judge_of_ne_off, view_dropIdleRenew]
  rwa [channelState_of_view (view_dropIdleRenew s n)]

theorem view_giveSheds_exempt {s : State} {n : ChannelIx} (victims : List (Nat × ChannelIx)) (hx : s.exempt n = true) :
    (s.giveSheds victims).view n = s.view n := by
  rw [view_giveSheds, if_neg (by simp [hx])]

end State

/-! ## Another station's CLAIM -/

theorem ClaimWork.untouched {s t : State} (h : ClaimWork s t) :
    t = { s with claims := t.claims, channels := t.channels, line := t.line } := by
  rw [← h]

/-- Claim work on a state that differs from s in its table, claim unit, channels and line differs so from s. -/
theorem ClaimWork.reaches {s u t : State} (h : ClaimWork u t)
    (hu : ∃ table claims channels line,
      u = { s with table := table, claims := claims, channels := channels, line := line }) :
    t = { s with table := t.table, claims := t.claims, channels := t.channels, line := t.line } := by
  obtain ⟨table, claims, channels, line, rfl⟩ := hu
  rw [← h]

/-- The station once it has heard a CLAIM and given the sheds, before the judgement. -/
def State.shed (s : State) (ev : Evaluation) : State := (s.setTable ev.table).giveSheds ev.victims

theorem State.view_shed (s : State) (ev : Evaluation) (n : ChannelIx) :
    (s.shed ev).view n =
      if (s.ownId, n) ∈ ev.victims ∧ s.exempt n = false then (s.view n).shed (s.channelSettings n).rest
      else s.view n := view_giveSheds (s.setTable ev.table) ev.victims n

theorem State.shed_work (s : State) (ev : Evaluation) : ClaimWork (s.setTable ev.table) (s.shed ev) :=
  giveSheds_work _ _

theorem unitsInRange_iff (u : Nat) : unitsInRange u = true ↔ 1 ≤ u ∧ u ≤ 250 := by
  rw [unitsInRange_eq, decide_eq_true_eq]

/-- The sheds and the judgement after them, by the state of an own budgeted victim's channel (R85, R87). -/
theorem shed_judge {s : State} {ev : Evaluation} {n : ChannelIx} (hm : (s.ownId, n) ∈ ev.victims)
    (hx : s.exempt n = false) :
    (∀ d, s.channelState n = .switchedOn d →
      (s.shed ev).view n = ((s.view n).off false (s.channelSettings n).rest).requeued d) ∧
    (s.channelState n = .off → (s.shed ev).view n = (s.view n).stop) ∧
    (s.channelState n = .claiming ∨ s.channelState n = .stopping ∨ (∃ d, s.channelState n = .pending d) →
      (s.shed ev).view n = s.view n) := by
  have hv : (s.shed ev).view n = (s.view n).shed (s.channelSettings n).rest := by
    rw [State.view_shed, if_pos ⟨hm, hx⟩]
  rw [hv]
  have hstate : (s.view n).channel.state = s.channelState n := rfl
  unfold ChannelView.shed
  refine ⟨fun d h => ?_, fun h => ?_, ?_⟩
  · rw [hstate, h]
  · rw [hstate, h]
  · rintro (h | h | ⟨d, h⟩) <;> rw [hstate, h]

theorem exec_claimAccepted_hears {s : State} {head : FrameHead} {p : Vector Byte 2}
    (hh : s.hears (frameOf head kindClaim p.toList)) (hp : s.ofProfile (frameOf head kindClaim p.toList)) :
    exec (.claimAccepted head p) s = .next (State.applyClaim head.source.toNat (Class.ofBits head.cls)
      (channelLow p[0]) p[1].toNat (p[0].getLsbD 7) false (s.lineAccepted (frameOf head kindClaim p.toList))) := by
  change execClaimAccepted head p s = _
  unfold execClaimAccepted
  rw [acceptFrame_hears _ hh hp (show kindClaim.toNat < 9 by decide)]

theorem applyClaim_of_not {source : Nat} {cls : Machine.Class} {c : ChannelIx} {units : Nat} {d own : Bool} {s : State}
    (h : ¬ (s.member.state = .synced ∧ unitsInRange units = true)) :
    State.applyClaim source cls c units d own s = s := if_neg h

theorem applyClaim_foreign {source : Nat} {cls : Machine.Class} {c : ChannelIx} {units : Nat} {d : Bool} {s : State}
    (hm : s.member.state = .synced) (hu : unitsInRange units = true) :
    State.applyClaim source cls c units d false s =
      (s.shed (s.evaluated source cls c units d)).dropIdleRenew.judge := if_pos ⟨hm, hu⟩

/-- Settles O41. -/
theorem foreignClaimIsApplied : Obligations.ForeignClaimIsApplied := by
  intro head p s f ev hh hp
  have hexec := exec_claimAccepted_hears hh hp
  have hview : ∀ n, (s.lineAccepted f).view n = s.view n := fun n => rfl
  have hoff : ∀ t : State, ∀ n, t.channelState n = .stopping → t.outputActive n = false := fun t n h =>
    State.outputActive_of_not_on (by rw [h]; rfl)
  have applied (hm : s.member.state = .synced) (h1 : 1 ≤ p[1].toNat) (h2 : p[1].toNat ≤ 250) :
      exec (.claimAccepted head p) s = .next ((s.lineAccepted f).shed ev).dropIdleRenew.judge := by
    rw [hexec, applyClaim_foreign (by exact hm) ((unitsInRange_iff _).2 ⟨h1, h2⟩)]
    rfl
  refine ⟨fun h => ?_, fun hm h1 h2 => ⟨_, applied hm h1 h2, ?_⟩, fun hm h1 h2 => ⟨_, applied hm h1 h2, ?_⟩⟩
  · rw [hexec, applyClaim_of_not]
    · rfl
    · rw [unitsInRange_iff]
      rintro ⟨hm, h1, h2⟩
      rcases h with h | h | h
      · rw [show s.member.state = .synced from hm] at h
        cases h
      · omega
      · omega
  · have hw : ClaimWork ((s.lineAccepted f).setTable ev.table) ((s.lineAccepted f).shed ev).dropIdleRenew.judge :=
      ((State.shed_work _ ev).trans (dropIdleRenew_work _)).trans (judge_work _)
    refine ⟨hw.table, ?_, fun n hv hn => ?_, fun n d hv hx hn => ?_⟩
    · rw [← hw]
      rfl
    · have hs : ((s.lineAccepted f).shed ev).view n = s.view n := by
        rw [State.view_shed, if_neg fun h => hv h.1]
        exact hview n
      exact State.channel_of_view
        ((State.view_dropIdleRenew_judge (by rwa [State.channelState_of_view hs])).trans hs)
    · have hs := (shed_judge (s := s.lineAccepted f) hv hx).1 d hn
      obtain ⟨k1, -⟩ := State.off_requeued hs
      obtain ⟨h1, h2, h3, h4, -⟩ := State.off_requeued ((State.view_dropIdleRenew_judge (by rw [k1]; decide)).trans hs)
      refine ⟨h1, h2, hoff _ n h1, fun hr => ?_, fun he hd => ?_⟩
      · rw [h3]
        exact if_neg hr
      · exact h4 (State.entryOf_eq_none_iff.1 he) hd
  · intro n hv hx
    obtain ⟨-, k2, k3⟩ := shed_judge (s := s.lineAccepted f) hv hx
    refine ⟨fun hn => ?_, fun hn => ?_⟩
    · have hs := k2 hn
      have ht := (State.view_dropIdleRenew_judge (by
        rw [show ((s.lineAccepted f).shed ev).channelState n = .stopping from
          congrArg (fun v => v.channel.state) hs]
        decide)).trans hs
      exact ⟨congrArg ChannelView.channel ht, congrArg ChannelView.release ht, congrArg ChannelView.entry ht⟩
    · have hs := k3 hn
      refine State.channel_of_view (s := s) ((State.view_dropIdleRenew_judge ?_).trans hs)
      rw [State.channelState_of_view hs]
      change s.channelState n ≠ .off
      rcases hn with hn | hn | ⟨d, hn⟩ <;>
      · rw [show s.channelState n = _ from hn]
        exact nofun

/-! ## The own CLAIM -/

/-- The claim's part of a channel once the outstanding claim has ended (R48). -/
theorem State.view_endClaim_self {s : State} (n : ChannelIx) :
    (s.setClaims { s.claims with outstanding := none }).view n = { s.view n with claim := none } := rfl

theorem State.view_endClaim_ne {s : State} {o : OutstandingClaim} (ho : s.claims.outstanding = some o) {n : ChannelIx}
    (h : n ≠ o.channel) : (s.setClaims { s.claims with outstanding := none }).view n = s.view n := by
  rw [view_endClaim_self]
  unfold view
  rw [ClaimUnit.claimView_ne ho h]

theorem State.view_settleAdmitted_ne {s : State} {o : OutstandingClaim} (ho : s.claims.outstanding = some o) (b : Bool)
    {n : ChannelIx} (h : n ≠ o.channel) : (s.settleAdmitted o b).view n = s.view n := by
  have he := view_endClaim_ne ho h
  unfold settleAdmitted
  dsimp only
  split
  · rw [view_enterStopping_ne _ h, he]
  · split
    · rw [view_requeue_ne _ _ h, view_enterStopping_ne _ h, he]
    · split
      · rw [view_switchOn_ne _ _ h, he]
      · rw [view_setChannelState_ne _ _ h, he]

/-- The channel of an admitted claim, by its stop note and its inhibition (R48, R52, R83). -/
theorem State.view_settleAdmitted_self (s : State) (o : OutstandingClaim) (b : Bool) :
    (s.settleAdmitted o b).view o.channel =
      if o.stopNote then { s.view o.channel with claim := none }.stop
      else if s.inhibited o.channel then
        ({ s.view o.channel with claim := none }.stop).requeued { cls := o.cls, allowance := o.allowance }
      else if b then { s.view o.channel with claim := none }.become
        (.switchedOn { cls := o.cls, allowance := capped (s.channelSettings o.channel).maxRun o.allowance })
      else { s.view o.channel with claim := none }.become (.pending { cls := o.cls, allowance := o.allowance }) := by
  unfold settleAdmitted
  dsimp only
  split
  · rw [view_enterStopping_self]
    rfl
  · split
    · rw [view_requeue_self, view_enterStopping_self]
      rfl
    · split
      · rw [view_switchOn_self]
        rfl
      · rw [view_setChannelState_self]
        rfl

/-- The station once the own CLAIM has been accepted, before its evaluation (R178, R181). -/
def State.claimAccepted (s : State) (f : Frame) : State := (s.lineAccepted f).endOwnAttempt .claim

theorem State.claimAccepted_eq (s : State) (f : Frame) :
    s.claimAccepted f =
      { s with
        claims := { s.claims with
          outstanding := s.claims.outstanding.map fun o => { o with inFlight := false } }
        line := { s.line with
          activity := .counting, idleCount := 0, buffer := f.bits ++ [true], vetoStreak := 0, sendStreak := 0
          courtesyGap := true, offers := { s.line.offers with claim := false } } } := rfl

theorem State.exempt_of_settings {s t : State} (h : t.settings = s.settings) (n : ChannelIx) :
    t.exempt n = s.exempt n := by
  unfold exempt weight channelSettings
  rw [h]

theorem State.claimAccepted_keeps (s : State) (f : Frame) :
    (s.claimAccepted f).ownId = s.ownId ∧ (s.claimAccepted f).settings = s.settings ∧
      ∀ n, (s.claimAccepted f).exempt n = s.exempt n ∧ (s.claimAccepted f).inhibited n = s.inhibited n := by
  rw [claimAccepted_eq]
  exact ⟨rfl, rfl, fun n => ⟨rfl, rfl⟩⟩

theorem State.claimAccepted_reaches (s : State) (f : Frame) (t : List Holding) :
    ∃ table claims channels line, (s.claimAccepted f).setTable t =
      { s with table := table, claims := claims, channels := channels, line := line } :=
  ⟨_, _, _, _, by rw [claimAccepted_eq]; rfl⟩

theorem State.view_claimAccepted_ne {s : State} {c : OutstandingClaim} (hc : s.claims.outstanding = some c) (f : Frame)
    {n : ChannelIx} (h : n ≠ c.channel) : (s.claimAccepted f).view n = s.view n := by
  have hu : (s.claimAccepted f).claims.outstanding = some { c with inFlight := false } := by
    rw [claimAccepted_eq]
    change s.claims.outstanding.map _ = _
    rw [hc]
    rfl
  unfold view
  rw [ClaimUnit.claimView_ne hc h, ClaimUnit.claimView_ne hu (by exact h)]
  rfl

theorem State.view_claimAccepted (s : State) (f : Frame) (n : ChannelIx) :
    { (s.claimAccepted f).view n with claim := none } = { s.view n with claim := none } := by
  unfold view
  rw [claimAccepted_eq]
  rfl

theorem exec_claimAccepted_own {s : State} {head : FrameHead} {p : Vector Byte 2} (ho : s.member.state.online = true)
    (ht : s.line.activity = .transmitting .claim (frameOf head kindClaim p.toList))
    (hp : s.ofProfile (frameOf head kindClaim p.toList)) :
    exec (.claimAccepted head p) s = .next (State.applyClaim head.source.toNat (Class.ofBits head.cls)
      (channelLow p[0]) p[1].toNat (p[0].getLsbD 7) true (s.claimAccepted (frameOf head kindClaim p.toList))) := by
  obtain ⟨hj, hc⟩ := judgements_ofProfile hp (show kindClaim.toNat < 9 by decide)
  change execClaimAccepted head p s = _
  unfold execClaimAccepted
  rw [acceptFrame_own _ ho ht, if_pos hj, hc]
  rfl

theorem applyClaim_own {source : Nat} {cls : Machine.Class} {c : ChannelIx} {units : Nat} {d : Bool} {s : State}
    (hm : s.member.state = .synced) (hu : unitsInRange units = true) :
    State.applyClaim source cls c units d true s =
      ((s.shed (s.evaluated source cls c units d)).settleOwnClaim (s.evaluated source cls c units d).result
        c).dropIdleRenew.judge := if_pos ⟨hm, hu⟩

/-- No record of the claim's own key is a victim of the claim (R13, R15). -/
theorem ne_of_mem_victims {budget lease : Nat} {t : List Holding} {h : Nat} {c : ChannelIx} {u : Nat}
    {p : Machine.Class} {d : Bool} {n : ChannelIx} (hv : (h, n) ∈ (evaluateClaim budget lease t h c u p d).victims) :
    n ≠ c := by
  rintro rfl
  rcases evaluateClaim_cases budget lease t h n u p d with ⟨-, hn, -⟩ | ⟨-, -, -, he⟩ | ⟨ha, -, -, -, -, -, vs, hw, he⟩
  · rw [hn] at hv
    cases hv
  · rw [he] at hv
    cases hv
  · rw [he] at hv
    obtain ⟨r, hr, hk⟩ := List.mem_map.1 hv
    have hrt := ((mem_victimOrder r t).1 ((walkVictims_spec hw).1.subset hr)).1
    cases hk
    exact (findHolding_eq_none _ _ _).1 ha r hrt rfl rfl

/-- An evaluation that does not refuse is one of the two that do not, and its table holds the claim's record. -/
theorem evaluateClaim_granted_table {budget lease : Nat} {t : List Holding} {h : Nat} {c : ChannelIx} {u : Nat}
    {p : Machine.Class} {d : Bool} (hg : (evaluateClaim budget lease t h c u p d).result = .granted) :
    { holder := h, channel := c, units := u, cls := p, state := .held, lease := lease } ∈
      (evaluateClaim budget lease t h c u p d).table := by
  rcases evaluateClaim_cases budget lease t h c u p d with ⟨-, -, hr⟩ | ⟨-, -, -, he⟩ | ⟨-, -, -, -, -, -, vs, -, he⟩
  · rw [hg] at hr
    simp at hr
  · rw [he]
    exact (mem_insertHolding _ _ _).2 (.inl rfl)
  · rw [he] at hg
    cases hg

theorem evaluateClaim_refused {budget lease : Nat} {t : List Holding} {h : Nat} {c : ChannelIx} {u : Nat}
    {p : Machine.Class} {d : Bool} (hg : (evaluateClaim budget lease t h c u p d).result ≠ .granted)
    (hd : (evaluateClaim budget lease t h c u p d).result ≠ .displacing) :
    (evaluateClaim budget lease t h c u p d).table = t ∧ (evaluateClaim budget lease t h c u p d).victims = [] := by
  rcases evaluateClaim_cases budget lease t h c u p d with ⟨ht, hv, -⟩ | ⟨-, -, -, he⟩ | ⟨-, -, -, -, -, -, vs, -, he⟩
  · exact ⟨ht, hv⟩
  · exact absurd (congrArg Evaluation.result he) hg
  · exact absurd (congrArg Evaluation.result he) hd

/-- The settlement of an admitted own claim, its channel and every other (R48, R52, R83). -/
theorem settleOwnClaim_admitted {s : State} {o : OutstandingClaim} {r : ClaimResult} (ho : s.claims.outstanding = some o)
    (hr : r = .granted ∨ r = .displacing) :
    s.settleOwnClaim r o.channel = s.settleAdmitted o (r == .granted) := by
  unfold State.settleOwnClaim
  rw [ho]
  dsimp only
  rw [if_pos rfl]
  rcases hr with rfl | rfl <;> rfl

/-- A claiming channel of a sound queue has no entry. -/
theorem State.QueueCore.entry_of_engaged {s : State} (h : s.QueueCore) {n : ChannelIx}
    (hn : (s.channelState n).isEngaged = true) : s.entryOf n = none := by
  rw [State.entryOf_eq, entryIn_eq_none]
  rintro e he rfl
  rw [h.waits e he] at hn
  cases hn

theorem State.QueueCore.entry_of_on {s : State} (h : s.QueueCore) {n : ChannelIx} {d : Demand}
    (hn : s.channelState n = .switchedOn d) : s.entryOf n = none := h.entry_of_engaged (by rw [hn]; rfl)

theorem State.QueueCore.entry_of_pending {s : State} (h : s.QueueCore) {n : ChannelIx} {d : Demand}
    (hn : s.channelState n = .pending d) : s.entryOf n = none := h.entry_of_engaged (by rw [hn]; rfl)

/-- Settles O42. -/
theorem ownClaimAdmittedMovesTheChannel : Obligations.OwnClaimAdmittedMovesTheChannel := by
  intro head p s c f ev hinv hm ht hp hsrc hc hchan h1 h2 hres
  have core := ((queueInv_iff s).1 hinv).toQueueCore
  have hclaiming := core.claim_channel hc
  have hentry := core.claim_entry hc
  have hbudget := core.claim_budgeted hc
  let u := s.claimAccepted f
  have hu : u.claims.outstanding = some { c with inFlight := false } := by
    change s.claims.outstanding.map _ = _
    rw [hc]
    rfl
  obtain ⟨hown, hsettings, hkeeps⟩ := s.claimAccepted_keeps f
  have hvictim : ∀ n, (s.ownId, n) ∈ ev.victims → n ≠ c.channel := fun n hn => by
    rw [← hchan]
    rw [← hsrc] at hn
    exact ne_of_mem_victims hn
  have huview : ∀ n, n ≠ c.channel → u.view n = s.view n := fun n hn => State.view_claimAccepted_ne hc f hn
  -- the claim stands through the sheds
  have hshedc : (u.shed ev).view c.channel = u.view c.channel := by
    rw [State.view_shed, if_neg]
    rw [show u.ownId = s.ownId from hown]
    exact fun h => hvictim _ h.1 rfl
  obtain ⟨k, hk⟩ := State.claim_of_view hshedc hu rfl
  generalize ho : ({ c with inFlight := false, number := k } : OutstandingClaim) = o at hk
  have hoc : o.channel = c.channel := by rw [← ho]
  have hterms : c.stopNote = o.stopNote ∧ c.cls = o.cls ∧ c.allowance = o.allowance := by
    rw [← ho]
    exact ⟨rfl, rfl, rfl⟩
  let w := (u.shed ev).settleAdmitted o (ev.result == .granted)
  have hsettle : (u.shed ev).settleOwnClaim ev.result (channelLow p[0]) = w := by
    rw [hchan.trans hoc.symm]
    exact settleOwnClaim_admitted hk hres
  have hexec : exec (.claimAccepted head p) s = .next w.dropIdleRenew.judge := by
    rw [exec_claimAccepted_own (by rw [hm]; rfl) ht hp,
      applyClaim_own (by exact hm) ((unitsInRange_iff _).2 ⟨h1, h2⟩)]
    exact congrArg (fun t : State => Host.Outcome.next t.dropIdleRenew.judge) hsettle
  have hwork : ClaimWork (u.setTable ev.table) w.dropIdleRenew.judge :=
    (((State.shed_work u ev).trans (settleAdmitted_work _ o _)).trans (dropIdleRenew_work _)).trans (judge_work _)
  have hinh : (u.shed ev).inhibited o.channel = s.inhibited c.channel := by
    rw [hoc, (State.shed_work u ev).inhibited]
    exact (hkeeps c.channel).2
  have hset : (u.shed ev).channelSettings o.channel = s.channelSettings c.channel := by
    rw [hoc]
    unfold State.channelSettings
    rw [(State.shed_work u ev).settings]
    change (s.claimAccepted f).settings.channels[_] = _
    rw [hsettings]
  have hself : w.view c.channel =
      if c.stopNote then { s.view c.channel with claim := none }.stop
      else if s.inhibited c.channel then
        ({ s.view c.channel with claim := none }.stop).requeued { cls := c.cls, allowance := c.allowance }
      else if ev.result == .granted then { s.view c.channel with claim := none }.become
        (.switchedOn { cls := c.cls, allowance := capped (s.channelSettings c.channel).maxRun c.allowance })
      else { s.view c.channel with claim := none }.become (.pending { cls := c.cls, allowance := c.allowance }) := by
    have hbase : { u.view c.channel with claim := none } = { s.view c.channel with claim := none } :=
      State.view_claimAccepted s f c.channel
    have hw := (u.shed ev).view_settleAdmitted_self o (ev.result == .granted)
    rw [hinh, hset, hoc, hshedc, hbase, ← hterms.1, ← hterms.2.1, ← hterms.2.2] at hw
    exact hw
  have hne : ∀ n, n ≠ c.channel → w.view n = (u.shed ev).view n := fun n hn =>
    State.view_settleAdmitted_ne hk _ (by rw [hoc]; exact hn)
  have hjudge : ∀ n v, w.view n = v → v.channel.state ≠ .off → w.dropIdleRenew.judge.view n = v := fun n v hv hn => by
    rw [← hv] at hn ⊢
    exact State.view_dropIdleRenew_judge hn
  refine ⟨_, hexec, hwork.table, ?_, fun n hn hv hoff => ?_, fun hs hi => ⟨fun hg => ?_, fun hd => ?_⟩, fun hs => ?_,
    fun hs hi ha => ?_, fun n hv hx => ⟨hvictim n hv, ?_⟩⟩
  · exact hwork.reaches (s.claimAccepted_reaches f ev.table)
  · have hw : w.view n = s.view n := by
      rw [hne n hn, State.view_shed, show u.ownId = s.ownId from hown, if_neg fun h => hv h.1, huview n hn]
    exact State.channel_of_view (s := s) (hjudge n _ hw hoff)
  · rw [hs, hi, if_neg (by decide), if_neg (by decide), if_pos (by rw [hg]; rfl)] at hself
    refine ⟨congrArg (fun v => v.channel.state) (hjudge _ _ hself nofun), ?_⟩
    refine ⟨_, by rw [hwork.table]; exact evaluateClaim_granted_table hg, ?_⟩
    have hid : w.dropIdleRenew.judge.ownId = s.ownId := hwork.ownId.trans hown
    rw [hid]
    exact ⟨hsrc, hchan, rfl⟩
  · rw [hs, hi, if_neg (by decide), if_neg (by decide), if_neg (by rw [hd]; decide)] at hself
    exact congrArg (fun v => v.channel.state) (hjudge _ _ hself nofun)
  · rw [hs, if_pos rfl] at hself
    have ht := hjudge _ _ hself nofun
    refine ⟨congrArg (fun v => v.channel.state) ht, congrArg ChannelView.release ht, ?_, congrArg ChannelView.channel ht⟩
    rw [State.entryOf_eq_none_iff, ht]
    exact State.entryOf_eq_none_iff.1 hentry
  · rw [hs, hi, if_neg (by decide), if_pos rfl] at hself
    have ht := hjudge _ _ hself (by rw [ChannelView.channel_requeued]; exact nofun)
    obtain ⟨k1, k2, k3⟩ := State.stop_requeued ht
    exact ⟨congrArg Channel.state k1, k2, k3 (State.entryOf_eq_none_iff.1 hentry) ha⟩
  · have hn := hvictim n hv
    obtain ⟨k1, k2, k3⟩ := shed_judge (s := u) (n := n) (ev := ev) (by rw [show u.ownId = s.ownId from hown]; exact hv)
      (by rw [show u.exempt n = s.exempt n from (hkeeps n).1]; exact hx)
    have hstate : u.channelState n = s.channelState n := State.channelState_of_view (huview n hn)
    have hsets : u.channelSettings n = s.channelSettings n := by
      unfold State.channelSettings
      rw [show u.settings = s.settings from hsettings]
    rw [← hne n hn, huview n hn, hstate] at k1 k2 k3
    rw [hsets] at k1
    refine ⟨fun d hd => ?_, fun hd => ?_, fun hd => ?_⟩
    · have hwd := k1 d hd
      have ht := hjudge _ _ hwd (by rw [ChannelView.channel_requeued, ChannelView.state_off]; exact nofun)
      obtain ⟨h1, h2, h3, h4, h5⟩ := State.off_requeued ht
      have he := State.entryOf_eq_none_iff.1 (core.entry_of_on hd)
      exact ⟨h1, h2, State.outputActive_of_not_on (by rw [h1]; rfl), h3, h4 he, h5 he⟩
    · have ht := hjudge _ _ (k2 hd) nofun
      exact ⟨congrArg ChannelView.channel ht, congrArg ChannelView.release ht, congrArg ChannelView.entry ht⟩
    · refine State.channel_of_view (s := s) (hjudge _ _ (k3 (.inr hd)) ?_)
      change s.channelState n ≠ .off
      rcases hd with hd | ⟨d, hd⟩ <;>
      · rw [show s.channelState n = _ from hd]
        exact nofun

/-! ## An own CLAIM that is refused -/

theorem dropIdleRenew_takes (s : State) : s.dropIdleRenew.takes = s.takes := by
  unfold State.dropIdleRenew
  split <;> rfl

theorem dropIdleRenew_claims (s : State) : s.dropIdleRenew.claims = s.claims := by
  unfold State.dropIdleRenew
  split <;> rfl

theorem dropIdleRenew_releases (s : State) : s.dropIdleRenew.line.offers.releases = s.line.offers.releases := by
  unfold State.dropIdleRenew
  split <;> rfl

theorem State.view_settleRefused_ne {s : State} {o : OutstandingClaim} (ho : s.claims.outstanding = some o)
    {n : ChannelIx} (h : n ≠ o.channel) : (s.settleRefused o).view n = s.view n := by
  unfold settleRefused
  split
  · exact view_dropClaim_ne ho h
  · exact view_returnClaim_ne true ho h

theorem settleRefused_releases (s : State) (o : OutstandingClaim) :
    (s.settleRefused o).line.offers.releases = s.line.offers.releases := by
  unfold State.settleRefused
  split <;> rfl

/-- What a refused claim leaves: its channel OFF, its demand waiting with HOLD set, or dropped with a stop note (R48,
R52 (3)). -/
theorem settleRefused_judge {s : State} {o : OutstandingClaim} (hq : (s.claims.queue.map Entry.channel).Nodup)
    (he : s.entryOf o.channel = none) (hx : s.exempt o.channel = false) :
    (s.settleRefused o).dropIdleRenew.judge.channelState o.channel = .off ∧
      (o.stopNote = false → o.entry true ∈ (s.settleRefused o).dropIdleRenew.judge.claims.queue) ∧
      (o.stopNote = true → (s.settleRefused o).dropIdleRenew.judge.entryOf o.channel = none) := by
  unfold State.settleRefused
  cases hs : o.stopNote
  · have hr : State.settleRefused s o = s.returnClaim o true := by simp [State.settleRefused, hs]
    have htakes : ∀ e, (s.returnClaim o true).dropIdleRenew.takes = some e → e.channel ≠ o.channel := by
      rw [dropIdleRenew_takes]
      exact returnClaim_takes hq he (.inl rfl)
    have hserv : (s.returnClaim o true).dropIdleRenew.servable o.channel = false :=
      servable_of_budgeted (by rw [(dropIdleRenew_work _).exempt, (returnClaim_work s o true).exempt]; exact hx)
    refine ⟨?_, fun _ => ?_, nofun⟩
    · change ((s.returnClaim o true).dropIdleRenew.judge.channel o.channel).state = _
      rw [judge_channel_of_not hserv htakes, State.channel_of_view (State.view_dropIdleRenew _ _), returnClaim_channel,
        if_pos rfl]
    · refine mem_judge_queue ?_ hserv htakes
      rw [dropIdleRenew_claims]
      exact (mem_insertEntry _ _ _).2 (.inl rfl)
  · have hentry : (s.dropClaim o).dropIdleRenew.entryOf o.channel = none := by
      rw [State.entryOf_eq, dropIdleRenew_claims]
      exact he
    obtain ⟨h1, h2⟩ := judge_of_no_entry hentry
    refine ⟨?_, nofun, fun _ => h2⟩
    change ((s.dropClaim o).dropIdleRenew.judge.channel o.channel).state = _
    rw [h1, State.channel_of_view (State.view_dropIdleRenew _ _), dropClaim_channel, if_pos rfl]

/-- The settlement of a refused own claim: the count of claims voided, but for a DUPLICATE (R48). -/
theorem settleOwnClaim_refused {s : State} {o : OutstandingClaim} {r : ClaimResult} (ho : s.claims.outstanding = some o)
    (hg : r ≠ .granted) (hd : r ≠ .displacing) :
    s.settleOwnClaim r o.channel = (if r = .duplicate then s else s.countVoided).settleRefused o := by
  unfold State.settleOwnClaim
  rw [ho]
  dsimp only
  rw [if_pos rfl]
  cases r with
  | granted => exact absurd rfl hg
  | displacing => exact absurd rfl hd
  | noBudget => rfl
  | full => rfl
  | duplicate => rfl

/-- Settles O43. -/
theorem ownClaimRefusedWaitsHeld : Obligations.OwnClaimRefusedWaitsHeld := by
  intro head p s c f ev hinv hm ht hp hsrc hc hchan h1 h2 hg hd
  have core := ((queueInv_iff s).1 hinv).toQueueCore
  have hentry := core.claim_entry hc
  have hbudget := core.claim_budgeted hc
  obtain ⟨htable, hnone⟩ := evaluateClaim_refused hg hd
  obtain ⟨o, ho⟩ : ∃ o : OutstandingClaim, o = { c with inFlight := false } := ⟨_, rfl⟩
  have hoc : o.channel = c.channel := by rw [ho]
  have hu : (s.claimAccepted f).claims.outstanding = some o := by
    change s.claims.outstanding.map _ = _
    rw [hc, ho]
    rfl
  have hshed : (s.claimAccepted f).shed ev = s.claimAccepted f := by
    unfold State.shed
    rw [show ev.table = s.table from htable, show ev.victims = [] from hnone]
    rfl
  -- the station with the count of claims voided
  obtain ⟨x, hx⟩ : ∃ x, x = if ev.result = .duplicate then s.claimAccepted f else (s.claimAccepted f).countVoided := ⟨_, rfl⟩
  have hxs : x = { s.claimAccepted f with report := x.report } := by rw [hx]; split <;> rfl
  have hxo : x.claims.outstanding = some o := by rw [hxs]; exact hu
  have hexec : exec (.claimAccepted head p) s = .next (x.settleRefused o).dropIdleRenew.judge := by
    rw [exec_claimAccepted_own (by rw [hm]; rfl) ht hp, applyClaim_own (by exact hm) ((unitsInRange_iff _).2 ⟨h1, h2⟩)]
    refine congrArg (fun t : State => Host.Outcome.next t.dropIdleRenew.judge) ?_
    change ((s.claimAccepted f).shed ev).settleOwnClaim ev.result (channelLow p[0]) = _
    rw [hshed, hchan.trans hoc.symm, settleOwnClaim_refused hu hg hd, ← hx]
  have hxq : x.claims.queue = s.claims.queue := (congrArg (fun t : State => t.claims.queue) hxs).trans rfl
  have hxset : x.settings = s.settings := (congrArg State.settings hxs).trans (s.claimAccepted_keeps f).2.1
  have hxv : ∀ n, n ≠ c.channel → x.view n = s.view n := fun n hn => by
    rw [hxs]
    exact State.view_claimAccepted_ne hc f hn
  have hwork : ClaimWork x (x.settleRefused o).dropIdleRenew.judge :=
    ((settleRefused_work x o).trans (dropIdleRenew_work _)).trans (judge_work _)
  obtain ⟨k1, k2, k3⟩ := settleRefused_judge (s := x) (o := o) (by rw [hxq]; exact core.unit.channels)
    (by rw [hoc, State.entryOf_eq, hxq]; exact hentry) (by rw [hoc, State.exempt_of_settings hxset]; exact hbudget)
  rw [hoc] at k1 k3
  refine ⟨_, hexec, k1, ?_, fun n hn hoff => ?_, ?_, fun hs => ?_, fun hs => k3 (by rw [ho]; exact hs), ?_⟩
  · have hreach : ∃ claims line report, x = { s with claims := claims, line := line, report := report } := by
      rw [State.claimAccepted_eq] at hxs
      exact ⟨_, _, _, hxs⟩
    obtain ⟨claims, line, report, he⟩ := hreach
    rw [← hwork, he]
  · have hw : (x.settleRefused o).view n = s.view n :=
      (State.view_settleRefused_ne hxo (by rw [hoc]; exact hn)).trans (hxv n hn)
    exact State.channel_of_view
      ((State.view_dropIdleRenew_judge (by rwa [State.channelState_of_view hw])).trans hw)
  · rw [hwork.report, hx]
    split <;> rfl
  · have hterm : c.entry true = o.entry true := by rw [ho]; rfl
    rw [hterm]
    exact k2 (by rw [ho]; exact hs)
  · rw [judge_releases, dropIdleRenew_releases, settleRefused_releases, hxs]
    rfl

/-! ## Another station's RELEASE -/

namespace State

theorem view_givePromotion_ne {s : State} {promoted : Option Holding} {n : ChannelIx}
    (h : ∀ r, promoted = some r → r.holder = s.ownId → r.channel ≠ n) : (s.givePromotion promoted).view n = s.view n := by
  unfold givePromotion
  split
  · rename_i r
    split
    · rename_i ho
      exact view_ownPromoted_ne s (Ne.symm (h r rfl ho))
    · rfl
  · rfl

theorem ownPromoted_of_not_pending {s : State} {n : ChannelIx} (h : ∀ d, s.channelState n ≠ .pending d) :
    s.ownPromoted n = s := by
  unfold ownPromoted
  split
  · rfl
  · split
    · rename_i d hd
      exact absurd hd (h d)
    · rfl

theorem view_givePromotion_of_not_pending {s : State} {promoted : Option Holding} {n : ChannelIx}
    (h : ∀ d, s.channelState n ≠ .pending d) : (s.givePromotion promoted).view n = s.view n := by
  unfold givePromotion
  split
  · rename_i r
    split
    · by_cases hn : n = r.channel
      · rw [ownPromoted_of_not_pending (by rw [← hn]; exact h)]
      · exact view_ownPromoted_ne s hn
    · rfl
  · rfl

theorem view_givePromotion_self {s : State} {r : Holding} {d : Demand} (ho : r.holder = s.ownId)
    (hx : s.exempt r.channel = false) (h : s.channelState r.channel = .pending d) :
    (s.givePromotion (some r)).view r.channel = (s.view r.channel).become
      (.switchedOn { d with allowance := capped (s.channelSettings r.channel).maxRun d.allowance }) := by
  unfold givePromotion
  dsimp only
  rw [if_pos ho]
  exact view_ownPromoted_self hx h

theorem givePromotion_queue (s : State) (promoted : Option Holding) :
    (s.givePromotion promoted).claims = s.claims := by
  unfold givePromotion ownPromoted
  repeat' split
  all_goals rfl

theorem holdClear_holds {s : State} : ∀ e ∈ s.holdClear.claims.queue, e.hold = false := fun _ he => mem_clearHolds he

end State

theorem exec_releaseAccepted_hears {s : State} {head : FrameHead} {p : Vector Byte 1}
    (hh : s.hears (frameOf head kindRelease p.toList)) (hp : s.ofProfile (frameOf head kindRelease p.toList)) :
    exec (.releaseAccepted head p) s = .next (State.applyRelease head.source.toNat (channelLow p[0]) false
      (s.lineAccepted (frameOf head kindRelease p.toList))) := by
  change execReleaseAccepted head p s = _
  unfold execReleaseAccepted
  rw [acceptFrame_hears _ hh hp (show kindRelease.toNat < 9 by decide)]

/-- A RELEASE of another station that names a record, before the judgement (R11, R16, R24). -/
def State.heardRelease (s : State) (source : Nat) (c : ChannelIx) : State :=
  (s.setTable (s.releasedTable source c).1).holdClear.givePromotion (s.releasedTable source c).2

theorem applyRelease_foreign {s : State} {source : Nat} {c : ChannelIx} (hs : source ≠ s.ownId) :
    (findHolding source c s.table = none → State.applyRelease source c false s = s.judge) ∧
      (findHolding source c s.table ≠ none →
        State.applyRelease source c false s = (s.heardRelease source c).dropIdleRenew.judge) := by
  rcases applyRelease_cases source c false s with ⟨h, he⟩ | ⟨h, he⟩
  · exact ⟨fun _ => he, fun hn => absurd h hn⟩
  · refine ⟨fun hn => ?_, fun _ => ?_⟩
    · rw [hn] at h
      cases h
    · rw [he, if_neg hs]
      rfl

theorem heardRelease_work (s : State) (source : Nat) (c : ChannelIx) :
    ClaimWork (s.setTable (s.releasedTable source c).1) (s.heardRelease source c) :=
  (holdClear_work _).trans (givePromotion_work _ _)

/-- Settles O44. -/
theorem releaseRemovesTheRecord : Obligations.ReleaseRemovesTheRecord := by
  intro head p s f removed hh hp
  have hexec := exec_releaseAccepted_hears hh hp
  have hsrc : head.source.toNat ≠ (s.lineAccepted f).ownId := hh.2.2.2
  obtain ⟨hnone, hsome⟩ := applyRelease_foreign (c := channelLow p[0]) hsrc
  refine ⟨_, hexec, ?_⟩
  by_cases hr : findHolding head.source.toNat (channelLow p[0]) s.table = none
  · rw [hnone hr]
    have hw := judge_work (s.lineAccepted f)
    refine ⟨hw.reaches ⟨_, _, _, _, rfl⟩, fun n hn _ => ?_, fun _ => hw.table, fun h => absurd hr h⟩
    exact State.channel_of_view (s := s) (State.view_judge_of_ne_off (s := s.lineAccepted f) hn)
  · rw [hsome hr]
    have hwork : ClaimWork ((s.lineAccepted f).setTable ((s.lineAccepted f).releasedTable head.source.toNat
        (channelLow p[0])).1) ((s.lineAccepted f).heardRelease head.source.toNat (channelLow p[0])).dropIdleRenew.judge :=
      ((heardRelease_work _ _ _).trans (dropIdleRenew_work _)).trans (judge_work _)
    have hstate : ∀ n, (((s.lineAccepted f).setTable ((s.lineAccepted f).releasedTable head.source.toNat
        (channelLow p[0])).1).holdClear).channelState n = s.channelState n := fun n => rfl
    refine ⟨hwork.reaches ⟨_, _, _, _, rfl⟩, fun n hn hpend => ?_, fun h => absurd h hr, fun _ => ⟨fun e he => ?_,
      fun hm => ?_, fun hm => ⟨?_, fun r d hpr hown hx hd => ?_⟩⟩⟩
    · have hv := State.view_givePromotion_of_not_pending (promoted := ((s.lineAccepted f).releasedTable
        head.source.toNat (channelLow p[0])).2) (n := n) (by rw [hstate n]; exact hpend)
      have hc := State.channelState_of_view hv
      have ht := State.channel_of_view
        ((State.view_dropIdleRenew_judge (by rw [hc, hstate n]; exact hn)).trans hv)
      exact ht
    · have hq := (judge_queue_sublist _).subset he
      rw [dropIdleRenew_claims, State.heardRelease, State.givePromotion_queue] at hq
      exact State.holdClear_holds e hq
    · rw [hwork.table]
      change (State.releasedTable _ _ _).1 = removed
      unfold State.releasedTable
      rw [if_neg (by rw [show (s.lineAccepted f).member.state = _ from hm]; decide)]
      rfl
    · rw [hwork.table]
      change (State.releasedTable _ _ _).1 = _
      unfold State.releasedTable
      rw [if_pos (by exact hm)]
      rfl
    · have hrel : ((s.lineAccepted f).releasedTable head.source.toNat (channelLow p[0])).2 = some r := by
        unfold State.releasedTable
        rw [if_pos (by exact hm)]
        exact hpr
      have hv := State.view_givePromotion_self (s := ((s.lineAccepted f).setTable ((s.lineAccepted f).releasedTable
        head.source.toNat (channelLow p[0])).1).holdClear) (r := r) (d := d) hown hx hd
      rw [← hrel] at hv
      refine (congrArg (fun v => v.channel.state) ((State.view_dropIdleRenew_judge ?_).trans hv))
      exact fun h => nomatch ((congrArg (fun v => v.channel.state) hv).symm.trans h)

end Sys2Proof.Machine
end

section
/-! PROOFS. What a change of the inhibit masks does to each channel, and the INHIBIT (O50). -/

namespace Sys2Proof.Machine

/-! ## A change of the masks, before the judgement -/

/-- The turn of each channel that becomes inhibited (R97). -/
def State.masked (s : State) (m : InhibitMasks) : State :=
  allEight.foldl (fun t n => if (s.setMasks m).inhibited n && !s.inhibited n then t.becomeInhibited n else t)
    (s.setMasks m)

theorem changeMasks_eq (s : State) (m : InhibitMasks) : s.changeMasks m = (s.masked m).judge := rfl

theorem turn_work (b : ChannelIx → Bool) (t : State) (n : ChannelIx) :
    ClaimWork t (if b n then t.becomeInhibited n else t) := by
  split
  · exact becomeInhibited_work t n
  · exact .refl t

theorem masked_work (s : State) (m : InhibitMasks) : ClaimWork (s.setMasks m) (s.masked m) :=
  ClaimWork.foldl (turn_work _) allEight _

theorem allEight_nodup : allEight.Nodup := by decide

namespace State

/-- A channel that does not become inhibited stands. -/
theorem view_masked_stands {s : State} {m : InhibitMasks} {n : ChannelIx}
    (h : s.inhibited n = true ∨ (s.setMasks m).inhibited n = false) : (s.masked m).view n = s.view n := by
  have hturn : ∀ (t : State) (k : ChannelIx), n ≠ k →
      (if (s.setMasks m).inhibited k && !s.inhibited k then t.becomeInhibited k else t).view n = t.view n := by
    intro t k hk
    split
    · exact view_becomeInhibited_ne t hk
    · rfl
  obtain ⟨t, -, hv, he⟩ := view_foldl (turn_work _) hturn allEight_nodup (mem_allEight n) (s.setMasks m)
  refine he.trans ?_
  rw [if_neg]
  · exact hv
  · rw [Bool.and_eq_true, Bool.not_eq_true']
    rintro ⟨h1, h2⟩
    rcases h with h | h
    · rw [h2] at h; cases h
    · rw [h1] at h; cases h

/-- A channel that becomes inhibited has its turn, its part of the station as it stood. -/
theorem view_masked_turn {s : State} {m : InhibitMasks} {n : ChannelIx} (h1 : s.inhibited n = false)
    (h2 : (s.setMasks m).inhibited n = true) :
    ∃ t, ClaimWork (s.setMasks m) t ∧ t.view n = s.view n ∧ (s.masked m).view n = (t.becomeInhibited n).view n := by
  have hturn : ∀ (t : State) (k : ChannelIx), n ≠ k →
      (if (s.setMasks m).inhibited k && !s.inhibited k then t.becomeInhibited k else t).view n = t.view n := by
    intro t k hk
    split
    · exact view_becomeInhibited_ne t hk
    · rfl
  obtain ⟨t, hw, hv, he⟩ := view_foldl (turn_work _) hturn allEight_nodup (mem_allEight n) (s.setMasks m)
  refine ⟨t, hw, hv, he.trans ?_⟩
  rw [if_pos (by rw [h1, h2]; rfl)]

variable {s : State} {m : InhibitMasks} {n : ChannelIx}

theorem view_masked_on {d : Demand} (h1 : s.inhibited n = false) (h2 : (s.setMasks m).inhibited n = true)
    (h : s.channelState n = .switchedOn d) :
    (s.masked m).view n = ((s.view n).off (s.exempt n) (s.channelSettings n).rest).requeued d := by
  obtain ⟨t, hw, hv, he⟩ := view_masked_turn h1 h2
  rw [he, view_becomeInhibited_on (by rw [channelState_of_view hv]; exact h), hv, hw.exempt,
    show t.channelSettings n = s.channelSettings n by unfold channelSettings; rw [hw.settings]; rfl]
  rfl

theorem view_masked_pending {d : Demand} (h1 : s.inhibited n = false) (h2 : (s.setMasks m).inhibited n = true)
    (h : s.channelState n = .pending d) : (s.masked m).view n = ((s.view n).stop).requeued d := by
  obtain ⟨t, hw, hv, he⟩ := view_masked_turn h1 h2
  rw [he, view_becomeInhibited_pending (by rw [channelState_of_view hv]; exact h), hv]

theorem view_masked_rests (h : s.channelState n = .off ∨ s.channelState n = .stopping) :
    (s.masked m).view n = s.view n := by
  cases h1 : s.inhibited n with
  | true => exact view_masked_stands (.inl h1)
  | false =>
    cases h2 : (s.setMasks m).inhibited n with
    | false => exact view_masked_stands (.inr h2)
    | true =>
      obtain ⟨t, hw, hv, he⟩ := view_masked_turn h1 h2
      rw [he, becomeInhibited_of_rests (by rw [channelState_of_view hv]; exact h), hv]

theorem view_masked_claim {o : OutstandingClaim} (h1 : s.inhibited o.channel = false)
    (h2 : (s.setMasks m).inhibited o.channel = true) (h : s.channelState o.channel = .claiming)
    (ho : s.claims.outstanding = some o) (he : s.entryOf o.channel = none) :
    (o.inFlight = false → (s.masked m).view o.channel =
      { (s.view o.channel).become .off with claim := none, entry := some (o.cls, o.allowance, false) }) ∧
    (o.inFlight = true → (s.masked m).view o.channel = s.view o.channel) := by
  obtain ⟨t, hw, hv, hm⟩ := view_masked_turn h1 h2
  obtain ⟨k, hk⟩ := claim_of_view hv ho rfl
  have hc : t.channelState o.channel = .claiming := by rw [channelState_of_view hv]; exact h
  have hentry : entryIn o.channel t.claims.queue = none := (entry_of_view hv).2 he
  refine ⟨fun hf => ?_, fun hf => ?_⟩
  · have hb := view_becomeInhibited_claim (s := t) (o := { o with number := k }) hc hk hf hentry
    rw [hm]
    refine hb.trans ?_
    rw [hv]
  · have hb := becomeInhibited_inFlight (s := t) (o := { o with number := k }) hc hk hf
    rw [hm, show t.becomeInhibited o.channel = t from hb, hv]

end State

/-! ## The offers and the claim at a turn -/

/-- From s to t, of the offers only the RELEASE offers and the CLAIM offer may differ. -/
def OfferWork (s t : State) : Prop :=
  t.line.offers = { s.line.offers with releases := t.line.offers.releases, claim := t.line.offers.claim }

theorem OfferWork.refl (s : State) : OfferWork s s := rfl

theorem OfferWork.trans {s t u : State} (h : OfferWork s t) (k : OfferWork t u) : OfferWork s u := by
  unfold OfferWork at *
  rw [k, h]

theorem OfferWork.foldl {α : Type} {f : State → α → State} (hf : ∀ s a, OfferWork s (f s a)) (l : List α) (s : State) :
    OfferWork s (l.foldl f s) := by
  induction l generalizing s with
  | nil => exact .refl s
  | cons a l ih => exact (hf s a).trans (ih _)

theorem requeue_offers (s : State) (n : ChannelIx) (d : Demand) : (s.requeue n d).line = s.line := by
  unfold State.requeue
  split <;> rfl

theorem beginRest_offers (s : State) (n : ChannelIx) : (s.beginRest n).line = s.line := by
  unfold State.beginRest
  split <;> rfl

theorem switchOff_claimOffer (s : State) (n : ChannelIx) :
    OfferWork s (s.switchOff n) ∧ (s.switchOff n).line.offers.claim = s.line.offers.claim ∧
      (s.switchOff n).claims = s.claims := by
  have hc : ∀ t : State, (t.beginRest n).claims = t.claims := fun t => by
    unfold State.beginRest
    split <;> rfl
  unfold State.switchOff OfferWork
  rw [beginRest_offers, hc]
  split <;> exact ⟨rfl, rfl, rfl⟩

/-- What a channel's turn does to the claim unit and to the CLAIM offer (R97). -/
theorem becomeInhibited_cases (s : State) (n : ChannelIx) :
    ((s.becomeInhibited n).line.offers.claim = s.line.offers.claim ∧ OfferWork s (s.becomeInhibited n) ∧
        ((s.becomeInhibited n).claims = s.claims ∨ ∃ d, (s.becomeInhibited n).claims = s.claims.enqueue n d)) ∨
      ∃ o, s.claims.outstanding = some o ∧ o.channel = n ∧ o.inFlight = false ∧
        s.becomeInhibited n = s.returnClaim o false := by
  have requeued : ∀ (t : State) (d : Demand), t.claims = s.claims → OfferWork s t →
      t.line.offers.claim = s.line.offers.claim →
      (t.requeue n d).line.offers.claim = s.line.offers.claim ∧ OfferWork s (t.requeue n d) ∧
        ((t.requeue n d).claims = s.claims ∨ ∃ d', (t.requeue n d).claims = s.claims.enqueue n d') := by
    intro t d hc hw ho
    have hl := requeue_offers t n d
    refine ⟨by rw [hl, ho], ?_, ?_⟩
    · unfold OfferWork at *
      rw [hl]
      exact hw
    · unfold State.requeue
      split
      · exact .inl hc
      · exact .inr ⟨d, congrArg (fun u : ClaimUnit => u.enqueue n d) hc⟩
  unfold State.becomeInhibited
  split
  · exact .inl ⟨rfl, .refl s, .inl rfl⟩
  · exact .inl ⟨rfl, .refl s, .inl rfl⟩
  · exact .inl (requeued (s.enterStopping n) _ rfl rfl rfl)
  · obtain ⟨h1, h2, h3⟩ := switchOff_claimOffer s n
    exact .inl (requeued _ _ h3 h1 h2)
  · split
    · rename_i o ho
      split
      · rename_i hc
        exact .inr ⟨o, ho, hc.1, hc.2, rfl⟩
      · exact .inl ⟨rfl, .refl s, .inl rfl⟩
    · exact .inl ⟨rfl, .refl s, .inl rfl⟩

theorem becomeInhibited_offers (s : State) (n : ChannelIx) : OfferWork s (s.becomeInhibited n) := by
  rcases becomeInhibited_cases s n with ⟨-, h, -⟩ | ⟨o, -, -, -, he⟩
  · exact h
  · rw [he]
    exact rfl

theorem judge_offers (s : State) : OfferWork s s.judge := by
  unfold OfferWork
  rw [judge_line]
  split <;> rfl

theorem masked_offers (s : State) (m : InhibitMasks) : OfferWork s (s.masked m) :=
  OfferWork.foldl (s := s.setMasks m) (fun t n => by
    split
    · exact becomeInhibited_offers t n
    · exact .refl t) allEight

/-- A claim in flight stands through the turns, and its offer (R97). -/
theorem masked_inFlight {s : State} {o : OutstandingClaim} (m : InhibitMasks) (ho : s.claims.outstanding = some o)
    (hf : o.inFlight = true) :
    (∃ k, (s.masked m).claims.outstanding = some { o with number := k }) ∧
      (s.masked m).line.offers.claim = s.line.offers.claim := by
  have step : ∀ (t : State) (n : ChannelIx),
      ((∃ k, t.claims.outstanding = some { o with number := k }) ∧ t.line.offers.claim = s.line.offers.claim) →
      ((∃ k, (t.becomeInhibited n).claims.outstanding = some { o with number := k }) ∧
        (t.becomeInhibited n).line.offers.claim = s.line.offers.claim) := by
    rintro t n ⟨⟨k, hk⟩, hc⟩
    rcases becomeInhibited_cases t n with ⟨h1, -, h2⟩ | ⟨c, h1, -, h2, -⟩
    · refine ⟨?_, h1.trans hc⟩
      rcases h2 with h2 | ⟨d, h2⟩
      · exact ⟨k, by rw [h2, hk]⟩
      · rw [h2]
        have he := (ClaimUnit.enqueue_view t.claims n d o.channel).2
        rw [ClaimUnit.claimView_self (o := { o with number := k }) hk] at he
        obtain ⟨o', ho', -, hoo⟩ := ClaimUnit.claimView_eq_some he
        refine ⟨o'.number, ho'.trans (congrArg some ?_)⟩
        exact (congrArg (fun c : OutstandingClaim => { c with number := o'.number }) hoo).symm
    · rw [hk] at h1
      cases h1
      rw [show o.inFlight = false from h2] at hf
      cases hf
  unfold State.masked
  refine List.foldlRecOn allEight _ (motive := fun t : State =>
    (∃ k, t.claims.outstanding = some { o with number := k }) ∧ t.line.offers.claim = s.line.offers.claim)
    ⟨⟨o.number, ho⟩, rfl⟩ fun t ht n _ => ?_
  split
  · exact step t n ht
  · exact ht

/-! ## Enqueue numbers -/

/-- A demand that joins the queue below the renumbering leaves the other channels' entries as they are (R34, R36). -/
theorem enqueue_of_below {u : ClaimUnit} {n : ChannelIx} {d : Demand} (h : u.enqueueCount + 1 ≤ 65535) :
    (u.enqueue n d).outstanding = u.outstanding ∧ (u.enqueue n d).enqueueCount ≤ u.enqueueCount + 1 ∧
      ∀ x ∈ u.queue, x.channel ≠ n → x ∈ (u.enqueue n d).queue := by
  unfold ClaimUnit.enqueue
  split
  · rename_i e he
    have hn : e.channel = n := (mem_of_entryIn he).2
    refine ⟨rfl, by change u.enqueueCount ≤ _; omega, fun x hx hxn => ?_⟩
    exact (mem_insertEntry _ _ _).2 (.inr ((mem_removeEntry _ _ _).2 ⟨hx, by rw [hn]; exact hxn⟩))
  · unfold ClaimUnit.append
    dsimp only
    rw [if_neg (by exact Nat.not_lt.2 h)]
    exact ⟨rfl, Nat.le_refl _, fun x hx _ => (mem_insertEntry _ _ _).2 (.inr hx)⟩

/-- Before the turns of a list of channels, with room for their demands: the claim of one of them is outstanding, or it
has been returned with its number. -/
def ReturnsWith (o : OutstandingClaim) (l : List ChannelIx) (t : State) : Prop :=
  t.claims.enqueueCount + l.length ≤ 65535 ∧
    ((o.channel ∈ l ∧ t.claims.outstanding = some o ∧ t.channelState o.channel = .claiming) ∨
      (o.channel ∉ l ∧ o.entry false ∈ t.claims.queue))

theorem ReturnsWith.turn {o : OutstandingClaim} {n : ChannelIx} {l : List ChannelIx} {t : State} (hf : o.inFlight = false)
    (hl : (n :: l).Nodup) (h : ReturnsWith o (n :: l) t) : ReturnsWith o l (t.becomeInhibited n) := by
  obtain ⟨hcount, h⟩ := h
  rw [List.length_cons] at hcount
  have hnl := (List.nodup_cons.1 hl).1
  by_cases hn : n = o.channel
  · subst hn
    rcases h with ⟨-, ho, hs⟩ | ⟨hn, -⟩
    · have he : t.becomeInhibited o.channel = t.returnClaim o false := by
        unfold State.becomeInhibited
        rw [hs, ho]
        exact if_pos ⟨rfl, hf⟩
      rw [he]
      exact ⟨by change t.claims.enqueueCount + _ ≤ _; omega, .inr ⟨hnl, (mem_insertEntry _ _ _).2 (.inl rfl)⟩⟩
    · exact absurd List.mem_cons_self hn
  · have hstate : (t.becomeInhibited n).channelState o.channel = t.channelState o.channel :=
      State.channelState_of_view (State.view_becomeInhibited_ne t (Ne.symm hn))
    have hmem : o.channel ∈ n :: l ↔ o.channel ∈ l := by
      rw [List.mem_cons]
      exact or_iff_right (Ne.symm hn)
    rw [hmem] at h
    rcases becomeInhibited_cases t n with ⟨-, -, hc | ⟨d, hc⟩⟩ | ⟨c, h1, h2, -, he⟩
    · refine ⟨by rw [hc]; omega, ?_⟩
      rw [hc, hstate]
      exact h
    · obtain ⟨k1, k2, k3⟩ := enqueue_of_below (u := t.claims) (n := n) (d := d) (by omega)
      refine ⟨by rw [hc]; omega, ?_⟩
      rw [hc, hstate, k1]
      exact h.imp_right fun ⟨a, b⟩ => ⟨a, k3 _ b (Ne.symm hn)⟩
    · rw [he]
      refine ⟨by change t.claims.enqueueCount + _ ≤ _; omega, ?_⟩
      rcases h with ⟨-, ho, -⟩ | ⟨a, b⟩
      · rw [ho] at h1
        cases h1
        exact absurd h2.symm hn
      · exact .inr ⟨a, (mem_insertEntry _ _ _).2 (.inr b)⟩

/-- A claim that becomes inhibited and is not in flight keeps its enqueue number where no turn renumbers (R34, R51). -/
theorem masked_returns {s : State} {m : InhibitMasks} {o : OutstandingClaim} (hf : o.inFlight = false)
    (ho : s.claims.outstanding = some o) (hs : s.channelState o.channel = .claiming)
    (h1 : s.inhibited o.channel = false) (h2 : (s.setMasks m).inhibited o.channel = true)
    (hcount : s.claims.enqueueCount + 8 ≤ 65535) : o.entry false ∈ (s.masked m).claims.queue := by
  have pass : ∀ (l : List ChannelIx) (t : State), l.Nodup → ReturnsWith o l t →
      ReturnsWith o [] (l.foldl
        (fun t n => if (s.setMasks m).inhibited n && !s.inhibited n then t.becomeInhibited n else t) t) := by
    intro l
    induction l with
    | nil => exact fun t _ h => h
    | cons n l ih =>
      intro t hl h
      refine ih _ (List.nodup_cons.1 hl).2 ?_
      dsimp only
      split
      · exact h.turn hf hl
      · rename_i hn
        obtain ⟨hc, h⟩ := h
        rw [List.length_cons] at hc
        refine ⟨by omega, h.imp (fun ⟨a, b⟩ => ⟨(List.mem_cons.1 a).resolve_left ?_, b⟩)
          fun ⟨a, b⟩ => ⟨fun hm => a (List.mem_cons_of_mem n hm), b⟩⟩
        rintro rfl
        exact hn (by rw [h1, h2]; rfl)
  rcases (pass allEight (s.setMasks m) allEight_nodup
    ⟨hcount, .inl ⟨mem_allEight _, ho, hs⟩⟩).2 with ⟨hm, -⟩ | ⟨-, hm⟩
  · cases hm
  · exact hm

/-! ## The INHIBIT -/

theorem State.atAcceptance_eq (s : State) (f : Frame) :
    ∃ commands streak gap command, s.atAcceptance f =
      { s with
        commands := commands
        line := { s.line with
          activity := .counting, idleCount := 0, buffer := f.bits ++ [true], vetoStreak := 0, sendStreak := streak
          courtesyGap := gap, offers := { s.line.offers with command := command } } } := by
  unfold State.atAcceptance
  split
  · exact ⟨_, _, _, _, rfl⟩
  · exact ⟨_, _, _, _, rfl⟩

theorem exec_inhibitAccepted {s : State} {head : FrameHead} {p : Vector Byte 2} (hs : s.flightSound)
    (hh : s.takesPart (frameOf head kindInhibit p.toList)) (hp : s.ofProfile (frameOf head kindInhibit p.toList)) :
    exec (.inhibitAccepted head p) s =
      .next ((s.atAcceptance (frameOf head kindInhibit p.toList)).changeMasks
        { s.masks with line := (s.masks.line &&& ~~~p[1]) ||| p[0] }) := by
  obtain ⟨own, he⟩ := acceptFrame_command (State.applyInhibit p[0] p[1]) hs hh hp (.inl rfl)
  obtain ⟨c, k, g, b, hat⟩ := s.atAcceptance_eq (frameOf head kindInhibit p.toList)
  refine (congrArg Host.Outcome.next he).trans ?_
  unfold State.applyInhibit
  rw [hat]

/-- The inhibits a station's masks give, from two stations of one profile and masks. -/
theorem State.inhibited_congr {s t : State} (hm : t.masks = s.masks) (hc : t.settings = s.settings) (n : ChannelIx) :
    t.inhibited n = s.inhibited n := by
  unfold inhibited channelSettings
  rw [hm, hc]

theorem State.view_atAcceptance (s : State) (f : Frame) (n : ChannelIx) : (s.atAcceptance f).view n = s.view n := by
  obtain ⟨c, k, g, b, hat⟩ := s.atAcceptance_eq f
  rw [hat]
  rfl

/-- A channel that is inhibited after the masks' change is left by the judgement. -/
theorem State.view_changeMasks_of_inhibited {s : State} {m : InhibitMasks} {n : ChannelIx}
    (h : (s.setMasks m).inhibited n = true) : (s.changeMasks m).view n = (s.masked m).view n := by
  rw [changeMasks_eq]
  refine view_judge_of_not_ready ?_
  rw [Bool.eq_false_iff]
  intro hr
  have hi := ((ready_iff _ n).1 hr).2.1
  rw [(masked_work s m).inhibited, h] at hi
  cases hi

theorem State.view_changeMasks_stands {s : State} {m : InhibitMasks} {n : ChannelIx}
    (h : s.inhibited n = true ∨ (s.setMasks m).inhibited n = false) (hn : s.channelState n ≠ .off) :
    (s.changeMasks m).view n = s.view n := by
  have hv := view_masked_stands h
  rw [changeMasks_eq, view_judge_of_ne_off (by rwa [channelState_of_view hv]), hv]

/-- Settles O50. -/
theorem inhibitStopsItsGroups : Obligations.InhibitStopsItsGroups := by
  intro head p s f heard hs hh hp hinv
  obtain ⟨m, hm⟩ : ∃ m, m = { s.masks with line := (s.masks.line &&& ~~~p[1]) ||| p[0] } := ⟨_, rfl⟩
  have hexec : exec (.inhibitAccepted head p) s = .next (heard.changeMasks m) := by
    rw [hm]
    exact exec_inhibitAccepted hs hh hp
  -- the station at the acceptance is s in all that the masks' change looks at
  have hview : ∀ n, heard.view n = s.view n := s.view_atAcceptance f
  obtain ⟨hclaims, hinh, hexempt, hsettings, himage, hclaim, hmasks, hphase, hmember⟩ :
      heard.claims = s.claims ∧ (∀ n, heard.inhibited n = s.inhibited n) ∧ (∀ n, heard.exempt n = s.exempt n) ∧
        (∀ n, heard.channelSettings n = s.channelSettings n) ∧ heard.imageTaken = s.imageTaken ∧
        heard.line.offers.claim = s.line.offers.claim ∧ heard.masks = s.masks ∧ heard.phase = s.phase ∧
        heard.member = s.member := by
    obtain ⟨c, k, g, b, hat⟩ := s.atAcceptance_eq f
    rw [show heard = _ from hat]
    exact ⟨rfl, fun n => rfl, fun n => rfl, fun n => rfl, rfl, rfl, rfl, rfl, rfl⟩
  have hstate : ∀ n, heard.channelState n = s.channelState n := fun n => State.channelState_of_view (hview n)
  clear_value heard
  have htinh : ∀ n, (heard.changeMasks m).inhibited n = (heard.setMasks m).inhibited n := fun n =>
    ((masked_work heard m).trans (judge_work _)).inhibited n
  have hwork := changeMasks_work heard m
  have hoffers : OfferWork heard (heard.changeMasks m) := (masked_offers heard m).trans (judge_offers _)
  have hsound : heard.inhibitsSound := fun n hn => by
    rw [hstate]
    rw [hinh] at hn
    exact ((inhibitInv_iff s).1 hinv).quiet n hn
  refine ⟨_, hexec, (changeMasks_masks heard m).trans hm, ?_, hoffers, fun n hn hoff => ?_, hsound.changeMasks m,
    fun n d h1 h2 hx hd => ?_, fun hq n h1 h2 => ?_⟩
  · rw [← hwork]
  · rw [htinh, ← hinh] at hn
    rw [← hstate] at hoff
    exact State.channel_of_view ((State.view_changeMasks_stands hn hoff).trans (hview n))
  · rw [htinh] at h2
    rw [← hinh] at h1
    have hv := (State.view_changeMasks_of_inhibited h2).trans (State.view_masked_on h1 h2 (by rw [hstate]; exact hd))
    rw [hexempt, hx, hview] at hv
    obtain ⟨k1, k2, -, k4, -⟩ := State.off_requeued hv
    exact ⟨k1, k2, fun he hdemand => k4 (State.entryOf_eq_none_iff.1 he) hdemand⟩
  · have core := ((queueInv_iff s).1 hq).toQueueCore
    rw [htinh] at h2
    rw [← hinh] at h1
    have hleft := State.view_changeMasks_of_inhibited h2
    refine ⟨fun d hd => ?_, fun d hd => ?_, fun o ho hn => ?_, fun hn => ?_⟩
    · have he := State.entryOf_eq_none_iff.1 (core.entry_of_on hd)
      have hv := hleft.trans (State.view_masked_on h1 h2 (by rw [hstate]; exact hd))
      rw [hexempt, hview, hsettings] at hv
      obtain ⟨k1, k2, k3, k4, k5⟩ := State.off_requeued hv
      refine ⟨State.outputActive_of_not_on (by rw [k1]; split <;> rfl), k3, fun hx => ?_, fun hx => ?_, k4 he, k5 he⟩
      · rw [hx] at k1 k2
        exact ⟨k1, k2⟩
      · rw [hx] at k1 k2
        exact ⟨k1, k2⟩
    · have he := State.entryOf_eq_none_iff.1 (core.entry_of_pending hd)
      have hv := hleft.trans (State.view_masked_pending h1 h2 (by rw [hstate]; exact hd))
      rw [hview] at hv
      obtain ⟨k1, k2, k3⟩ := State.stop_requeued hv
      exact ⟨k1, k2, k3 he⟩
    · subst hn
      have hc := core.claim_channel ho
      have hentry := core.claim_entry ho
      have hho : heard.claims.outstanding = some o := by rw [hclaims]; exact ho
      have hhe : heard.entryOf o.channel = none := by rw [State.entryOf_eq, hclaims]; exact hentry
      obtain ⟨k1, k2⟩ := State.view_masked_claim h1 h2 (by rw [hstate]; exact hc) hho hhe
      refine ⟨fun hf => ?_, fun hf => ?_⟩
      · have hv := hleft.trans (k1 hf)
        rw [hview] at hv
        refine ⟨congrArg ChannelView.channel hv, State.entry_of_view_some (congrArg ChannelView.entry hv), fun hk => ?_,
          ClaimUnit.claimView_eq_none (congrArg ChannelView.claim hv)⟩
        have hmem := masked_returns hf hho (by rw [hstate]; exact hc) h1 h2 (by rw [hclaims]; exact hk)
        have hr : (heard.masked m).ready o.channel = false := by
          rw [Bool.eq_false_iff]
          intro hr
          have hi := ((State.ready_iff _ _).1 hr).2.1
          rw [(masked_work heard m).inhibited, h2] at hi
          cases hi
        exact mem_judge_queue hmem (servable_of_not_ready hr) (takes_ne_of_not_ready hr)
      · obtain ⟨⟨k, hk⟩, hoffer⟩ := masked_inFlight m hho hf
        have hnone : (heard.masked m).takes = none := by
          cases htakes : (heard.masked m).takes with
          | none => rfl
          | some e =>
            have := (takes_eq_some htakes).2.1
            rw [hk] at this
            cases this
        have hjl := judge_line (heard.masked m)
        rw [hnone] at hjl
        refine ⟨?_, ?_, ?_⟩
        · exact State.channel_of_view ((hleft.trans (k2 hf)).trans (hview _))
        · rw [changeMasks_eq, hjl]
          exact hoffer.trans hclaim
        · have hjo : (heard.masked m).judge.claims.outstanding = some { o with number := k } := by
            rw [judge_claims, hnone]
            exact hk
          rw [changeMasks_eq, hjo]
          rfl
    · have hv := (hleft.trans (State.view_masked_rests (by rw [hstate]; exact hn))).trans (hview n)
      exact ⟨State.channel_of_view hv, State.release_of_view hv, congrArg ChannelView.entry hv⟩

end Sys2Proof.Machine
end

section
/-! PROOFS. What the judgement can do to a budgeted channel, and MUTE entry channel by channel (O31). -/

namespace Sys2Proof.Machine

/-! ## The judgement of a budgeted channel -/

/-- The judgement leaves a budgeted channel, or takes its entry up as the outstanding claim (R45). -/
theorem judge_cases {s : State} {n : ChannelIx} (hq : (s.claims.queue.map Entry.channel).Nodup)
    (hx : s.exempt n = false) :
    s.judge.view n = s.view n ∨
      ∃ e, s.entryOf n = some e ∧ s.channelState n = .off ∧ e.hold = false ∧ s.claims.outstanding = none ∧
        s.member.state = .synced ∧ (s.channel n).rest = 0 ∧ s.inhibited n = false ∧
        s.judge.claims.outstanding = some e.claim ∧ s.judge.line.offers.claim = true ∧
        s.judge.view n = { (s.view n).become .claiming with
          entry := none, claim := some { e.claim with number := 0 } } := by
  have hserv : s.servable n = false := servable_of_budgeted hx
  by_cases ht : ∃ e, s.takes = some e ∧ e.channel = n
  · obtain ⟨e, he, rfl⟩ := ht
    obtain ⟨hsync, hnone, hcand, -⟩ := takes_eq_some he
    obtain ⟨hmem, -, hready, hhold⟩ := candidate_eq_some hcand
    obtain ⟨hoff, hinh, hrest⟩ := (State.ready_iff s _).1 hready
    have hclaims := judge_claims s
    rw [he] at hclaims
    have hline := judge_line s
    rw [he] at hline
    have hchannel : s.judge.channel e.channel = { s.channel e.channel with state := .claiming } := by
      rw [judge_channel_eq, if_pos ⟨e, he, rfl⟩]
    have hentry : s.judge.claims.entryView e.channel = none := by
      rw [hclaims]
      exact ClaimUnit.entryView_eq_none.2 (entryIn_removeEntry_self _ _)
    have hout : s.judge.claims.outstanding = some e.claim := by rw [hclaims]
    refine .inr ⟨e, entryIn_of_mem hq hmem rfl, hoff, hhold, hnone, hsync, hrest, hinh, hout, by rw [hline], ?_⟩
    unfold State.view
    rw [hchannel, hentry, show s.judge.claims.claimView e.channel = _ from ClaimUnit.claimView_self hout, judge_releases]
    rfl
  · have hne : ∀ e, s.takes = some e → e.channel ≠ n := fun e he hn => ht ⟨e, he, hn⟩
    exact .inl (State.view_judge_of (judge_channel_of_not hserv hne) (judge_entryOf_of_not hserv hne) hne)

/-- A channel's demand, in the queue or claimed. -/
def ChannelView.terms (v : ChannelView) : Option (Machine.Class × Option Nat) :=
  match v.claim with
  | some o => some (o.cls, o.allowance)
  | none => v.entry.map fun e => (e.1, e.2.1)

theorem ChannelView.terms_claim {v : ChannelView} {o : OutstandingClaim} (h : v.claim = some o) :
    v.terms = some (o.cls, o.allowance) := by
  unfold terms
  rw [h]

theorem ChannelView.terms_entry {v : ChannelView} (h : v.claim = none) :
    v.terms = v.entry.map fun e => (e.1, e.2.1) := by
  unfold terms
  rw [h]

theorem State.terms_claim {s : State} {o : OutstandingClaim} (h : s.claims.outstanding = some o) :
    (s.view o.channel).terms = some (o.cls, o.allowance) :=
  ChannelView.terms_claim (v := s.view o.channel) (o := { o with number := 0 }) (ClaimUnit.claimView_self h)

/-- An OFF or CLAIMING channel keeps its rest and its demand, in the queue or claimed. -/
structure ChannelView.Waits (v w : ChannelView) : Prop where
  before : v.channel.state = .off ∨ v.channel.state = .claiming
  after : w.channel.state = .off ∨ w.channel.state = .claiming
  rest : w.channel.rest = v.channel.rest
  terms : w.terms = v.terms

/-- A channel's part stands, or waits on. -/
def ChannelView.keeps (v w : ChannelView) : Prop := w = v ∨ v.Waits w

theorem ChannelView.keeps.trans {u v w : ChannelView} (h : u.keeps v) (k : v.keeps w) : u.keeps w := by
  rcases h with rfl | h
  · exact k
  · rcases k with rfl | k
    · exact .inr h
    · exact .inr ⟨h.before, k.after, k.rest.trans h.rest, k.terms.trans h.terms⟩

/-- The judgement keeps a budgeted channel's demand (R45). -/
theorem judge_keeps {s : State} {n : ChannelIx} (hq : (s.claims.queue.map Entry.channel).Nodup)
    (hx : s.exempt n = false) : (s.view n).keeps (s.judge.view n) := by
  rcases judge_cases hq hx with h | ⟨e, he, hoff, -, hnone, -, -, -, -, -, h⟩
  · exact .inl h
  · refine .inr ⟨.inl hoff, .inr (by rw [h]; rfl), by rw [h]; rfl, ?_⟩
    rw [h, ChannelView.terms_entry (v := s.view n) (ClaimUnit.claimView_of_none hnone n), ChannelView.terms_claim rfl]
    change _ = Option.map _ ((s.entryOf n).map Entry.terms)
    rw [he]
    rfl

/-! ## The source of a failed attempt, by channel -/

/-- The own attempt's failure drops a claim with a stop note, and else keeps every budgeted channel's demand (R47,
R52 (4), R184). -/
theorem sourceFailed_claim_keeps {s : State} (h : s.QueueCore) {n : ChannelIx} (hx : s.exempt n = false) :
    (∀ c, s.claims.outstanding = some c → c.channel = n → c.stopNote = true →
      (s.sourceFailed .claim).view n = { (s.view n).become .off with claim := none }) ∧
    ((∀ c, s.claims.outstanding = some c → c.channel = n → c.stopNote = false) →
      (s.view n).keeps ((s.sourceFailed .claim).view n)) := by
  cases hc : s.claims.outstanding with
  | none =>
    have he : s.sourceFailed .claim = s := by
      unfold State.sourceFailed
      dsimp only
      rw [hc]
    rw [he]
    exact ⟨nofun, fun _ => .inl rfl⟩
  | some c =>
    have hentry := h.claim_entry hc
    have hstate := h.claim_channel hc
    generalize hended : ({ c with attempts := c.attempts + 1, inFlight := false } : OutstandingClaim) = e
    have hec : e.channel = c.channel ∧ e.stopNote = c.stopNote ∧ e.cls = c.cls ∧ e.allowance = c.allowance := by
      rw [← hended]
      exact ⟨rfl, rfl, rfl, rfl⟩
    obtain ⟨e1, e2, e3, e4⟩ := hec
    rw [sourceFailed_claim hc, hended]
    generalize decide (Config.attemptLimit ≤ c.attempts + 1) = used
    have he : entryIn e.channel s.claims.queue = none := by rw [e1]; exact hentry
    have hterms : (s.view c.channel).terms = some (c.cls, c.allowance) := State.terms_claim hc
    -- a returned claim waits in the queue
    have returned (hold : Bool) : (s.view n).keeps ((s.returnClaim e hold).judge.view n) := by
      refine ChannelView.keeps.trans ?_ (judge_keeps (nodup_insertEntry (e := e.entry hold) h.unit.channels
        fun x hx' => entryIn_eq_none.1 he x hx') (by rw [(returnClaim_work s e hold).exempt]; exact hx))
      by_cases hn : n = c.channel
      · have hv := State.view_returnClaim_self (hold := hold) he
        rw [e1] at hv
        rw [hn]
        refine .inr ⟨.inr hstate, .inl (by rw [hv]; rfl), by rw [hv]; rfl, ?_⟩
        rw [hterms, hv, ← e3, ← e4]
        rfl
      · refine .inl ?_
        have hq : entryIn n (insertEntry (e.entry hold) s.claims.queue) = entryIn n s.claims.queue :=
          entryIn_insertEntry_ne (by exact fun hh => hn (hh.symm.trans e1)) _
        have hv := State.view_setChannelState_ne (s.setClaims { s.claims with outstanding := none }) (m := e.channel)
          .off (by rw [e1]; exact hn)
        unfold State.returnClaim
        dsimp only
        rw [State.view_setClaims]
        have hdv : (s.dropClaim e).view n = s.view n := by
          refine hv.trans ?_
          rw [State.view_setClaims]
          unfold State.view
          rw [ClaimUnit.claimView_ne hc hn]
          rfl
        rw [← hdv]
        unfold ClaimUnit.entryView
        dsimp only
        rw [show (s.dropClaim e).claims.queue = s.claims.queue from rfl, hq]
        rfl
    have dropped : (n = c.channel → (s.dropClaim e).judge.view n = { (s.view n).become .off with claim := none }) ∧
        (n ≠ c.channel → (s.view n).keeps ((s.dropClaim e).judge.view n)) := by
      have hone := State.view_dropClaim_self s e
      rw [e1] at hone
      refine ⟨?_, fun hn => ?_⟩
      · rintro rfl
        rw [State.view_judge_of_no_entry (s := s.dropClaim e) (by exact hentry), hone]
      · refine ChannelView.keeps.trans ?_ (judge_keeps (s := s.dropClaim e) h.unit.channels
          (by rw [(dropClaim_work s e).exempt]; exact hx))
        refine .inl ((State.view_setChannelState_ne (s.setClaims { s.claims with outstanding := none })
          (m := e.channel) .off (by rw [e1]; exact hn)).trans ?_)
        rw [State.view_setClaims]
        unfold State.view
        rw [ClaimUnit.claimView_ne hc hn]
        rfl
    have kept : (s.view n).keeps ((s.setClaims { s.claims with outstanding := some e }).view n) := by
      by_cases hn : n = c.channel
      · subst hn
        have hv : (s.setClaims { s.claims with outstanding := some e }).view c.channel =
            { s.view c.channel with claim := some { e with number := 0 } } := by
          rw [State.view_setClaims, ← e1, ClaimUnit.claimView_self (o := e) rfl]
          rfl
        refine .inr ⟨.inr hstate, .inr (by rw [hv]; exact hstate), by rw [hv], ?_⟩
        rw [hterms, hv, ← e3, ← e4]
        rfl
      · refine .inl ?_
        rw [State.view_setClaims, ClaimUnit.claimView_ne (o := e) rfl (by rw [e1]; exact hn)]
        unfold State.view
        rw [ClaimUnit.claimView_ne hc hn]
        rfl
    cases hs : c.stopNote with
    | true =>
      rw [settleEndedAttempt_stopped s used (e2.trans hs)]
      refine ⟨?_, fun hall => dropped.2 ?_⟩
      · rintro c' ⟨⟩ rfl -
        exact dropped.1 rfl
      · rintro rfl
        rw [hall c rfl rfl] at hs
        cases hs
    | false =>
      refine ⟨?_, fun _ => ?_⟩
      · rintro c' ⟨⟩ - hs'
        rw [hs] at hs'
        cases hs'
      · have hse := e2.trans hs
        cases used with
        | true =>
          rw [settleEndedAttempt_usedUp s hse]
          exact returned true
        | false =>
          cases hi : s.inhibited e.channel with
          | true =>
            rw [settleEndedAttempt_inhibited s hse hi]
            exact returned false
          | false =>
            rw [settleEndedAttempt_kept s hse hi]
            exact kept

/-! ## MUTE entry, by channel -/

/-- The offers emptied and the HOLD marks cleared (R74). -/
def ChannelView.cleared (v : ChannelView) : ChannelView :=
  { v with release := false, entry := v.entry.map fun e => (e.1, e.2.1, false) }

theorem ChannelView.cleared_some {v : ChannelView} {c : Machine.Class} {a : Option Nat}
    (h : v.entry = some (c, a, false)) : v.cleared.entry = some (c, a, false) := by
  unfold cleared
  dsimp only
  rw [h]
  rfl

theorem ChannelView.cleared_none {v : ChannelView} (h : v.entry = none) : v.cleared.entry = none := by
  unfold cleared
  dsimp only
  rw [h]
  rfl

theorem State.view_clearTable (s : State) (n : ChannelIx) : s.clearTable.view n =
    { s.view n with entry := (s.view n).entry.map fun e => (e.1, e.2.1, false) } := by
  unfold clearTable
  rw [view_holdClear, view_dropIdleRenew]
  rfl

theorem takes_of_not_synced {s : State} (h : s.member.state ≠ .synced) : s.takes = none := by
  unfold State.takes
  exact if_neg fun hs => h hs.1

/-- Out of SYNCED the judgement leaves every budgeted channel (R43). -/
theorem State.view_judge_of_not_synced {s : State} {n : ChannelIx} (h : s.member.state ≠ .synced)
    (hx : s.exempt n = false) : s.judge.view n = s.view n := by
  have hne : ∀ e, s.takes = some e → e.channel ≠ n := by
    rw [takes_of_not_synced h]
    exact nofun
  have hserv : s.servable n = false := servable_of_budgeted hx
  exact view_judge_of (judge_channel_of_not hserv hne) (judge_entryOf_of_not hserv hne) hne

theorem State.view_beginMute (s : State) (n : ChannelIx) : s.beginMute.view n = s.view n := rfl

theorem State.view_left (s : State) (n : ChannelIx) :
    (s.setLine { s.line.left with vetoStreak := 0, sendStreak := 0, courtesyGap := false }).view n =
      { s.view n with release := OfferSet.empty.releases[n] } := rfl

theorem view_muteEntered (s : State) (f : FaultSet) (n : ChannelIx) :
    (s.muteEntered f).view n = ((s.muteChannels f).view n).cleared := by
  have hr : OfferSet.empty.releases[n] = false := by
    revert n
    decide
  unfold State.muteEntered
  rw [State.view_beginMute, State.view_clearTable]
  unfold State.muteOff ChannelView.cleared
  rw [State.view_left, hr]

theorem muteEntered_member (s : State) (f : FaultSet) : (s.muteEntered f).member.state ≠ .synced := by
  rw [(muteEntered_work s f).member]
  exact nofun

/-- A budgeted channel at MUTE entry: its turn, and the clearing. -/
theorem view_enterMute {s : State} (f : FaultSet) {n : ChannelIx} (hx : s.exempt n = false) :
    ∃ t : State, t.view n = s.view n ∧ t.exempt n = false ∧ t.channelSettings n = s.channelSettings n ∧
      (s.enterMute f).view n = ((t.muteChannel n).view n).cleared := by
  obtain ⟨t, hw, hv, he⟩ := State.view_foldl (f := State.muteChannel) muteChannel_work
    (fun t m hn => State.view_muteChannel_ne t hn) allEight_nodup (mem_allEight n) (s.muteDropped f)
  have hset : t.settings = s.settings := hw.settings
  refine ⟨t, hv, by rw [State.exempt_of_settings hset]; exact hx, by unfold State.channelSettings; rw [hset], ?_⟩
  rw [enterMute_eq, State.view_judge_of_not_synced (muteEntered_member s f)
    (by rw [(muteEntered_work s f).exempt]; exact hx), view_muteEntered]
  exact congrArg ChannelView.cleared he

/-- An exempt channel that runs goes on in MUTE (R74, R88). -/
theorem view_enterMute_exempt {s : State} (f : FaultSet) {n : ChannelIx} (hx : s.exempt n = true)
    (hn : (s.channelState n).isOn = true) : (s.enterMute f).channel n = s.channel n := by
  obtain ⟨t, hw, hv, he⟩ := State.view_foldl (f := State.muteChannel) muteChannel_work
    (fun t m hn => State.view_muteChannel_ne t hn) allEight_nodup (mem_allEight n) (s.muteDropped f)
  have hset : t.settings = s.settings := hw.settings
  rw [State.muteChannel_exempt (by rw [State.exempt_of_settings hset]; exact hx)] at he
  have hc : (s.muteEntered f).channel n = s.channel n :=
    (congrArg ChannelView.channel (view_muteEntered s f n)).trans
      ((congrArg ChannelView.channel he).trans (congrArg ChannelView.channel hv))
  have hoff : (s.muteEntered f).channelState n ≠ .off := by
    unfold State.channelState
    rw [hc]
    intro h
    rw [show s.channelState n = .off from h] at hn
    cases hn
  rw [enterMute_eq, State.channel_of_view (State.view_judge_of_ne_off hoff), hc]

/-- An OFF, STOPPING or CLAIMING channel at MUTE entry is OFF with its demand in the queue (R74). -/
theorem enterMute_waiting {s : State} (h : s.QueueCore) (f : FaultSet) {n : ChannelIx} (hx : s.exempt n = false)
    (hs : s.channelState n = .off ∨ s.channelState n = .claiming ∨ s.channelState n = .stopping) :
    (s.enterMute f).channel n = { s.channel n with state := .off } ∧
      ((s.enterMute f).view n).entry = (s.view n).terms.map fun p => (p.1, p.2, false) := by
  obtain ⟨t, hv, hxt, -, he⟩ := view_enterMute f hx
  rw [show (s.enterMute f).channel n = ((s.enterMute f).view n).channel from rfl, he]
  have hst := State.channelState_of_view hv
  have rests (hs : s.channelState n = .stopping ∨ s.channelState n = .off) :
      (((t.muteChannel n).view n).cleared).channel = { s.channel n with state := .off } ∧
        (((t.muteChannel n).view n).cleared).entry = (s.view n).terms.map fun p => (p.1, p.2, false) := by
    rw [State.view_muteChannel_rests hxt (by rw [hst]; exact hs), hv]
    refine ⟨rfl, ?_⟩
    have hclaim : (s.view n).claim = none := by
      refine Option.eq_none_iff_forall_ne_some.2 fun c hc => ?_
      obtain ⟨o, ho, hn, -⟩ := ClaimUnit.claimView_eq_some hc
      subst hn
      rw [h.claim_channel ho] at hs
      simp at hs
    rw [ChannelView.terms_entry hclaim, Option.map_map]
    rfl
  rcases hs with hs | hs | hs
  · exact rests (.inr hs)
  · obtain ⟨o, ho, rfl⟩ := State.claimed_eq_some.1 ((h.claims n).1 hs)
    obtain ⟨k, hk⟩ := State.claim_of_view hv ho rfl
    have hm := State.view_muteChannel_claim (s := t) (o := { o with number := k }) hxt (by rw [← hs]; exact hst) hk
      ((State.entry_of_view hv).2 (h.claim_entry ho))
    rw [show (t.muteChannel o.channel).view o.channel = _ from hm, hv]
    refine ⟨rfl, ?_⟩
    rw [State.terms_claim ho]
    rfl
  · exact rests (.inl hs)

theorem State.beginMute_claims (s : State) : s.beginMute.claims = s.claims := rfl

theorem State.beginMute_offers (s : State) : s.beginMute.line.offers = s.line.offers := rfl

theorem State.left_claims (s : State) :
    (s.setLine { s.line.left with vetoStreak := 0, sendStreak := 0, courtesyGap := false }).claims = s.claims := rfl

theorem muteEntered_claims (s : State) (f : FaultSet) :
    (s.muteEntered f).claims.outstanding = (s.muteChannels f).claims.outstanding ∧
      (s.muteEntered f).claims.queue = clearHolds (s.muteChannels f).claims.queue := by
  unfold State.muteEntered State.muteOff
  generalize s.muteChannels f = t
  rw [State.beginMute_claims, clearTable_claims, State.left_claims]
  exact ⟨rfl, rfl⟩

theorem enterMute_outstanding {s : State} (h : s.QueueCore) (f : FaultSet) :
    (s.enterMute f).claims.outstanding = none := by
  have hm := (muteEntered_claims s f).1.trans (muteChannels_outstanding h f)
  have hno := takes_of_not_synced (muteEntered_member s f)
  rw [enterMute_eq]
  generalize s.muteEntered f = t at *
  rcases judge_outstanding_cases t with hj | ⟨e, he, -⟩
  · exact hj.trans hm
  · rw [hno] at he
    cases he

theorem enterMute_holds (s : State) (f : FaultSet) : ∀ e ∈ (s.enterMute f).claims.queue, e.hold = false := by
  intro e he
  have hm := (muteEntered_claims s f).2
  rw [enterMute_eq] at he
  generalize s.muteEntered f = t at *
  have hq := (judge_queue_sublist _).subset he
  rw [hm] at hq
  exact mem_clearHolds hq

theorem enterMute_offers (s : State) (f : FaultSet) : (s.enterMute f).line.offers = OfferSet.empty := by
  rw [enterMute_eq, judge_line_of_not_synced (muteEntered_member s f)]
  unfold State.muteEntered
  rw [State.beginMute_offers]
  refine clearTable_offers_empty ?_
  unfold State.muteOff
  rfl

/-! ## The station at which a streak's limit is reached -/

/-- The claim's own attempt failed while its stop note stood (R52 (4)). -/
def State.dropsClaim (s : State) (n : ChannelIx) : Prop :=
  (∃ c, s.claims.outstanding = some c ∧ c.channel = n ∧ c.stopNote = true) ∧
    ∃ f, s.line.activity = .transmitting .claim f

/-- The station that enters MUTE: the streak counted and the attempt's source told. -/
structure MuteSource (s y : State) : Prop where
  eq : y = { s with
    claims := y.claims, channels := y.channels, commands := y.commands, line := y.line, report := y.report }
  core : y.QueueCore
  counted : raised y.report.counters.commandsDropped y.commands.queue.length =
    raised s.report.counters.commandsDropped s.commands.queue.length
  drops : ∀ n, s.exempt n = false → s.dropsClaim n → y.view n = { (s.view n).become .off with claim := none }
  keeps : ∀ n, s.exempt n = false → ¬ s.dropsClaim n → (s.view n).keeps (y.view n)
  exempt : ∀ n, s.exempt n = true → (s.channelState n).isOn = true → y.channel n = s.channel n

/-- A receiver that casts its eighth veto. -/
theorem MuteSource.vetoCast {s : State} (h : s.QueueCore) (ha : s.line.activity = .receiving) (b : List Bool) :
    MuteSource s (s.vetoCast b) where
  eq := rfl
  core := { h with }
  counted := rfl
  drops := by
    rintro n - ⟨-, f, hf⟩
    rw [ha] at hf
    cases hf
  keeps n _ _ := .inl rfl
  exempt n _ _ := rfl

theorem sourceFailed_exempt {s : State} (h : s.QueueCore) (o : Offer) {n : ChannelIx} (hx : s.exempt n = true)
    (hn : (s.channelState n).isOn = true) : (s.sourceFailed o).channel n = s.channel n := by
  have hoff (v : State) (hv : v.channel n = s.channel n) : v.channelState n ≠ .off := by
    unfold State.channelState
    rw [hv]
    intro hs
    rw [show s.channelState n = .off from hs] at hn
    cases hn
  cases o with
  | claim =>
    cases hc : s.claims.outstanding with
    | none =>
      unfold State.sourceFailed
      dsimp only
      rw [hc]
    | some c =>
      have hne : c.channel ≠ n := by
        rintro rfl
        rw [h.claim_channel hc] at hn
        cases hn
      rw [sourceFailed_claim hc]
      generalize hended : ({ c with attempts := c.attempts + 1, inFlight := false } : OutstandingClaim) = e
      generalize decide (Config.attemptLimit ≤ c.attempts + 1) = used
      have he : e.channel ≠ n := by rw [← hended]; exact hne
      have dropped : (s.dropClaim e).channel n = s.channel n := by
        have hv := State.channel_of_view (State.view_setChannelState_ne
          (s.setClaims { s.claims with outstanding := none }) .off he.symm)
        exact hv
      have judged (v : State) (hv : v.channel n = s.channel n) : v.judge.channel n = s.channel n :=
        (State.channel_of_view (State.view_judge_of_ne_off (hoff v hv))).trans hv
      have returned (hold : Bool) : (s.returnClaim e hold).judge.channel n = s.channel n := judged _ dropped
      cases hs : e.stopNote with
      | true =>
        rw [settleEndedAttempt_stopped s used hs]
        exact judged _ dropped
      | false =>
        cases used with
        | true =>
          rw [settleEndedAttempt_usedUp s hs]
          exact returned true
        | false =>
          cases hi : s.inhibited e.channel with
          | true =>
            rw [settleEndedAttempt_inhibited s hs hi]
            exact returned false
          | false =>
            rw [settleEndedAttempt_kept s hs hi]
            rfl
  | command => unfold State.sourceFailed; dsimp only; split <;> rfl
  | report => unfold State.sourceFailed; dsimp only; split <;> rfl
  | beacon => rfl
  | release n => rfl
  | renew => rfl

/-- Of the sources only the claim's moves the claim unit. -/
theorem sourceFailed_view {s : State} {o : Offer} (h : o ≠ .claim) (n : ChannelIx) :
    (s.sourceFailed o).view n = s.view n := by
  cases o with
  | claim => exact absurd rfl h
  | command => unfold State.sourceFailed; dsimp only; split <;> rfl
  | report => unfold State.sourceFailed; dsimp only; split <;> rfl
  | beacon => rfl
  | release n => rfl
  | renew => rfl

theorem raised_raised (a b c : Nat) : raised (raised a b) c = raised a (b + c) := by
  unfold raised
  omega

/-- A command given up is counted with those that MUTE entry discards. -/
theorem sourceFailed_counted {s : State} {o : Offer} (h : o = .command → s.commands.queue ≠ []) :
    raised (s.sourceFailed o).report.counters.commandsDropped (s.sourceFailed o).commands.queue.length =
      raised s.report.counters.commandsDropped s.commands.queue.length := by
  cases o with
  | claim =>
    cases hc : s.claims.outstanding with
    | none =>
      unfold State.sourceFailed
      dsimp only
      rw [hc]
    | some c =>
      have hw := settleEndedAttempt_work s { c with attempts := c.attempts + 1, inFlight := false }
        (decide (Config.attemptLimit ≤ c.attempts + 1))
      rw [sourceFailed_claim hc, hw.commands, hw.report]
  | command =>
    unfold State.sourceFailed
    dsimp only
    split
    · have hlen : 1 + s.commands.queue.tail.length = s.commands.queue.length := by
        have := List.length_pos_iff.2 (h rfl)
        rw [List.length_tail]
        omega
      change raised (raised s.report.counters.commandsDropped 1) s.commands.queue.tail.length = _
      rw [raised_raised, hlen]
    · rfl
  | report => unfold State.sourceFailed; dsimp only; split <;> rfl
  | beacon => rfl
  | release n => rfl
  | renew => rfl

/-- The station whose attempt has failed, before its source is told. -/
def State.ended (s : State) (a : LineActivity) (b : List Bool) (suffered : Bool) : State :=
  { s with
    line := { s.line with
      activity := a, idleCount := 0, buffer := b, sendStreak := s.line.sendStreak + 1, courtesyGap := true }
    report := { s.report with counters := { s.report.counters with
      ownVetoed := if suffered then raised s.report.counters.ownVetoed 1 else s.report.counters.ownVetoed } } }

theorem State.ended_view (s : State) (a : LineActivity) (b : List Bool) (suffered : Bool) (n : ChannelIx) :
    (s.ended a b suffered).view n = s.view n := rfl

theorem State.ended_channel (s : State) (a : LineActivity) (b : List Bool) (suffered : Bool) (n : ChannelIx) :
    (s.ended a b suffered).channel n = s.channel n := rfl

theorem State.ended_counted (s : State) (a : LineActivity) (b : List Bool) (suffered : Bool) :
    raised (s.ended a b suffered).report.counters.commandsDropped (s.ended a b suffered).commands.queue.length =
      raised s.report.counters.commandsDropped s.commands.queue.length := rfl

theorem State.QueueSound.ended {s : State} (h : s.QueueSound) (a : LineActivity) (b : List Bool) (suffered : Bool) :
    (s.ended a b suffered).QueueSound := { h with }

theorem State.ended_reaches {s t : State} (a : LineActivity) (b : List Bool) (suffered : Bool)
    (h : t = { s.ended a b suffered with
      claims := t.claims, channels := t.channels, commands := t.commands, line := t.line, report := t.report }) :
    t = { s with
      claims := t.claims, channels := t.channels, commands := t.commands, line := t.line, report := t.report } := h

theorem sourceFailed_reaches (s : State) (o : Offer) :
    s.sourceFailed o =
      { s with
        claims := (s.sourceFailed o).claims, channels := (s.sourceFailed o).channels
        commands := (s.sourceFailed o).commands, line := (s.sourceFailed o).line
        report := (s.sourceFailed o).report } := by
  have h := sourceFailed_frame s o
  generalize s.sourceFailed o = t at *
  rw [h]

/-- An own attempt that is the sixteenth to fail. -/
theorem MuteSource.sourceFailed {s : State} {o : Offer} {f : Frame} (h : s.QueueSound)
    (ha : s.line.activity = .transmitting o f) (hq : o = .command → s.commands.queue ≠ []) (a : LineActivity)
    (b : List Bool) (suffered : Bool) : MuteSource s ((s.ended a b suffered).sourceFailed o) := by
  have hv := h.ended a b suffered
  have hview := s.ended_view a b suffered
  have hreach := s.ended_reaches (t := (s.ended a b suffered).sourceFailed o) a b suffered (sourceFailed_reaches _ o)
  have hcount := (sourceFailed_counted (s := s.ended a b suffered) hq).trans (s.ended_counted a b suffered)
  have hout : (s.ended a b suffered).claims.outstanding = s.claims.outstanding := rfl
  have hex : ∀ n, (s.ended a b suffered).exempt n = s.exempt n := fun n => rfl
  have hon : ∀ n, (s.ended a b suffered).channel n = s.channel n := fun n => rfl
  generalize s.ended a b suffered = v at *
  refine ⟨hreach, (hv.sourceFailed o).toQueueCore, hcount, fun n hx hd => ?_, fun n hx hd => ?_, fun n hx hn => ?_⟩
  · obtain ⟨⟨c, hc, hcn, hstop⟩, f', hf'⟩ := hd
    rw [ha] at hf'
    cases hf'
    rw [(sourceFailed_claim_keeps hv.toQueueCore ((hex n).trans hx)).1 c (hout.trans hc) hcn hstop, hview n]
  · by_cases ho : o = .claim
    · subst ho
      rw [← hview n]
      refine (sourceFailed_claim_keeps hv.toQueueCore ((hex n).trans hx)).2 fun c hc hcn => ?_
      cases hs : c.stopNote with
      | false => rfl
      | true => exact absurd ⟨⟨c, hout.symm.trans hc, hcn, hs⟩, f, ha⟩ hd
    · exact .inl ((sourceFailed_view ho n).trans (hview n))
  · rw [← hon n]
    exact sourceFailed_exempt hv.toQueueCore o ((hex n).trans hx) (by unfold State.channelState; rw [hon n]; exact hn)

/-- The frames at which a streak reaches its limit (R178, R180). -/
theorem exec_streakLimit {s : State} {c : Instr} {veto : Bool} (hq : s.QueueSound)
    (ho : s.member.state.online = true)
    (hc : (veto = true ∧ s.line.activity = .receiving ∧ s.line.vetoStreak = 7 ∧
        ∃ read, readsDefective read = true ∧ (c = .frameVetoed read ∨ c = .vetoedFrameAcceptedByLine read)) ∨
      (veto = false ∧ s.line.sendStreak = 15 ∧
        ∃ o f, s.line.activity = .transmitting o f ∧ (o = .command → s.commands.queue ≠ []) ∧
          ((∃ bit, f.abortsAt bit = true ∧ c = .attemptAborted bit) ∨ ∃ read, c = .frameVetoed read))) :
    ∃ y f, exec c s = .next (y.enterMute f) ∧ MuteSource s y ∧ (if veto then f.mutedVeto = true else f.mutedSend = true) := by
  rcases hc with ⟨rfl, ha, hstreak, read, hd, hc⟩ | ⟨rfl, hstreak, o, f, ha, hcmd, hc⟩
  · obtain ⟨slot, hslot⟩ : ∃ slot, (c = .frameVetoed read ∧ slot = false) ∨
        (c = .vetoedFrameAcceptedByLine read ∧ slot = true) := by
      rcases hc with h | h
      · exact ⟨false, .inl ⟨h, rfl⟩⟩
      · exact ⟨true, .inr ⟨h, rfl⟩⟩
    rw [exec_vetoed_defective ho ha hd hslot]
    rcases castVeto_cases s (read ++ [slot]) with ⟨h, -⟩ | ⟨-, h⟩
    · omega
    · exact ⟨_, _, congrArg _ h, .vetoCast hq.toQueueCore ha _, rfl⟩
  · have limit (t : State) (a : LineActivity) (b : List Bool) (ht : t.line.sendStreak = 15) : ∃ f,
        t.failAttempt o a b = ((t.attemptFailed a b).sourceFailed o).enterMute f ∧ f.mutedSend = true := by
      rcases failAttempt_cases t o a b with ⟨h, -⟩ | ⟨-, h⟩
      · omega
      · exact ⟨_, h, rfl⟩
    rcases hc with ⟨bit, hb, rfl⟩ | ⟨read, rfl⟩
    · obtain ⟨g, he, hg⟩ := limit s .receiving (f.readUpTo bit) hstreak
      exact ⟨_, g, (exec_attemptAborted ho ha hb).trans (congrArg _ he),
        MuteSource.sourceFailed hq ha hcmd .receiving (f.readUpTo bit) false, hg⟩
    · obtain ⟨g, he, hg⟩ := limit s.vetoSuffered .counting (f.bits ++ [false]) hstreak
      exact ⟨_, g, (exec_frameVetoed_own read ho ha).trans (congrArg _ he),
        MuteSource.sourceFailed hq ha hcmd .counting (f.bits ++ [false]) true, hg⟩

/-- A waiting channel is none that is ON, PENDING or STOPPING. -/
theorem ChannelView.keeps.eq_of {v w : ChannelView} (h : v.keeps w) (hoff : v.channel.state ≠ .off)
    (hclaim : v.channel.state ≠ .claiming) : w = v := by
  rcases h with h | h
  · exact h
  · rcases h.before with h | h
    · exact absurd h hoff
    · exact absurd h hclaim

section
variable {s y : State} {n : ChannelIx}

theorem MuteSource.settings (h : MuteSource s y) : y.settings = s.settings := by rw [h.eq]

theorem MuteSource.dropped (hq : s.QueueCore) (h : s.dropsClaim n) : s.channelState n = .claiming := by
  obtain ⟨⟨c, hc, rfl, -⟩, -⟩ := h
  exact hq.claim_channel hc

theorem MuteSource.stands (h : MuteSource s y) (hq : s.QueueCore) (hx : s.exempt n = false)
    (hoff : s.channelState n ≠ .off) (hclaim : s.channelState n ≠ .claiming) : y.view n = s.view n :=
  (h.keeps n hx fun hd => hclaim (MuteSource.dropped hq hd)).eq_of hoff hclaim

/-- An ON channel at MUTE entry (R74). -/
theorem MuteSource.on (h : MuteSource s y) (hq : s.QueueCore) (f : FaultSet) (hx : s.exempt n = false) {d : Demand}
    (hn : s.channelState n = .switchedOn d) :
    (y.enterMute f).view n =
      ((((s.view n).become .off).rested (s.channelSettings n).rest).requeued d).cleared := by
  have hv := h.stands hq hx (by rw [hn]; nofun) (by rw [hn]; nofun)
  obtain ⟨t, ht, hxt, hset, he⟩ := view_enterMute (s := y) f (n := n)
    (by rw [State.exempt_of_settings h.settings]; exact hx)
  have htv := ht.trans hv
  rw [he, State.view_muteChannel_on hxt ((State.channelState_of_view htv).trans hn), htv, hset]
  unfold State.channelSettings
  rw [h.settings]

/-- A PENDING channel at MUTE entry (R74). -/
theorem MuteSource.pending (h : MuteSource s y) (hq : s.QueueCore) (f : FaultSet) (hx : s.exempt n = false)
    {d : Demand} (hn : s.channelState n = .pending d) :
    (y.enterMute f).view n = (((s.view n).become .off).requeued d).cleared := by
  have hv := h.stands hq hx (by rw [hn]; nofun) (by rw [hn]; nofun)
  obtain ⟨t, ht, hxt, -, he⟩ := view_enterMute (s := y) f (n := n)
    (by rw [State.exempt_of_settings h.settings]; exact hx)
  have htv := ht.trans hv
  rw [he, State.view_muteChannel_pending hxt ((State.channelState_of_view htv).trans hn), htv]

/-- A channel whose demand waits or is claimed, at MUTE entry (R74). -/
theorem MuteSource.waits (h : MuteSource s y) (f : FaultSet) (hx : s.exempt n = false)
    (hn : s.channelState n = .off ∨ s.channelState n = .claiming ∨ s.channelState n = .stopping)
    (hd : ¬ s.dropsClaim n) :
    (y.enterMute f).channel n = { s.channel n with state := .off } ∧
      ((y.enterMute f).view n).entry = (s.view n).terms.map fun p => (p.1, p.2, false) := by
  have hk := h.keeps n hx hd
  have hxy : y.exempt n = false := by rw [State.exempt_of_settings h.settings]; exact hx
  have hst : (y.channel n).rest = (s.channel n).rest ∧ (y.view n).terms = (s.view n).terms ∧
      (y.channelState n = .off ∨ y.channelState n = .claiming ∨ y.channelState n = .stopping) := by
    rcases hk with hv | hw
    · rw [hv, State.channelState_of_view hv, State.channel_of_view hv]
      exact ⟨rfl, rfl, hn⟩
    · exact ⟨hw.rest, hw.terms, hw.after.imp_right .inl⟩
  obtain ⟨hrest, hterms, hstate⟩ := hst
  obtain ⟨hc, he⟩ := enterMute_waiting h.core f hxy hstate
  exact ⟨hc.trans (congrArg (Channel.mk .off) hrest), by rw [he, hterms]⟩

/-- A claim dropped by its stop note leaves no entry at MUTE entry (R52 (4)). -/
theorem MuteSource.drop (h : MuteSource s y) (hq : s.QueueCore) (f : FaultSet) (hx : s.exempt n = false)
    (hd : s.dropsClaim n) :
    (y.enterMute f).channel n = { s.channel n with state := .off } ∧ ((y.enterMute f).view n).entry = none := by
  have hv := h.drops n hx hd
  have hxy : y.exempt n = false := by rw [State.exempt_of_settings h.settings]; exact hx
  have hoff : (y.view n).channel.state = .off := by rw [hv]; rfl
  have hrest : (y.view n).channel.rest = (s.channel n).rest := by rw [hv]; rfl
  have hentry : (s.view n).entry = none := by
    obtain ⟨⟨c, ho, rfl, -⟩, -⟩ := hd
    have hin := hq.claim_entry ho
    exact ClaimUnit.entryView_eq_none.2 hin
  obtain ⟨hc, he⟩ := enterMute_waiting h.core f hxy (.inl hoff)
  have hterms : (y.view n).terms = none := by
    rw [hv, ChannelView.terms_entry rfl]
    change (s.view n).entry.map _ = none
    rw [hentry]
    rfl
  exact ⟨hc.trans (congrArg (Channel.mk .off) hrest), by rw [he, hterms]; rfl⟩

end

/-- Every budgeted channel is OFF in MUTE (R74). -/
theorem MuteSource.off {s y : State} (h : MuteSource s y) (f : FaultSet) {n : ChannelIx} (hx : s.exempt n = false) :
    (y.enterMute f).channelState n = .off := by
  have hxy : y.exempt n = false := by rw [State.exempt_of_settings h.settings]; exact hx
  have hoff : (y.muteChannels f).channelState n = .off := by
    rw [channelState_muteChannels h.core.claims f, if_pos hxy]
  have hm : (y.muteEntered f).channelState n = .off :=
    (congrArg (fun v => v.channel.state) (view_muteEntered y f n)).trans hoff
  rw [enterMute_eq, State.channelState_of_view (State.view_judge_of_not_synced (muteEntered_member y f)
    (by rw [(muteEntered_work y f).exempt]; exact hxy)), hm]

/-- What MUTE entry leaves of the whole state (R74). -/
theorem MuteSource.reaches {s y : State} (h : MuteSource s y) (f : FaultSet) :
    y.enterMute f = { s with
      table := (y.enterMute f).table, claims := (y.enterMute f).claims, member := (y.enterMute f).member
      channels := (y.enterMute f).channels, commands := (y.enterMute f).commands, line := (y.enterMute f).line
      report := (y.enterMute f).report } := by
  have hw := enterMute_work y f
  have he := h.eq
  generalize y.enterMute f = t at *
  rw [← hw, he]
  rfl

/-- An entry kept with its HOLD cleared has the class and the allowance it had. -/
theorem State.same_terms {s t : State} {n : ChannelIx}
    (h : (t.view n).entry = ((s.view n).entry.map fun e => (e.1, e.2.1)).map fun p => (p.1, p.2, false)) :
    ((t.entryOf n).map fun e => (e.cls, e.allowance)) = (s.entryOf n).map fun e => (e.cls, e.allowance) := by
  have he := congrArg (Option.map fun e : Machine.Class × Option Nat × Bool => (e.1, e.2.1)) h
  change Option.map _ ((t.entryOf n).map Entry.terms) =
    Option.map _ (Option.map _ (Option.map _ ((s.entryOf n).map Entry.terms))) at he
  simp only [Option.map_map] at he
  exact he

/-- Settles O31. -/
theorem streakLimitEntersMute : Obligations.StreakLimitEntersMute := by
  intro s c veto hinv ho hc
  have hq := ((queueInv_iff s).1 hinv).toQueueSound
  have core := hq.toQueueCore
  obtain ⟨y, f, hexec, hy, hf⟩ := exec_streakLimit hq ho hc
  have hw := enterMute_work y f
  have hmember : (y.enterMute f).member = (y.muted f).member := hw.member
  have hset := hy.settings
  have hepoch : y.member.epoch = s.member.epoch := by rw [hy.eq]
  have hreport : (y.enterMute f).report = (y.muted f).report := hw.report
  have hstate : (y.enterMute f).member.state = .mute := enterMute_member y f
  have hline : (y.enterMute f).line.activity = .apart ∧ (y.enterMute f).line.vetoStreak = 0 ∧
      (y.enterMute f).line.sendStreak = 0 ∧ (y.enterMute f).line.courtesyGap = false := by
    rw [← hw]
    exact ⟨rfl, rfl, rfl, rfl⟩
  obtain ⟨hact, hveto, hsend, hgap⟩ := hline
  refine ⟨_, hexec, hstate, by rw [hmember]; rfl, by rw [hmember]; rfl, ?_, by rw [hmember]; exact hepoch, ?_, hw.table,
    enterMute_offers y f, hact, hveto, hsend, hgap, by rw [hw.commands]; rfl, ?_, enterMute_holds y f,
    enterMute_outstanding hy.core f, fun n hx => ⟨?_, fun d hn => ?_, fun d hn => ?_, fun o hout hon => ?_, fun hn => ?_⟩,
    fun n hx hn => ?_, ?_, hy.reaches f⟩
  · rw [hmember]
    change y.settings.mutePeriod = _
    rw [hset]
    rfl
  · rw [hreport]
    exact hf
  · rw [hreport]
    exact hy.counted
  · exact hy.off f hx
  · have hv := hy.on core f hx hn
    have hnone : (s.view n).entry = none := ClaimUnit.entryView_eq_none.2 (core.entry_of_on hn)
    refine ⟨?_, fun hd => ?_, fun hd => ?_⟩
    · change ((y.enterMute f).view n).channel.rest = _
      rw [hv]
      exact (congrArg Channel.rest (ChannelView.channel_requeued _ d)).trans (ChannelView.rest_rested _ _)
    · refine State.entry_of_view_some ?_
      rw [hv]
      exact ChannelView.cleared_some (ChannelView.entry_requeued ((ChannelView.entry_rested _ _).trans hnone) hd)
    · refine State.entryOf_eq_none_iff.2 ?_
      rw [hv]
      exact ChannelView.cleared_none
        ((ChannelView.entry_requeued_empty hd).trans ((ChannelView.entry_rested _ _).trans hnone))
  · have hv := hy.pending core f hx hn
    have hnone : (s.view n).entry = none := ClaimUnit.entryView_eq_none.2 (core.entry_of_pending hn)
    refine ⟨?_, fun hd => ?_⟩
    · change ((y.enterMute f).view n).channel = _
      rw [hv]
      exact ChannelView.channel_requeued _ d
    · refine State.entry_of_view_some ?_
      rw [hv]
      exact ChannelView.cleared_some (ChannelView.entry_requeued (v := (s.view n).become .off) hnone hd)
  · subst hon
    have hclaiming := core.claim_channel hout
    by_cases hd : s.dropsClaim o.channel
    · obtain ⟨hch, hen⟩ := hy.drop core f hx hd
      obtain ⟨⟨c, hcl, -, hstop⟩, g, hg⟩ := hd
      rw [hout] at hcl
      cases hcl
      refine ⟨hch, fun _ _ => State.entryOf_eq_none_iff.2 hen, fun h => ?_⟩
      rcases h with h | h
      · rw [hstop] at h
        cases h
      · exact absurd hg (h g)
    · obtain ⟨hch, hen⟩ := hy.waits f hx (.inr (.inl hclaiming)) hd
      rw [State.terms_claim hout] at hen
      exact ⟨hch, fun hs hg => absurd ⟨⟨o, hout, rfl, hs⟩, hg⟩ hd, fun _ => State.entry_of_view_some hen⟩
  · have hnc : s.channelState n ≠ .claiming := by rcases hn with hn | hn <;> rw [hn] <;> nofun
    have hnd : ¬ s.dropsClaim n := fun hd => hnc (MuteSource.dropped core hd)
    obtain ⟨hch, hen⟩ := hy.waits f hx (hn.elim (fun h => .inr (.inr h)) .inl) hnd
    have hclaim : (s.view n).claim = none := by
      refine Option.eq_none_iff_forall_ne_some.2 fun c hcl => ?_
      obtain ⟨o, hout, rfl, -⟩ := ClaimUnit.claimView_eq_some hcl
      exact hnc (core.claim_channel hout)
    rw [ChannelView.terms_entry hclaim] at hen
    refine ⟨hch, ?_⟩
    exact State.same_terms hen
  · have hch := hy.exempt n hx hn
    have hon : (y.channelState n).isOn = true := (congrArg (fun c => c.state.isOn) hch).trans hn
    have hxy : y.exempt n = true := (State.exempt_of_settings hset n).trans hx
    exact (view_enterMute_exempt f hxy hon).trans hch
  · unfold State.statusAsserted
    rw [hstate]
    by_cases hp : (y.enterMute f).phase = .running
    · rw [if_pos hp, decide_eq_true hp]
    · rw [if_neg hp, decide_eq_false hp]

end Sys2Proof.Machine
end

section
/-! PROOFS. START, STOP and TOGGLE at the claim unit, and how a DEMAND reaches them (O52). -/

namespace Sys2Proof.Machine

/-! ## Joining the queue (R34, R36) -/

namespace ClaimUnit

theorem enqueue_of_none {u : ClaimUnit} {n : ChannelIx} (h : entryIn n u.queue = none) (d : Demand) :
    u.enqueue n d = u.append n d := by
  unfold enqueue
  rw [show (u.queue.find? fun e => e.channel == n) = none from h]

theorem enqueue_of_some {u : ClaimUnit} {n : ChannelIx} {e : Entry} (h : entryIn n u.queue = some e) (d : Demand) :
    u.enqueue n d = u.mergeInto e d := by
  unfold enqueue
  rw [show (u.queue.find? fun e => e.channel == n) = some e from h]

/-- The entry a demand is appended as. -/
def appended (u : ClaimUnit) (n : ChannelIx) (d : Demand) : Entry :=
  { channel := n, cls := d.cls, allowance := d.allowance, hold := false, number := u.enqueueCount }

theorem append_below {u : ClaimUnit} (h : u.enqueueCount < 65535) (n : ChannelIx) (d : Demand) :
    u.append n d =
      { u with queue := insertEntry (u.appended n d) u.queue, enqueueCount := u.enqueueCount + 1 } := by
  unfold append
  exact if_neg (Nat.not_lt.2 h)

/-- A number below every number in use but one keeps its rank without that one. -/
theorem rankOf_cons_of_le {l : List Nat} {k m : Nat} (h : k ≤ m) : rankOf (m :: l) k = rankOf l k := by
  unfold rankOf
  rw [List.filter_cons_of_neg (by simpa using h)]

theorem rankOf_of_lt {l : List Nat} {k : Nat} (h : ∀ x ∈ l, x < k) : rankOf l k = l.length := by
  unfold rankOf
  rw [List.filter_eq_self.2 fun x hx => decide_eq_true (h x hx)]

theorem rankOf_perm {l m : List Nat} (h : l.Perm m) (k : Nat) : rankOf l k = rankOf m k := (h.filter _).length_eq

/-- The append that takes the count past 65,535 renumbers all in the order of their old numbers (R34). -/
theorem append_full {u : ClaimUnit} (hs : u.Sound) (h : u.enqueueCount = 65535) (n : ChannelIx) (d : Demand) :
    ∃ q, q.Perm ({ u.appended n d with number := u.numbers.length } ::
        u.queue.map fun e => { e with number := rankOf u.numbers e.number }) ∧
      u.append n d =
        { queue := q
          outstanding := u.outstanding.map fun (o : OutstandingClaim) => { o with number := rankOf u.numbers o.number }
          enqueueCount := u.numbers.length + 1 } := by
  generalize hu : ({ u with
    queue := insertEntry (u.appended n d) u.queue, enqueueCount := u.enqueueCount + 1 } : ClaimUnit) = v
  have happ : u.append n d = v.renumbered := by
    rw [← hu]
    unfold append
    exact if_pos (by change 65535 < u.enqueueCount + 1; omega)
  have hv : v.queue = insertEntry (u.appended n d) u.queue ∧ v.outstanding = u.outstanding := by
    rw [← hu]
    exact ⟨rfl, rfl⟩
  obtain ⟨hq, ho⟩ := hv
  have hperm : v.numbers.Perm (u.enqueueCount :: u.numbers) := by
    rw [← hu]
    exact ClaimUnit.perm_numbers_insertEntry u.queue u.outstanding (u.enqueueCount + 1) (u.appended n d)
  have old (k : Nat) (hk : k ∈ u.numbers) : rankOf v.numbers k = rankOf u.numbers k := by
    rw [rankOf_perm hperm, rankOf_cons_of_le (Nat.le_of_lt (hs.below k hk))]
  have new : rankOf v.numbers u.enqueueCount = u.numbers.length := by
    rw [rankOf_perm hperm, rankOf_cons_of_le (Nat.le_refl _), rankOf_of_lt hs.below]
  refine ⟨v.renumbered.queue, ?_, ?_⟩
  · have hp : v.renumbered.queue.Perm
        ((u.appended n d :: u.queue).map fun e => { e with number := rankOf v.numbers e.number }) := by
      change (v.queue.map _).Perm _
      rw [hq]
      exact (insertEntry_perm _ _).map _
    refine hp.trans (.of_eq ?_)
    rw [List.map_cons]
    refine congrArg₂ List.cons (congrArg (fun k => { u.appended n d with number := k }) new)
      (List.map_congr_left fun e he => ?_)
    rw [old _ (ClaimUnit.mem_numbers.2 (.inl ⟨e, he, rfl⟩))]
  · rw [happ]
    unfold renumbered
    congr 1
    · rw [ho]
      refine Option.map_congr fun o hout => ?_
      rw [old _ (ClaimUnit.mem_numbers.2 (.inr ⟨o, hout, rfl⟩))]
    · exact hperm.length_eq

namespace Sound

variable {u : ClaimUnit} {n : ChannelIx}

/-- A demand without an entry to merge into is appended (R34, R36). -/
theorem enqueue_below (hs : u.Sound) (h : entryIn n u.queue = none) (hc : u.enqueueCount < 65535) (d : Demand) :
    ∃ q : List Entry, q.Perm (u.appended n d :: u.queue) ∧ q.Pairwise (fun a b => a.before b = true) ∧
      u.enqueue n d = { u with queue := q, enqueueCount := u.enqueueCount + 1 } := by
  have ho := (hs.enqueue n d).ordered
  rw [enqueue_of_none h, append_below hc] at ho
  refine ⟨_, insertEntry_perm _ _, ho, ?_⟩
  rw [enqueue_of_none h, append_below hc]

/-- The append that takes the enqueue count past 65,535 (R34). -/
theorem enqueue_full (hs : u.Sound) (h : entryIn n u.queue = none) (hc : u.enqueueCount = 65535) (d : Demand) :
    ∃ q : List Entry, q.Perm ({ u.appended n d with number := u.numbers.length } ::
        u.queue.map fun e => { e with number := u.numbers.countP fun x => decide (x < e.number) }) ∧
      q.Pairwise (fun a b => a.before b = true) ∧
      u.enqueue n d =
        { queue := q
          outstanding := u.outstanding.map fun (o : OutstandingClaim) =>
            { o with number := u.numbers.countP fun x => decide (x < o.number) }
          enqueueCount := u.numbers.length + 1 } := by
  have hrank : rankOf u.numbers = fun k => u.numbers.countP fun x => decide (x < k) :=
    funext fun k => List.countP_eq_length_filter.symm
  obtain ⟨q, hp, he⟩ := append_full hs hc n d
  have ho := (hs.enqueue n d).ordered
  rw [enqueue_of_none h] at *
  rw [hrank] at hp he
  rw [he] at ho
  exact ⟨q, hp, ho, he⟩

/-- A demand merges into its channel's entry (R36). -/
theorem enqueue_merged (hs : u.Sound) {e : Entry} (h : entryIn n u.queue = some e) (d : Demand) :
    ∃ q : List Entry, q.Perm ({ e with cls := e.cls.higher d.cls, allowance := longer e.allowance d.allowance } ::
        u.queue.filter fun e => e.channel ≠ n) ∧
      q.Pairwise (fun a b => a.before b = true) ∧ u.enqueue n d = { u with queue := q } := by
  have ho := (hs.enqueue n d).ordered
  have he : u.enqueue n d = u.mergeInto e d := enqueue_of_some h d
  have hq : removeEntry e.channel u.queue = u.queue.filter fun e => e.channel ≠ n := by
    unfold removeEntry
    rw [(mem_of_entryIn h).2]
    refine List.filter_congr fun x _ => ?_
    by_cases hx : x.channel = n <;> simp [hx]
  rw [he] at ho
  refine ⟨_, ?_, ho, he⟩
  rw [← hq]
  exact insertEntry_perm _ _

end Sound

end ClaimUnit

/-! ## How a DEMAND reaches a channel (R143, R146) -/

theorem exec_demandAccepted {s : State} {head : FrameHead} {p : Vector Byte 5} (hs : s.flightSound)
    (hh : s.takesPart (frameOf head kindDemand p.toList)) (hp : s.ofProfile (frameOf head kindDemand p.toList)) :
    ∃ own, exec (.demandAccepted head p) s =
      .next (State.applyDemand (Machine.Class.ofBits head.cls) p[0] p[1] p[2] (word16 p[3] p[4]).toNat own
        (s.atAcceptance (frameOf head kindDemand p.toList))) := by
  obtain ⟨own, he⟩ := acceptFrame_command (State.applyDemand (Machine.Class.ofBits head.cls) p[0] p[1] p[2]
    (word16 p[3] p[4]).toNat) hs hh hp (.inr rfl)
  exact ⟨own, congrArg Host.Outcome.next he⟩

theorem placeOf?_eq_some {b : Byte} {n : Fin 8} : placeOf? b = some n ↔ b.toNat = n.val := by
  unfold placeOf?
  constructor
  · intro h
    split at h
    · cases h
      rfl
    · cases h
  · intro h
    rw [dif_pos (by rw [h]; exact n.isLt)]
    exact congrArg some (Fin.ext h)

theorem placeOf?_eq_none {b : Byte} (h : 7 < b.toNat) : placeOf? b = none := dif_neg (by omega)

theorem DemandAction.ofByte?_code (a : DemandAction) : DemandAction.ofByte? a.code = some a := by
  cases a <;> rfl

theorem DemandAction.ofByte?_eq_none {b : Byte} (h : b.toNat = 0 ∨ 3 < b.toNat) : DemandAction.ofByte? b = none := by
  have ne (k : Byte) (hk : 1 ≤ k.toNat ∧ k.toNat ≤ 3) : b ≠ k := by
    rintro rfl
    omega
  unfold DemandAction.ofByte?
  rw [if_neg (ne 1 (by decide)), if_neg (ne 2 (by decide)), if_neg (ne 3 (by decide))]

section
variable {cls : Machine.Class} {target place action : Byte} {duration : Nat} {own : Bool} {s : State}

/-- Out of range, or for another station, a DEMAND has no effect (R146). -/
theorem applyDemand_none (h : target ≠ 63 ∧ target.toNat ≠ s.ownId ∨ action.toNat = 0 ∨ 3 < action.toNat ∨ 7 < place.toNat) :
    State.applyDemand cls target place action duration own s = s := by
  unfold State.applyDemand
  rcases h with ⟨h63, hown⟩ | h | h | h
  · split
    · exact (if_neg h63).trans (if_neg hown)
    · rfl
  · rw [DemandAction.ofByte?_eq_none (.inl h)]
  · rw [DemandAction.ofByte?_eq_none (.inr h)]
  · rw [placeOf?_eq_none h]
    cases DemandAction.ofByte? action <;> rfl

theorem applyDemand_own {a : DemandAction} {n : ChannelIx} (h63 : target ≠ 63) (hown : target.toNat = s.ownId)
    (hn : place.toNat = n.val) (ha : action = a.code) :
    State.applyDemand cls target place action duration own s = s.act a n cls duration := by
  unfold State.applyDemand
  rw [ha, DemandAction.ofByte?_code, placeOf?_eq_some.2 hn]
  exact (if_neg h63).trans (if_pos hown)

theorem applyDemand_group {a : DemandAction} {n : ChannelIx} (h63 : target = 63) (hn : place.toNat = n.val)
    (ha : action = a.code) :
    State.applyDemand cls target place action duration own s = s.actOnGroup a n cls duration := by
  unfold State.applyDemand
  rw [ha, DemandAction.ofByte?_code, placeOf?_eq_some.2 hn]
  exact if_pos h63

end

/-- A group's channels are those the settings give, whatever the earlier ones did. -/
theorem actOnGroup_eq {s : State} (c : Settings) (hc : s.settings = c) (a : DemandAction) (g : GroupIx)
    (cls : Machine.Class) (duration : Nat) :
    s.actOnGroup a g cls duration =
      allEight.foldl (fun t m => if (c.channels[m]).group = some g then t.act a m cls duration else t) s := by
  unfold State.actOnGroup
  generalize allEight = l
  induction l generalizing s with
  | nil => rfl
  | cons m l ih =>
    rw [List.foldl_cons, List.foldl_cons]
    have hm : (s.channelSettings m).group = (c.channels[m]).group := by rw [← hc]; rfl
    rw [hm]
    split
    · exact ih ((act_work s a m cls duration).settings.trans hc)
    · exact ih hc

/-! ## START (R32, R36, R37) -/

section
variable {s : State} {n : ChannelIx} {cls : Machine.Class} {duration : Nat}

theorem act_start_waits (h : s.channelState n = .off ∨ s.channelState n = .stopping) :
    s.act .start n cls duration =
      (s.setClaims (s.claims.enqueue n
        { cls := Machine.Class.lowered (s.channelSettings n).ceiling cls, allowance := allowanceOf duration })).judge := by
  unfold State.act State.start
  rcases h with h | h <;> rw [h]

theorem act_start_claim {o : OutstandingClaim} (h : s.channelState n = .claiming) (ho : s.claims.outstanding = some o)
    (hn : o.channel = n) :
    s.act .start n cls duration =
      s.setClaims { s.claims with
        outstanding := some
          { o with
            cls := o.cls.higher (Machine.Class.lowered (s.channelSettings n).ceiling cls)
            allowance := capped (s.channelSettings n).maxRun (longer o.allowance (allowanceOf duration))
            stopNote := false } } := by
  unfold State.act State.start
  rw [h, ho]
  exact if_pos hn

theorem act_start_pending {d : Demand} (h : s.channelState n = .pending d) :
    s.act .start n cls duration =
      { s with
        channels := s.channels.set n
          { s.channel n with state := .pending { d with
            allowance := capped (s.channelSettings n).maxRun (longer d.allowance (allowanceOf duration)) } } } := by
  unfold State.act State.start
  rw [h]
  rfl

theorem act_start_on {d : Demand} (h : s.channelState n = .switchedOn d) :
    s.act .start n cls duration =
      { s with
        channels := s.channels.set n
          { s.channel n with state := .switchedOn { d with
            allowance := capped (s.channelSettings n).maxRun (longer d.allowance (allowanceOf duration)) } } } := by
  unfold State.act State.start
  rw [h]
  rfl

end

/-! ## STOP (R38) -/

/-- The station without a channel's entry. -/
def State.unqueued (s : State) (n : ChannelIx) : State :=
  s.setClaims { s.claims with queue := removeEntry n s.claims.queue }

theorem act_stop_eq (s : State) (n : ChannelIx) (cls : Machine.Class) (duration : Nat) :
    s.act .stop n cls duration = ((s.unqueued n).stopChannel n).judge := rfl

theorem State.view_unqueued_self (s : State) (n : ChannelIx) :
    (s.unqueued n).view n = { s.view n with entry := none } := by
  unfold unqueued
  rw [view_setClaims, ClaimUnit.entryView_eq_none.2 (entryIn_removeEntry_self _ _)]
  rfl

theorem State.view_unqueued_ne (s : State) {m n : ChannelIx} (h : m ≠ n) : (s.unqueued n).view m = s.view m := by
  have hq : entryIn m (removeEntry n s.claims.queue) = entryIn m s.claims.queue := entryIn_removeEntry_ne h.symm _
  unfold unqueued
  rw [view_setClaims]
  unfold ClaimUnit.entryView
  dsimp only
  rw [hq]
  rfl

theorem State.view_stopChannel_ne (s : State) {m n : ChannelIx} (h : m ≠ n) : (s.stopChannel n).view m = s.view m := by
  unfold stopChannel
  split
  · rfl
  · rfl
  · exact view_enterStopping_ne s h
  · exact view_switchOff_ne s h
  · split
    · rename_i o ho
      split
      · rename_i hn
        split
        · rw [view_setClaims, ClaimUnit.claimView_ne (o := { o with stopNote := true }) rfl (by rw [hn]; exact h)]
          unfold view
          rw [ClaimUnit.claimView_ne ho (by rw [hn]; exact h)]
          rfl
        · exact view_dropClaim_ne ho (by rw [hn]; exact h)
      · rfl
    · rfl

namespace State

theorem stopChannel_rests {s : State} {n : ChannelIx} (h : s.channelState n = .off ∨ s.channelState n = .stopping) :
    s.stopChannel n = s := by
  unfold stopChannel
  rcases h with h | h <;> rw [h]

theorem stopChannel_pending {s : State} {n : ChannelIx} {d : Demand} (h : s.channelState n = .pending d) :
    s.stopChannel n = s.enterStopping n := by
  unfold stopChannel
  rw [h]

theorem stopChannel_on {s : State} {n : ChannelIx} {d : Demand} (h : s.channelState n = .switchedOn d) :
    s.stopChannel n = s.switchOff n := by
  unfold stopChannel
  rw [h]

theorem stopChannel_inFlight {s : State} {n : ChannelIx} {o : OutstandingClaim} (h : s.channelState n = .claiming)
    (ho : s.claims.outstanding = some o) (hn : o.channel = n) (hf : o.inFlight = true) :
    s.stopChannel n = s.setClaims { s.claims with outstanding := some { o with stopNote := true } } := by
  unfold stopChannel
  rw [h, ho]
  exact (if_pos hn).trans (if_pos hf)

theorem stopChannel_waiting {s : State} {n : ChannelIx} {o : OutstandingClaim} (h : s.channelState n = .claiming)
    (ho : s.claims.outstanding = some o) (hn : o.channel = n) (hf : o.inFlight = false) :
    s.stopChannel n = s.dropClaim o := by
  unfold stopChannel
  rw [h, ho]
  exact (if_pos hn).trans (if_neg (by rw [hf]; nofun))

end State

theorem State.switchOff_claims (s : State) (n : ChannelIx) : (s.switchOff n).claims = s.claims := by
  unfold switchOff beginRest
  repeat' split
  all_goals rfl

/-- A STOP leaves the queue and the enqueue count. -/
theorem State.stopChannel_claims (s : State) (n : ChannelIx) :
    (s.stopChannel n).claims.queue = s.claims.queue ∧
      (s.stopChannel n).claims.enqueueCount = s.claims.enqueueCount := by
  unfold stopChannel
  split
  · exact ⟨rfl, rfl⟩
  · exact ⟨rfl, rfl⟩
  · exact ⟨rfl, rfl⟩
  · rw [switchOff_claims]
    exact ⟨rfl, rfl⟩
  · repeat' split
    all_goals exact ⟨rfl, rfl⟩

/-- A stopped channel has no entry. -/
theorem State.entryOf_stopChannel (s : State) (n : ChannelIx) : ((s.unqueued n).stopChannel n).entryOf n = none := by
  rw [entryOf_eq, (stopChannel_claims _ n).1]
  exact entryIn_removeEntry_self _ _

theorem State.view_stop (s : State) (n : ChannelIx) (cls : Machine.Class) (duration : Nat) :
    (s.act .stop n cls duration).view n = ((s.unqueued n).stopChannel n).view n := by
  rw [act_stop_eq]
  exact view_judge_of_no_entry (s.entryOf_stopChannel n)

/-- The judgement after a STOP of another channel leaves a channel that is not OFF. -/
theorem State.channel_stop_ne (s : State) {m n : ChannelIx} (cls : Machine.Class) (duration : Nat) (h : m ≠ n)
    (hm : s.channelState m ≠ .off) : (s.act .stop n cls duration).channel m = s.channel m := by
  have hv : ((s.unqueued n).stopChannel n).view m = s.view m :=
    (view_stopChannel_ne _ h).trans (s.view_unqueued_ne h)
  have hne : ((s.unqueued n).stopChannel n).channelState m ≠ .off := by
    rw [channelState_of_view hv]
    exact hm
  rw [act_stop_eq, channel_of_view (view_judge_of_ne_off hne), channel_of_view hv]

/-! ## TOGGLE (R39) -/

theorem act_toggle_eq (s : State) (n : ChannelIx) (cls : Machine.Class) (duration : Nat) :
    s.act .toggle n cls duration =
      if (s.channelState n = .off ∨ s.channelState n = .stopping) ∧ s.entryOf n = none then
        s.act .start n cls duration
      else s.act .stop n cls duration := by
  have hrests : (s.channelState n = .off ∨ s.channelState n = .stopping) ↔ (s.channelState n).isEngaged = false := by
    cases s.channelState n <;> simp [ChannelState.isEngaged]
  have hnone : s.entryOf n = none ↔ (s.entryOf n).isSome = false := by
    cases s.entryOf n <;> simp
  have hiff : ((s.channelState n).isEngaged || (s.entryOf n).isSome) = true ↔
      ¬ ((s.channelState n = .off ∨ s.channelState n = .stopping) ∧ s.entryOf n = none) := by
    rw [hrests, hnone]
    cases (s.channelState n).isEngaged <;> cases (s.entryOf n).isSome <;> simp
  change s.toggle n cls (allowanceOf duration) = _
  unfold State.toggle
  by_cases h : (s.channelState n = .off ∨ s.channelState n = .stopping) ∧ s.entryOf n = none
  · rw [if_pos h, if_neg fun hc => hiff.1 hc h]
    rfl
  · rw [if_neg h, if_pos (hiff.2 h)]
    rfl

theorem State.switchOff_exempt_releases {s : State} {n : ChannelIx} (h : s.exempt n = true) :
    (s.switchOff n).line.offers.releases = s.line.offers.releases := by
  unfold switchOff beginRest
  rw [if_pos h]
  split <;> rfl

theorem act_stop_of {s v : State} {n : ChannelIx} {cls : Machine.Class} {duration : Nat}
    (h : (s.unqueued n).stopChannel n = v) :
    (s.act .stop n cls duration).view n = v.view n ∧
      (s.act .stop n cls duration).line.offers.releases = v.line.offers.releases := by
  refine ⟨(s.view_stop n cls duration).trans (by rw [h]), ?_⟩
  rw [act_stop_eq, judge_releases, h]

/-- What a STOP does whatever the channel's state (R38). -/
theorem act_stop_frame {s t : State} {n : ChannelIx} {cls : Machine.Class} {duration : Nat}
    (ht : t = s.act .stop n cls duration) :
    t.entryOf n = none ∧ t.claims.enqueueCount = s.claims.enqueueCount ∧ t.judge = t ∧ ClaimWork s t ∧
      ∀ m, m ≠ n → s.channelState m ≠ .off → t.channel m = s.channel m := by
  subst ht
  refine ⟨?_, ?_, judge_judge _, act_work s .stop n cls duration, fun m => s.channel_stop_ne cls duration⟩
  · rw [State.entryOf_eq_none_iff, s.view_stop, ← State.entryOf_eq_none_iff]
    exact s.entryOf_stopChannel n
  · rw [act_stop_eq, judge_enqueueCount, (State.stopChannel_claims _ n).2]
    rfl

/-- A STOP of an ON channel (R38, R85, R88). -/
theorem act_stop_on {s t : State} {n : ChannelIx} {cls : Machine.Class} {duration : Nat} {d : Demand}
    (hn : s.channelState n = .switchedOn d) (ht : t = s.act .stop n cls duration) :
    ((s.channelSettings n).rest ≠ 0 → (t.channel n).rest = (s.channelSettings n).rest * 64) ∧
      (s.exempt n = false → t.channelState n = .stopping ∧ t.line.offers.releases[n] = true) ∧
      (s.exempt n = true → t.channelState n = .off ∧ t.line.offers.releases = s.line.offers.releases) := by
  subst ht
  obtain ⟨hv, hr⟩ := act_stop_of (cls := cls) (duration := duration) (State.stopChannel_on (s := s.unqueued n) hn)
  rw [State.view_switchOff_self, s.view_unqueued_self n] at hv
  refine ⟨fun h0 => ?_, fun hx => ⟨?_, ?_⟩, fun hx => ⟨?_, ?_⟩⟩
  · exact (congrArg (fun v => v.channel.rest) hv).trans ((ChannelView.rest_off _ _ _).trans (if_neg h0))
  · refine (congrArg (fun v => v.channel.state) hv).trans ((ChannelView.state_off _ _ _).trans ?_)
    rw [show (s.unqueued n).exempt n = false from hx]
    rfl
  · refine (congrArg ChannelView.release hv).trans ((ChannelView.release_off _ _ _).trans ?_)
    rw [show (s.unqueued n).exempt n = false from hx]
    rfl
  · refine (congrArg (fun v => v.channel.state) hv).trans ((ChannelView.state_off _ _ _).trans ?_)
    rw [show (s.unqueued n).exempt n = true from hx]
    rfl
  · rw [hr, State.switchOff_exempt_releases (s := s.unqueued n) hx]
    rfl

/-- A STOP of a channel whose claim is outstanding (R38, R51). -/
theorem act_stop_claim {s t : State} {n : ChannelIx} {cls : Machine.Class} {duration : Nat} {o : OutstandingClaim}
    (hn : s.channelState n = .claiming) (ho : s.claims.outstanding = some o) (hon : o.channel = n)
    (ht : t = s.act .stop n cls duration) :
    (o.inFlight = true → t.claims.outstanding = some { o with stopNote := true } ∧ t.channel n = s.channel n) ∧
      (o.inFlight = false → t.channel n = { s.channel n with state := .off } ∧
        ∀ o', t.claims.outstanding = some o' → o'.channel ≠ n) := by
  subst ht
  refine ⟨fun hf => ?_, fun hf => ?_⟩
  · have hstop := State.stopChannel_inFlight (s := s.unqueued n) hn ho hon hf
    obtain ⟨hv, -⟩ := act_stop_of (cls := cls) (duration := duration) hstop
    refine ⟨?_, (State.channel_of_view hv).trans rfl⟩
    rw [act_stop_eq, hstop]
    rcases judge_outstanding_cases ((s.unqueued n).setClaims
      { (s.unqueued n).claims with outstanding := some { o with stopNote := true } }) with hj | ⟨e, -, h, -⟩
    · exact hj
    · cases h
  · have hstop := State.stopChannel_waiting (s := s.unqueued n) hn ho hon hf
    obtain ⟨hv, -⟩ := act_stop_of (cls := cls) (duration := duration) hstop
    refine ⟨?_, fun o' ho' => ?_⟩
    · subst hon
      rw [State.view_dropClaim_self, s.view_unqueued_self] at hv
      exact congrArg ChannelView.channel hv
    · have hnone := s.entryOf_stopChannel n
      rw [act_stop_eq, hstop] at ho'
      rw [hstop] at hnone
      exact (judge_outstanding_of_none rfl (takes_ne_of_no_entry hnone) ho').1

/-- A START in LISTENING of an OFF budgeted channel waits in the queue (R36, R43). -/
theorem act_start_listening {s t : State} {n : ChannelIx} {cls : Machine.Class} {duration : Nat}
    (hm : s.member.state = .listening) (hx : s.exempt n = false) (hoff : s.channelState n = .off)
    (hnone : s.entryOf n = none) (hc : s.claims.enqueueCount < 65535) (ht : t = s.act .start n cls duration) :
    t.entryOf n = some (s.claims.appended n
        { cls := Machine.Class.lowered (s.channelSettings n).ceiling cls, allowance := allowanceOf duration }) ∧
      t.claims.enqueueCount = s.claims.enqueueCount + 1 ∧ t.channelState n = .off ∧
      ∀ m, s.channelState m ≠ .off → t.channel m = s.channel m := by
  rw [act_start_waits (.inl hoff), ClaimUnit.enqueue_of_none hnone, ClaimUnit.append_below hc] at ht
  subst ht
  generalize hd : s.claims.appended n
    { cls := Machine.Class.lowered (s.channelSettings n).ceiling cls, allowance := allowanceOf duration } = e
  have hen : e.channel = n := by rw [← hd]; rfl
  generalize hu : s.setClaims { s.claims with
    queue := insertEntry e s.claims.queue, enqueueCount := s.claims.enqueueCount + 1 } = u
  have hcount : u.claims.enqueueCount = s.claims.enqueueCount + 1 := by rw [← hu]; rfl
  have hchan : u.channels = s.channels := by rw [← hu]; rfl
  have hmu : u.member.state ≠ .synced := by rw [← hu]; exact fun h => nomatch hm.symm.trans h
  have hxu : u.exempt n = false := by rw [← hu]; exact hx
  have hentry : u.entryOf n = some e := by
    rw [← hu, ← hen]
    exact entryIn_insertEntry_of_none (by rw [hen]; exact hnone)
  have hserv := servable_of_budgeted hxu
  have hne : ∀ e, u.takes = some e → e.channel ≠ n := by
    rw [takes_of_not_synced hmu]
    exact nofun
  have hsame (m : ChannelIx) : u.channel m = s.channel m := by unfold State.channel; rw [hchan]
  have hstate (m : ChannelIx) : u.channelState m = s.channelState m := congrArg Channel.state (hsame m)
  refine ⟨(judge_entryOf_of_not hserv hne).trans hentry, (judge_enqueueCount u).trans hcount, ?_, fun m hm => ?_⟩
  · exact (congrArg Channel.state (judge_channel_of_not hserv hne)).trans ((hstate n).trans hoff)
  · exact (State.channel_of_view (State.view_judge_of_ne_off (by rw [hstate m]; exact hm))).trans (hsame m)

theorem lowered_number (a b : Machine.Class) : (Machine.Class.lowered a b).number = max a.number b.number := by
  unfold Class.lowered
  split <;> omega

theorem higher_number (a b : Machine.Class) : (a.higher b).number = min a.number b.number := by
  unfold Class.higher
  split <;> omega

theorem State.atAcceptance_settings (s : State) (f : Frame) : (s.atAcceptance f).settings = s.settings := by
  obtain ⟨c, k, g, b, hat⟩ := s.atAcceptance_eq f
  rw [hat]

theorem State.atAcceptance_claims (s : State) (f : Frame) : (s.atAcceptance f).claims = s.claims := by
  obtain ⟨c, k, g, b, hat⟩ := s.atAcceptance_eq f
  rw [hat]

theorem State.atAcceptance_member (s : State) (f : Frame) : (s.atAcceptance f).member = s.member := by
  obtain ⟨c, k, g, b, hat⟩ := s.atAcceptance_eq f
  rw [hat]

theorem ClaimWork.moved {s t : State} (h : ClaimWork s t) :
    t = { s with claims := t.claims, channels := t.channels, line := t.line } := by
  rw [← h]

/-- Settles O52. -/
theorem demandStartsAndStops : Obligations.DemandStartsAndStops := by
  refine ⟨?_, ?_, ?_, fun s n cls duration hinv => ?_⟩
  · refine ⟨rfl, rfl, rfl, rfl, rfl, rfl, rfl, classOfBits_number, fun c d => ⟨lowered_number c d, higher_number c d⟩, rfl,
      fun d hd => ?_, fun x y a => ⟨rfl, rfl, by cases a <;> rfl⟩, fun m x a => ⟨rfl, fun hm => ⟨?_, ?_⟩⟩⟩
    · rw [Nat.mul_comm]
      exact if_neg hd
    · rw [Nat.mul_comm]
      exact if_neg hm
    · rw [Nat.mul_comm]
      exact if_neg hm
  · intro head p s f duration heard hs hh hp
    obtain ⟨own, hexec⟩ := exec_demandAccepted hs hh hp
    have hset : heard.settings = s.settings := s.atAcceptance_settings f
    have hown : heard.ownId = s.ownId := congrArg Settings.stationId hset
    refine ⟨fun hnone => ?_, fun n a hn ha => ⟨fun h63 hid => ?_, fun h63 => ?_⟩⟩
    · rw [hexec, applyDemand_none (by rw [hown]; exact hnone)]
    · rw [hexec, applyDemand_own h63 (hid.trans hown.symm) hn ha]
    · rw [hexec, applyDemand_group h63 hn ha, actOnGroup_eq s.settings hset]
      rfl
  · intro head p s n f heard hs hh hp h63 hown hn hx
    obtain ⟨own, hexec⟩ : ∃ own, exec (.demandAccepted head p) s =
        .next (State.applyDemand (Machine.Class.ofBits head.cls) p[0] p[1] p[2] (word16 p[3] p[4]).toNat own heard) :=
      exec_demandAccepted hs hh hp
    have hset : heard.settings = s.settings := s.atAcceptance_settings f
    have hview (m : ChannelIx) : heard.view m = s.view m := s.view_atAcceptance f m
    have hclaims : heard.claims = s.claims := s.atAcceptance_claims f
    have hmember : heard.member = s.member := s.atAcceptance_member f
    have hstate (m : ChannelIx) : heard.channelState m = s.channelState m := State.channelState_of_view (hview m)
    have hchan (m : ChannelIx) : heard.channel m = s.channel m := State.channel_of_view (hview m)
    have hid : p[0].toNat = heard.ownId := hown.trans (congrArg Settings.stationId hset).symm
    have hxh : heard.exempt n = false := (State.exempt_of_settings hset n).trans hx
    have hch : heard.channelSettings n = s.channelSettings n := by unfold State.channelSettings; rw [hset]
    clear_value heard
    refine ⟨fun ha hm hoff hnone hcount => ?_, fun d ha hon => ?_⟩
    · have hact := applyDemand_own (own := own) (cls := Machine.Class.ofBits head.cls)
        (duration := (word16 p[3] p[4]).toNat) h63 hid hn (a := .start) ha
      have hwork := act_work heard .start n (Machine.Class.ofBits head.cls) (word16 p[3] p[4]).toNat
      obtain ⟨he, hc, hst, hstand⟩ := act_start_listening (cls := Machine.Class.ofBits head.cls)
        (duration := (word16 p[3] p[4]).toNat) (by rw [hmember]; exact hm) hxh ((hstate n).trans hoff)
        (by rw [State.entryOf_eq, hclaims]; exact hnone) (by rw [hclaims]; exact hcount) rfl
      rw [hch, hclaims] at he
      rw [hclaims] at hc
      generalize heard.act .start n (Machine.Class.ofBits head.cls) (word16 p[3] p[4]).toNat = u at *
      exact ⟨u, _, hexec.trans (congrArg _ hact), he, rfl, rfl, rfl, rfl, hc, hst, hwork.symm,
        fun m hm => (hstand m (by rw [hstate m]; exact hm)).trans (hchan m)⟩
    · have hact := applyDemand_own (own := own) (cls := Machine.Class.ofBits head.cls)
        (duration := (word16 p[3] p[4]).toNat) h63 hid hn (a := .stop) ha
      obtain ⟨hnone, hcount, -, hwork, hstand⟩ := act_stop_frame (s := heard) (n := n)
        (cls := Machine.Class.ofBits head.cls) (duration := (word16 p[3] p[4]).toNat) rfl
      obtain ⟨hrest, hbudget, -⟩ := act_stop_on (cls := Machine.Class.ofBits head.cls)
        (duration := (word16 p[3] p[4]).toNat) ((hstate n).trans hon) rfl
      obtain ⟨hst, hrel⟩ := hbudget hxh
      rw [hch] at hrest
      rw [hclaims] at hcount
      generalize heard.act .stop n (Machine.Class.ofBits head.cls) (word16 p[3] p[4]).toNat = u at *
      exact ⟨u, hexec.trans (congrArg _ hact), hst, hrel, hnone,
        State.outputActive_of_not_on (by rw [hst]; rfl), hrest, hcount, hwork.symm,
        fun m hm hmo => (hstand m hm (by rw [hstate m]; exact hmo)).trans (hchan m)⟩
  · intro lowered extended
    have core := ((queueInv_iff s).1 hinv).toQueueCore
    refine ⟨fun hn => ⟨fun hnone hc => ?_, fun hnone hc => ?_, fun e he => ?_⟩,
      fun o ho hon => act_start_claim (hon ▸ core.claim_channel ho) ho hon, fun d hd => act_start_pending hd,
      fun d hd => act_start_on hd, ?_, act_toggle_eq s n cls duration⟩
    · obtain ⟨q, hp, ho, he⟩ := core.unit.enqueue_below hnone hc ⟨lowered, allowanceOf duration⟩
      exact ⟨q, hp, ho, (act_start_waits hn).trans (congrArg (fun u => (s.setClaims u).judge) he)⟩
    · obtain ⟨q, hp, ho, he⟩ := core.unit.enqueue_full hnone hc ⟨lowered, allowanceOf duration⟩
      exact ⟨q, hp, ho, (act_start_waits hn).trans (congrArg (fun u => (s.setClaims u).judge) he)⟩
    · obtain ⟨q, hp, ho, he⟩ := core.unit.enqueue_merged he ⟨lowered, allowanceOf duration⟩
      exact ⟨q, hp, ho, (act_start_waits hn).trans (congrArg (fun u => (s.setClaims u).judge) he)⟩
    · obtain ⟨hnone, hcount, hjudge, hwork, hstand⟩ := act_stop_frame (s := s) (n := n) (cls := cls)
        (duration := duration) rfl
      refine ⟨_, rfl, hnone, hcount, hjudge, hwork.moved, hstand, fun hn => ?_, fun d hn => ?_,
        fun d hn => act_stop_on hn rfl, fun o ho hon => act_stop_claim (hon ▸ core.claim_channel ho) ho hon rfl⟩
      · obtain ⟨hv, hr⟩ := act_stop_of (cls := cls) (duration := duration)
          (State.stopChannel_rests (s := s.unqueued n) hn)
        exact ⟨(State.channel_of_view hv).trans rfl, hr⟩
      · obtain ⟨hv, hr⟩ := act_stop_of (cls := cls) (duration := duration)
          (State.stopChannel_pending (s := s.unqueued n) hn)
        rw [State.view_enterStopping_self, s.view_unqueued_self n] at hv
        exact ⟨congrArg ChannelView.channel hv, congrArg ChannelView.release hv⟩

end Sys2Proof.Machine
end

section
/-! PROOFS. The run and rest timers and the judgement of the claim unit (O54). -/

namespace Sys2Proof.Machine

/-! ## The judgement, in the spec's words (R41 to R45) -/

theorem exempt_iff {s : State} {n : ChannelIx} : s.exempt n = true ↔ s.weight n = 0 := beq_iff_eq

theorem budgeted_iff {s : State} {n : ChannelIx} : s.exempt n = false ↔ s.weight n ≠ 0 := beq_eq_false_iff_ne

theorem qualifies_iff {s : State} {e : Entry} : s.qualifies e = true ↔ s.meetsR41 e := by
  unfold State.qualifies State.meetsR41 State.meetsR42
  rw [Bool.and_eq_true, Bool.and_eq_true, Bool.not_eq_true', Bool.not_eq_true', State.ready_iff, budgeted_iff, and_assoc]

/-- A budgeted claim fits, or may displace, by R43. -/
theorem meetsR43_iff {s : State} {e : Entry} (h : s.weight e.channel ≠ 0) :
    (s.fits e.channel || s.mayDisplaceWith e.channel e.cls) = true ↔ s.meetsR43 e := by
  have hfits : s.fits e.channel = true ↔ s.fitsR43 e.channel := by
    rw [State.fits, Bool.and_eq_true, decide_eq_true_iff, decide_eq_true_iff, freeUnits]
    unfold State.fitsR43
    rw [show Config.tableCapacity = 48 from rfl]
    omega
  rw [Bool.or_eq_true, hfits, mayDisplaceWith_iff]
  rfl

/-- The first entry of the queue that meets R41 is the candidate. -/
theorem candidate_of_first {s : State} {before after : List Entry} {e : Entry}
    (hq : s.claims.queue = before ++ e :: after) (hb : ∀ e' ∈ before, ¬ s.meetsR41 e') (he : s.meetsR41 e) :
    s.candidate = some e := by
  unfold State.candidate
  rw [hq, List.find?_append, List.find?_eq_none.2 fun x hx => by rw [qualifies_iff]; exact hb x hx, Option.none_or,
    List.find?_cons_of_pos (qualifies_iff.2 he)]

theorem takes_of_first {s : State} {before after : List Entry} {e : Entry}
    (hq : s.claims.queue = before ++ e :: after) (hb : ∀ e' ∈ before, ¬ s.meetsR41 e') (he : s.meetsR41 e)
    (hs : s.member.state = .synced) (ho : s.claims.outstanding = none) (hfit : s.meetsR43 e) : s.takes = some e := by
  unfold State.takes
  rw [if_pos ⟨hs, ho⟩, candidate_of_first hq hb he, Option.filter_some, if_pos ((meetsR43_iff he.1).2 hfit)]

/-- No entry is taken up where R41, R43 or R45 does not let one be. -/
theorem takes_eq_none {s : State}
    (h : s.member.state ≠ .synced ∨ s.claims.outstanding ≠ none ∨ (∀ e ∈ s.claims.queue, ¬ s.meetsR41 e) ∨
      ∃ before e after, s.claims.queue = before ++ e :: after ∧ (∀ e' ∈ before, ¬ s.meetsR41 e') ∧
        s.meetsR41 e ∧ ¬ s.meetsR43 e) : s.takes = none := by
  refine Option.eq_none_iff_forall_ne_some.2 fun x hx => ?_
  obtain ⟨hs, ho, hc, hf⟩ := takes_eq_some hx
  obtain ⟨hmem, hex, hready, hhold⟩ := candidate_eq_some hc
  rcases h with h | h | h | ⟨b, e, a, hq, hb, he, hn⟩
  · exact h hs
  · exact h ho
  · exact h x hmem (qualifies_iff.1 (List.find?_some hc))
  · rw [candidate_of_first hq hb he] at hc
    cases hc
    exact hn ((meetsR43_iff he.1).1 hf)

/-- The judgement leaves the budgeted entries it does not take up. -/
theorem judge_leaves_entry {s : State} {e : Entry} (he : e ∈ s.claims.queue) (hserv : s.servable e.channel = false)
    (hne : ∀ x, s.takes = some x → x.channel ≠ e.channel) :
    e ∈ s.judge.claims.queue ∧ s.judge.channel e.channel = s.channel e.channel :=
  ⟨mem_judge_queue he hserv hne, judge_channel_of_not hserv hne⟩

/-- An entry that does not meet R41 is not taken up. -/
theorem takes_ne_of_not_meetsR41 {s : State} (core : s.QueueCore) {e : Entry} (he : e ∈ s.claims.queue)
    (h : ¬ s.meetsR41 e) : ∀ x, s.takes = some x → x.channel ≠ e.channel := by
  intro x hx hn
  have hc := (takes_eq_some hx).2.2.1
  have hxe : x = e := List.inj_on_of_nodup_map core.unit.channels (candidate_eq_some hc).1 he hn
  rw [hxe] at hc
  exact h (qualifies_iff.1 (List.find?_some hc))

/-- An exempt entry whose channel is ready is served (R42). -/
theorem judge_serves {s : State} (core : s.QueueCore) (hw : s.member.state.working = true) {e : Entry}
    (he : e ∈ s.claims.queue) (hx : s.weight e.channel = 0) (h : s.meetsR42 e) :
    s.judge.entryOf e.channel = none ∧
      s.judge.channel e.channel = { s.channel e.channel with
        state := .switchedOn
          { cls := e.cls, allowance := capped (s.channelSettings e.channel).maxRun e.allowance } } := by
  have hex : s.exempt e.channel = true := exempt_iff.2 hx
  have hserv : s.servable e.channel = true := by
    unfold State.servable
    rw [hex, (s.ready_iff e.channel).2 h, hw]
    rfl
  have hentry : s.entryOf e.channel = some e := entryIn_of_mem core.unit.channels he rfl
  constructor
  · rw [State.entryOf_eq, entryIn_eq_none]
    intro x hxm hn
    rw [judge_claims] at hxm
    have hfilter : x ∈ s.claims.queue.filter fun x => !s.servable x.channel := by
      split at hxm
      · exact ((mem_removeEntry _ _ _).1 hxm).1
      · exact hxm
    have hb := (List.mem_filter.1 hfilter).2
    rw [hn, hserv] at hb
    cases hb
  · rw [judge_channel_eq, if_neg, serveExempt_channel, hentry, hserv]
    · rfl
    · rintro ⟨x, hxt, hn⟩
      have hxb := (candidate_eq_some (takes_eq_some hxt).2.2.1).2.1
      rw [hn, hex] at hxb
      cases hxb

/-! ## What leaves a channel alone -/

/-- From s to t a channel keeps its rest, and where it is not OFF or has no entry the whole of its part. -/
def QuietAt (n : ChannelIx) (s t : State) : Prop :=
  (t.channel n).rest = (s.channel n).rest ∧
    (s.channelState n ≠ .off ∨ s.entryOf n = none → t.view n = s.view n)

namespace QuietAt

variable {n : ChannelIx} {s t u : State}

theorem of_view (h : t.view n = s.view n) : QuietAt n s t :=
  ⟨congrArg Channel.rest (State.channel_of_view h), fun _ => h⟩

theorem trans (h : QuietAt n s t) (k : QuietAt n t u) : QuietAt n s u := by
  refine ⟨k.1.trans h.1, fun hn => ?_⟩
  have hv := h.2 hn
  refine (k.2 (hn.imp (fun hs => ?_) fun he => ?_)).trans hv
  · rw [State.channelState_of_view hv]
    exact hs
  · rw [State.entryOf_eq] at *
    exact (State.entry_of_view hv).2 he

theorem judge (n : ChannelIx) (s : State) : QuietAt n s s.judge := by
  constructor
  · rw [judge_channel_eq, serveExempt_channel]
    split
    · rfl
    · split
      · rename_i e he
        split
        · unfold State.servedBy
          rw [(mem_of_entryIn he).2]
        · rfl
      · rfl
  · rintro (h | h)
    · exact State.view_judge_of_ne_off h
    · exact State.view_judge_of_no_entry h

theorem expireRun {m : ChannelIx} (h : n ≠ m) (s : State) : QuietAt n s (s.expireRun m) := by
  unfold State.expireRun
  split
  · split
    · exact (of_view (State.view_switchOff_ne s h)).trans (judge n _)
    · exact of_view rfl
  · exact of_view rfl

theorem foldl {α : Type} {f : State → α → State} {l : List α} (hf : ∀ a ∈ l, ∀ t, QuietAt n t (f t a)) (s : State) :
    QuietAt n s (l.foldl f s) := by
  induction l generalizing s with
  | nil => exact of_view rfl
  | cons a l ih =>
    exact (hf a List.mem_cons_self s).trans (ih (fun b hb => hf b (List.mem_cons_of_mem a hb)) _)

theorem tickBeacon (n : ChannelIx) (s : State) : QuietAt n s s.tickBeacon := by
  unfold State.tickBeacon
  repeat' split
  all_goals exact of_view rfl

theorem tickMute (n : ChannelIx) (s : State) : QuietAt n s s.tickMute := by
  unfold State.tickMute
  repeat' split
  · exact (of_view rfl).trans (judge n ((s.setMember { s.member.listening with muteTimer := 0 }).setLine s.line.joined))
  · exact of_view rfl
  · exact of_view rfl

end QuietAt

/-! ## A tick at which no input moves -/

/-- A read of the taken level ends a debounce and no more (R135 (1), (2)). -/
theorem readInput_taken {s : State} {n : InputIx} {high : Bool} (h : ∀ level, s.inputs[n].taken = some level → high = level) :
    ∃ v : Vector InputState 8, s.readInput n high = { s with inputs := v } ∧
      ∀ m : InputIx, v[m].taken = s.inputs[m].taken := by
  unfold State.readInput
  split
  · split
    · rename_i d level _ ht
      have hl := h level ht
      split
      · exact ⟨s.inputs, rfl, fun _ => rfl⟩
      · refine ⟨s.inputs.set n { taken := some level, debounce := 0 }, rfl, fun m => ?_⟩
        simp only [Fin.getElem_fin, Vector.getElem_set]
        split
        · rename_i hm
          obtain rfl := Fin.ext hm
          exact ht.symm
        · rfl
    · exact ⟨s.inputs, rfl, fun _ => rfl⟩
  · exact ⟨s.inputs, rfl, fun _ => rfl⟩

theorem foldl_readInput_taken {s : State} {pins : Vector Bool 8}
    (h : ∀ (n : InputIx) (level : Bool), s.inputs[n].taken = some level → pins[n] = level) (l : List InputIx) :
    ∃ v : Vector InputState 8, l.foldl (fun t n => t.readInput n pins[n]) s = { s with inputs := v } := by
  induction l generalizing s with
  | nil => exact ⟨s.inputs, rfl⟩
  | cons n l ih =>
    obtain ⟨v, hv, ht⟩ := readInput_taken (h n)
    rw [List.foldl_cons, hv]
    obtain ⟨w, hw⟩ := ih (s := { s with inputs := v }) fun m level hm => h m level ((ht m).symm.trans hm)
    exact ⟨w, hw⟩

theorem tickRead_taken {s : State}
    (h : ∀ (n : InputIx) (level : Bool), s.inputs[n].taken = some level → s.pins[n] = level) :
    ∃ v : Vector InputState 8, s.tickRead = { s.tickRested with inputs := v } := by
  have hi : s.tickRested.inputs = s.inputs := by rw [← tickRested_work s]
  exact foldl_readInput_taken (by rw [hi]; exact h) allEight

/-- Nothing is left for the judgement. -/
def State.settled (s : State) : Prop := s.takes = none ∧ ∀ e ∈ s.claims.queue, s.servable e.channel = false

theorem State.settled.judge {s : State} (h : s.settled) : s.judge = s := by
  rw [judge_eq, h.1]
  exact serveExempt_of_not h.2

theorem settled_of_judge {s : State} (h : s.judge = s) : s.settled := by
  have ht : s.takes = none := by
    have := judge_takes s
    rwa [h] at this
  refine ⟨ht, fun e he => ?_⟩
  have hq : s.claims.queue.filter (fun x => !s.servable x.channel) = s.claims.queue := by
    have hc := judge_claims s
    rw [h, ht] at hc
    exact (congrArg ClaimUnit.queue hc).symm
  rw [← hq] at he
  simpa using (List.mem_filter.1 he).2

/-- The judgement does not look at the inputs, the timers or the offers. -/
theorem State.settled.of_eq {s t : State} (h : s.settled)
    (ht : ∃ v m l, t = { s with inputs := v, member := m, line := l } ∧ m.state = s.member.state) : t.settled := by
  obtain ⟨v, m, l, rfl, hm⟩ := ht
  obtain ⟨h1, h2⟩ := h
  unfold takes at h1
  unfold servable at h2
  rw [← hm] at h1 h2
  exact ⟨h1, h2⟩

theorem tickBeacon_eq (s : State) :
    ∃ v m l, s.tickBeacon = { s with inputs := v, member := m, line := l } ∧ m.state = s.member.state := by
  unfold State.tickBeacon
  repeat' split
  all_goals exact ⟨_, _, _, rfl, rfl⟩

theorem tickMute_settled {s : State} (h : s.settled) : s.tickMute.judge = s.tickMute := by
  unfold State.tickMute
  split
  · split
    · exact judge_judge _
    · exact (h.of_eq (t := s.setMember { s.member with muteTimer := s.member.muteTimer - 1 })
        ⟨s.inputs, _, s.line, rfl, rfl⟩).judge
  · exact h.judge

/-! ## A channel through a tick -/

theorem State.tickCounted_channel (s : State) (n : ChannelIx) : s.tickCounted.channel n = (s.channel n).counted := by
  unfold tickCounted channel
  simp only [Fin.getElem_fin, Vector.getElem_map]

theorem State.tickCounted_view (s : State) (n : ChannelIx) :
    s.tickCounted.view n = { s.view n with channel := (s.channel n).counted } := by
  unfold view
  rw [tickCounted_channel]
  rfl

theorem quietAt_tickRested (n : ChannelIx) (s : State) : QuietAt n s.tickExpired s.tickRested := by
  unfold State.tickRested
  split
  · exact .judge n _
  · exact .of_view rfl

/-- After the expiries a tick at which no level read differs leaves a channel to the judgement. -/
theorem quietAt_tick (n : ChannelIx) {s : State} (hw : s.member.state.working = true)
    (h : ∀ (n : InputIx) (level : Bool), s.inputs[n].taken = some level → s.pins[n] = level) :
    QuietAt n s.tickExpired s.tick := by
  obtain ⟨v, hv⟩ := tickRead_taken h
  rw [tick_of_working hw, hv]
  refine (quietAt_tickRested n s).trans ?_
  generalize s.tickRested = t
  exact QuietAt.trans (t := { t with inputs := v }) (.of_view rfl) ((QuietAt.tickBeacon n _).trans (QuietAt.tickMute n _))

/-- A channel whose run timer does not run out is left by the expiries. -/
theorem quietAt_tickExpired {n : ChannelIx} {s : State} (h : (s.tickCounted.channel n).runOut = false) :
    QuietAt n s.tickCounted s.tickExpired := by
  refine QuietAt.foldl (fun m _ t => ?_) _
  by_cases hm : n = m
  · subst hm
    rw [if_neg (by rw [h]; nofun)]
    exact .of_view rfl
  · split
    · exact .expireRun hm t
    · exact .of_view rfl

/-- A channel whose run timer runs out has its turn among the expiries. -/
theorem tickExpired_turn {n : ChannelIx} {s : State} (h : (s.tickCounted.channel n).runOut = true) :
    ∃ t, ClaimWork s.tickCounted t ∧ QuietAt n s.tickCounted t ∧ QuietAt n (t.expireRun n) s.tickExpired := by
  obtain ⟨before, after, hl⟩ := List.append_of_mem (mem_allEight n)
  have hnodup := allEight_nodup
  rw [hl] at hnodup
  have hb : n ∉ before := fun hm => (List.nodup_append.1 hnodup).2.2 n hm n List.mem_cons_self rfl
  have ha : n ∉ after := (List.nodup_cons.1 (List.nodup_append.1 hnodup).2.1).1
  have turn (l : List ChannelIx) (hn : n ∉ l) (t : State) :
      QuietAt n t (l.foldl (fun t m => if (s.tickCounted.channel m).runOut then t.expireRun m else t) t) := by
    refine QuietAt.foldl (fun m hm t => ?_) t
    split
    · exact .expireRun (fun he => hn (by rw [he]; exact hm)) t
    · exact .of_view rfl
  refine ⟨before.foldl (fun t m => if (s.tickCounted.channel m).runOut then t.expireRun m else t) s.tickCounted,
    ClaimWork.foldl (fun t m => ?_) _ _, turn before hb _, ?_⟩
  · split
    · exact expireRun_work t m
    · exact .refl t
  · unfold State.tickExpired
    rw [hl, List.foldl_append, List.foldl_cons, if_pos h]
    exact turn after ha _

theorem State.expireRun_on {s : State} {n : ChannelIx} {d : Demand} (h : s.channelState n = .switchedOn d)
    (hd : d.allowance.isSome = true) : s.expireRun n = (s.switchOff n).judge := by
  unfold expireRun
  rw [h]
  exact if_pos hd

/-- A channel without an entry whose allowance expires leaves ON with its rest begun (R85, R88, R90). -/
theorem State.view_expireRun {s : State} {n : ChannelIx} {d : Demand} (h : s.channelState n = .switchedOn d)
    (hd : d.allowance.isSome = true) (hnone : s.entryOf n = none) :
    (s.expireRun n).view n = (s.view n).off (s.exempt n) (s.channelSettings n).rest := by
  have hoff : (s.switchOff n).entryOf n = none := by
    rw [entryOf_eq, switchOff_claims]
    exact hnone
  rw [expireRun_on h hd, view_judge_of_no_entry hoff, view_switchOff_self]

/-- What a channel with a run timer at 1 has become by the end of the tick. -/
theorem view_tick_expired {s : State} {n : ChannelIx} {d : Demand} (core : s.QueueCore)
    (hw : s.member.state.working = true)
    (h : ∀ (n : InputIx) (level : Bool), s.inputs[n].taken = some level → s.pins[n] = level)
    (hn : s.channelState n = .switchedOn d) (hd : d.allowance = some 1) :
    s.tick.view n = (s.tickCounted.view n).off (s.exempt n) (s.channelSettings n).rest := by
  have hcounted : s.tickCounted.channelState n = .switchedOn { d with allowance := some 0 } := by
    unfold State.channelState at hn ⊢
    rw [s.tickCounted_channel]
    unfold Channel.counted
    rw [hn]
    dsimp only
    rw [hd]
    rfl
  have hnone : s.tickCounted.entryOf n = none := core.entry_of_on hn
  have hrun : (s.tickCounted.channel n).runOut = true := by
    unfold Channel.runOut
    rw [show (s.tickCounted.channel n).state = _ from hcounted]
    rfl
  obtain ⟨t, hwork, hbefore, hafter⟩ := tickExpired_turn hrun
  have hv := hbefore.2 (.inr hnone)
  have htn : t.entryOf n = none := by
    rw [State.entryOf_eq] at *
    exact (State.entry_of_view hv).2 hnone
  have hexp := State.view_expireRun ((State.channelState_of_view hv).trans hcounted) rfl htn
  have hnone' : (t.expireRun n).entryOf n = none := by
    rw [State.entryOf_eq_none_iff, hexp, ChannelView.entry_off, ← State.entryOf_eq_none_iff]
    exact htn
  have hx : t.exempt n = s.exempt n := hwork.exempt n
  have hset : t.channelSettings n = s.channelSettings n := by
    unfold State.channelSettings
    rw [hwork.settings]
    rfl
  rw [(hafter.trans (quietAt_tick n hw h)).2 (.inr hnone'), hexp, hv, hx, hset]

/-- A channel that is not ON, or whose run timer does not run out, through a tick. -/
theorem quietAt_counted_tick {s : State} {n : ChannelIx} (hw : s.member.state.working = true)
    (h : ∀ (n : InputIx) (level : Bool), s.inputs[n].taken = some level → s.pins[n] = level)
    (hrun : (s.tickCounted.channel n).runOut = false) : QuietAt n s.tickCounted s.tick :=
  (quietAt_tickExpired hrun).trans (quietAt_tick n hw h)

/-! ## The run and rest commands -/

theorem exec_runAllowanceExpiry {s : State} (hw : s.member.state.working = true) (n : ChannelIx) :
    exec (.runAllowanceExpiry n) s = .next (s.expireRun n) := congrArg Host.Outcome.next (if_pos hw)

theorem exec_restEnd {s : State} {n : ChannelIx} (hw : s.member.state.working = true) (hr : (s.channel n).rest ≠ 0) :
    exec (.restEnd n) s =
      .next ({ s with channels := s.channels.set n { s.channel n with rest := 0 } }.judge) :=
  congrArg Host.Outcome.next ((if_pos hw).trans (if_neg hr))

theorem tickCounted_of {s : State} {n : ChannelIx} {d : Demand} (h : s.channelState n = .switchedOn d) :
    s.tickCounted.channel n =
      { state := .switchedOn { d with allowance := d.allowance.map fun k => k - 1 }, rest := (s.channel n).rest - 1 } := by
  rw [s.tickCounted_channel]
  unfold Channel.counted
  rw [show (s.channel n).state = _ from h]

theorem tickCounted_of_not_on {s : State} {n : ChannelIx} (h : (s.channelState n).isOn = false) :
    s.tickCounted.channelState n = s.channelState n ∧ (s.tickCounted.channel n).runOut = false := by
  unfold State.channelState at *
  rw [s.tickCounted_channel]
  unfold Channel.runOut Channel.counted
  cases hs : (s.channel n).state with
  | switchedOn d =>
    rw [hs] at h
    cases h
  | off => exact ⟨rfl, rfl⟩
  | claiming => exact ⟨rfl, rfl⟩
  | pending d => exact ⟨rfl, rfl⟩
  | stopping => exact ⟨rfl, rfl⟩

/-- Settles O54. -/
theorem runAndRestTimersExpire : Obligations.RunAndRestTimersExpire := by
  refine ⟨fun s hm => ?_, fun s hw => ⟨exec_runAllowanceExpiry hw, ?_⟩, fun s hinv hw hpins => ⟨fun hrest => ?_, fun n =>
    ⟨fun d k hn hd => ?_, fun d hn hd => ?_, fun d hn hd => ?_, fun hn => ?_⟩⟩,
    fun s n d hinv hw hn hd => ?_, fun s n hw hr => ?_, fun s => ⟨judge_judge s, judge_of_not_working, judge_frame s⟩,
    fun s hinv hw => ?_⟩
  · unfold State.tick
    rw [hm]
  · refine ⟨s.tickCounted, s.tickExpired, s.tickRested, s.tickRead, rfl, s.tickCounted_channel, ?_, fun ⟨n, hn⟩ => ?_,
      fun hn => ?_, rfl, tick_of_working hw⟩
    · unfold State.tickExpired
      refine congrArg (fun f => List.foldl f s.tickCounted _) (funext fun t => funext fun n => ?_)
      unfold Channel.runOut State.channelState
      cases (s.tickCounted.channel n).state with
      | switchedOn d =>
        obtain ⟨c, a⟩ := d
        cases a with
        | none => rfl
        | some k => cases k <;> rfl
      | off => rfl
      | claiming => rfl
      | pending d => rfl
      | stopping => rfl
    · refine if_pos (List.any_eq_true.2 ⟨n, mem_allEight n, ?_⟩)
      rw [hn]
      rfl
    · refine if_neg fun hany => ?_
      obtain ⟨n, -, he⟩ := List.any_eq_true.1 hany
      exact hn n (beq_iff_eq.1 he)
  · obtain ⟨n, hn⟩ := hrest
    have hsettled : s.tickRested.settled := by
      have hr : s.tickRested = s.tickExpired.judge := by
        refine if_pos (List.any_eq_true.2 ⟨n, mem_allEight n, ?_⟩)
        rw [hn]
        rfl
      rw [hr]
      exact settled_of_judge (judge_judge _)
    obtain ⟨v, hv⟩ := tickRead_taken hpins
    rw [tick_of_working hw, hv]
    generalize s.tickRested = t at *
    have hread : ({ t with inputs := v } : State).settled := hsettled.of_eq ⟨v, _, _, rfl, rfl⟩
    exact tickMute_settled (hread.of_eq (tickBeacon_eq _))
  · have hc := tickCounted_of hn
    rw [hd] at hc
    have hq := quietAt_counted_tick hw hpins (n := n) (by unfold Channel.runOut; rw [hc]; simp)
    rw [State.channel_of_view (hq.2 (.inl (by unfold State.channelState; rw [hc]; nofun))), hc]
    rfl
  · have hc := tickCounted_of hn
    have hq := quietAt_counted_tick hw hpins (n := n) (by unfold Channel.runOut; rw [hc, hd]; rfl)
    rw [State.channel_of_view (hq.2 (.inl (by unfold State.channelState; rw [hc]; nofun))), hc, hd]
    unfold State.channelState at hn
    obtain ⟨c, a⟩ := d
    cases hd
    rw [show s.channel n = ⟨(s.channel n).state, (s.channel n).rest⟩ from rfl, hn]
    rfl
  · have core := ((queueInv_iff s).1 hinv).toQueueCore
    have hv := view_tick_expired core hw hpins hn hd
    have hst := (congrArg (fun v => v.channel.state) hv).trans (ChannelView.state_off _ _ _)
    have hrest := (congrArg (fun v => v.channel.rest) hv).trans (ChannelView.rest_off _ _ _)
    refine ⟨State.outputActive_of_not_on ?_, ?_, ?_, fun hx => ⟨?_, ?_⟩, fun hx => ?_⟩
    · rw [show s.tick.channelState n = _ from hst]
      cases s.exempt n <;> rfl
    · rw [State.entryOf_eq_none_iff, hv, ChannelView.entry_off, s.tickCounted_view]
      exact State.entryOf_eq_none_iff.1 (core.entry_of_on hn)
    · exact hrest.trans (by rw [s.tickCounted_view]; rfl)
    · rw [show s.tick.channelState n = _ from hst, hx]
      rfl
    · rw [show s.tick.line.offers.releases[n] = _ from congrArg ChannelView.release hv, ChannelView.release_off, hx]
      rfl
    · rw [show s.tick.channelState n = _ from hst, hx]
      rfl
  · obtain ⟨hst, hrun⟩ := tickCounted_of_not_on hn
    have hq := quietAt_counted_tick hw hpins hrun
    refine ⟨hq.1.trans (by rw [s.tickCounted_channel]; rfl), fun h => ?_⟩
    rw [State.channelState_of_view (hq.2 (by rw [hst]; exact h)), hst]
  · have core := ((queueInv_iff s).1 hinv).toQueueCore
    have hnone := core.entry_of_on hn
    have hv := State.view_expireRun hn hd hnone
    have he := State.expireRun_on hn hd
    have hst := (congrArg (fun v => v.channel.state) hv).trans (ChannelView.state_off _ _ _)
    have hrest := (congrArg (fun v => v.channel.rest) hv).trans (ChannelView.rest_off _ _ _)
    refine ⟨_, exec_runAllowanceExpiry hw n, State.outputActive_of_not_on ?_, ?_, ?_, ?_, (expireRun_work s n).moved,
      fun m hm hmo => ?_, hrest, fun hx => ⟨?_, ?_⟩, fun hx => ⟨?_, ?_⟩⟩
    · rw [show (s.expireRun n).channelState n = _ from hst]
      cases s.exempt n <;> rfl
    · rw [State.entryOf_eq_none_iff, hv, ChannelView.entry_off]
      exact State.entryOf_eq_none_iff.1 hnone
    · rw [he, judge_enqueueCount, State.switchOff_claims]
    · rw [he, judge_judge]
    · exact State.channel_of_view ((QuietAt.expireRun hm s).2 (.inl hmo))
    · rw [show (s.expireRun n).channelState n = _ from hst, hx]
      rfl
    · rw [show (s.expireRun n).line.offers.releases[n] = _ from congrArg ChannelView.release hv,
        ChannelView.release_off, hx]
      rfl
    · rw [show (s.expireRun n).channelState n = _ from hst, hx]
      rfl
    · rw [he, judge_releases, State.switchOff_exempt_releases hx]
  · have hself := State.view_setChannel_self s n { s.channel n with rest := 0 }
    refine ⟨_, exec_restEnd hw hr, rfl, ?_, judge_judge _,
      (judge_work (s.setChannel n { s.channel n with rest := 0 })).moved, fun m hm hmo => ?_⟩
    · have hq := QuietAt.judge n (s.setChannel n { s.channel n with rest := 0 })
      refine hq.1.trans ?_
      exact congrArg (fun v => v.channel.rest) hself
    · have hv := State.view_setChannel_ne s { s.channel n with rest := 0 } hm
      have hq := QuietAt.judge m (s.setChannel n { s.channel n with rest := 0 })
      have hoff : (s.setChannel n { s.channel n with rest := 0 }).channelState m ≠ .off := by
        rw [State.channelState_of_view hv]
        exact hmo
      exact (State.channel_of_view (hq.2 (.inl hoff))).trans (State.channel_of_view hv)
  · have core := ((queueInv_iff s).1 hinv).toQueueCore
    refine ⟨judge_queue_sublist s, fun n hn => (judge_of_no_entry hn).1, fun e he => ⟨fun hx h => judge_serves core hw he hx h,
      fun hx h => ?_, fun hx h => ?_⟩, fun before e after hq hb he hs ho hfit => ?_, fun h => ?_⟩
    · have hready : s.ready e.channel = false := Bool.eq_false_iff.2 fun hr => h ((s.ready_iff _).1 hr)
      exact judge_leaves_entry he (servable_of_not_ready hready) (takes_ne_of_not_ready hready)
    · exact judge_leaves_entry he (servable_of_budgeted (budgeted_iff.2 hx)) (takes_ne_of_not_meetsR41 core he h)
    · have ht := takes_of_first hq hb he hs ho hfit
      have hc := judge_claims s
      have hl := judge_line s
      rw [ht] at hc hl
      refine ⟨by rw [hc]; rfl, by rw [judge_channel_eq, if_pos ⟨e, ht, rfl⟩], by rw [hl], ?_, fun x hx hxw => ?_⟩
      · rw [State.entryOf_eq, hc]
        exact entryIn_removeEntry_self _ _
      · have hne : e.channel ≠ x.channel := by
          have hnd := core.unit.channels
          rw [hq, List.map_append, List.map_cons] at hnd
          have hcons := (List.nodup_append.1 hnd).2.1
          exact fun hex => (List.nodup_cons.1 hcons).1 (List.mem_map.2 ⟨x, hx, hex.symm⟩)
        refine judge_leaves_entry (by rw [hq]; simp [hx]) (servable_of_budgeted (budgeted_iff.2 hxw)) ?_
        intro y hy
        rw [ht] at hy
        cases hy
        exact hne
    · have ht := takes_eq_none h
      have hc := judge_claims s
      have hl := judge_line s
      rw [ht] at hc hl
      refine ⟨by rw [hc], hl, fun e he hx => judge_leaves_entry he (servable_of_budgeted (budgeted_iff.2 hx)) ?_⟩
      rw [ht]
      exact nofun

end Sys2Proof.Machine
end

section
/-! PROOFS. The input unit: the tick divider, the debounce, and what a taken level leads to (O55). -/

namespace Sys2Proof.Machine

/-! ## The tick divider (R106) -/

theorem tickPeriod_count {s : State} (h : s.tickDivider < 511) :
    s.tickPeriod = { s with tickDivider := s.tickDivider + 1, ticked := false } := by
  unfold State.tickPeriod
  exact if_neg (by change ¬ 512 ≤ _; omega)

theorem tickPeriod_tick {s : State} (h : s.tickDivider = 511) :
    s.tickPeriod = { s with tickDivider := 0, ticked := true }.tick := by
  unfold State.tickPeriod
  exact if_pos (by rw [h])

theorem tickPeriod_iterate {s : State} (h : s.tickDivider = 0) (k : Nat) (hk : k < 511) :
    State.tickPeriod^[k + 1] s = { s with tickDivider := k + 1, ticked := false } := by
  induction k with
  | zero =>
    change s.tickPeriod = _
    rw [tickPeriod_count (by rw [h]; decide), h]
  | succ k ih =>
    rw [Function.iterate_succ_apply', ih (by omega), tickPeriod_count (by change k + 1 < 511; omega)]

/-! ## The level-inhibit mask (R96, R139) -/

theorem getLsbD_foldl_or {α : Type} (f : α → GroupMask) (l : List α) (m : GroupMask) (i : Nat) :
    (l.foldl (fun m a => m ||| f a) m).getLsbD i = true ↔ m.getLsbD i = true ∨ ∃ a ∈ l, (f a).getLsbD i = true := by
  induction l generalizing m with
  | nil => simp
  | cons a l ih =>
    rw [List.foldl_cons, ih, BitVec.getLsbD_or, Bool.or_eq_true]
    simp only [List.mem_cons, exists_eq_or_imp, or_assoc]

theorem holdsGroups_iff {i : InputSettings} {taken : Option Bool} {g : GroupIx} :
    (holdsGroups i taken).getLsbD g.val = true ↔
      ∃ (activeHigh : Bool) (d : Nat) (groups : GroupMask),
        i = .levelInhibit activeHigh d groups ∧ groups.getLsbD g.val = true ∧ taken = some activeHigh := by
  cases i with
  | unused => simp [holdsGroups]
  | edge select d action => simp [holdsGroups]
  | levelInhibit activeHigh d groups =>
    cases taken with
    | none => simp [holdsGroups]
    | some level =>
      by_cases hl : level = activeHigh
      · simp [holdsGroups, hl]
      · simp [holdsGroups, hl]

theorem levelMask_iff (settings : Vector InputSettings 8) (inputs : Vector InputState 8) (g : GroupIx) :
    (levelMask settings inputs).getLsbD g.val = true ↔
      ∃ (n : InputIx) (activeHigh : Bool) (d : Nat) (groups : GroupMask),
        settings[n] = .levelInhibit activeHigh d groups ∧ groups.getLsbD g.val = true ∧
          inputs[n].taken = some activeHigh := by
  unfold levelMask
  rw [getLsbD_foldl_or, show BitVec.getLsbD (0 : GroupMask) g.val = false from BitVec.getLsbD_zero]
  simp only [Bool.false_eq_true, false_or, mem_allEight, true_and, holdsGroups_iff]

/-! ## A read (R135) -/

/-- What a read leaves of an input: the four cases of R135. -/
def InputState.read (i : InputState) (d : Nat) (taken level : Bool) : InputState :=
  if i.debounce = 0 then
    if level = taken then i
    else if d = 0 then { taken := some level, debounce := 0 } else { taken := some taken, debounce := d }
  else if level = taken then { taken := some taken, debounce := 0 }
  else if i.debounce = 1 then { taken := some level, debounce := 0 }
  else { taken := some taken, debounce := i.debounce - 1 }

theorem setInput_self (s : State) (n : InputIx) : s.setInput n s.inputs[n] = s := by
  have h : s.inputs.set n s.inputs[n] = s.inputs := Vector.set_getElem_self n.isLt
  unfold State.setInput
  rw [h]

/-- A read keeps the taken level, or takes the level read (R135). -/
theorem readInput_cases {s : State} {n : InputIx} {d : Nat} {taken : Bool} (hw : s.member.state.working = true)
    (hd : (s.inputSettings n).debounce? = some d) (ht : s.inputs[n].taken = some taken) (high : Bool) :
    (s.readInput n high = s.setInput n (s.inputs[n].read d taken high) ∧
        (s.inputs[n].read d taken high).taken = some taken) ∨
      (s.readInput n high = s.takeLevel n high ∧ s.inputs[n].read d taken high = { taken := some high, debounce := 0 } ∧
        high ≠ taken) := by
  unfold State.readInput InputState.read
  rw [if_pos hw, hd, ht]
  dsimp only
  by_cases h0 : s.inputs[n].debounce = 0
  · rw [if_pos h0, if_pos h0]
    by_cases hl : high = taken
    · rw [if_pos hl, if_pos hl, setInput_self]
      exact .inl ⟨rfl, ht⟩
    · rw [if_neg hl, if_neg hl]
      by_cases hd0 : d = 0
      · rw [if_pos hd0, if_pos hd0]
        exact .inr ⟨rfl, rfl, hl⟩
      · rw [if_neg hd0, if_neg hd0]
        exact .inl ⟨rfl, rfl⟩
  · rw [if_neg h0, if_neg h0]
    by_cases hl : high = taken
    · rw [if_pos hl, if_pos hl]
      exact .inl ⟨rfl, rfl⟩
    · rw [if_neg hl, if_neg hl]
      by_cases h1 : s.inputs[n].debounce = 1
      · rw [if_pos h1, if_pos h1]
        exact .inr ⟨rfl, rfl, hl⟩
      · rw [if_neg h1, if_neg h1]
        exact .inl ⟨rfl, rfl⟩

/-! ## A level taken (R135, R136, R139) -/

theorem EdgeSelect.acts_iff (e : EdgeSelect) (high : Bool) : e.acts high = true ↔ e.selectsChange high := by
  cases e <;> cases high <;> simp [EdgeSelect.acts, EdgeSelect.selectsChange]

/-- The level taken leads to its edge's action or to the level-inhibit mask. -/
theorem takeLevel_follows (s : State) (n : InputIx) (high : Bool) :
    (s.setInput n { taken := some high, debounce := 0 }).followsLevel n high (s.takeLevel n high) := by
  have hset : (s.setInput n { taken := some high, debounce := 0 }).inputSettings n = s.inputSettings n := rfl
  unfold State.followsLevel
  rw [hset]
  generalize hu : s.setInput n { taken := some high, debounce := 0 } = u
  unfold State.takeLevel
  rw [hu]
  refine ⟨fun select d action he => ?_, fun a d groups he => ?_⟩
  · rw [he]
    dsimp only
    exact ⟨fun h => if_pos ((select.acts_iff high).2 h), fun h => if_neg fun hc => h ((select.acts_iff high).1 hc)⟩
  · rw [he]
    rfl

theorem MaskWork.inputs {s t : State} (h : MaskWork s t) : t.inputs = s.inputs := by rw [← h]

theorem followLevels_inputs (s : State) : s.followLevels.inputs = s.inputs := (changeMasks_work s _).inputs

theorem takeLevel_inputs {s : State} {n : InputIx} {d : Nat} (hd : (s.inputSettings n).debounce? = some d)
    (high : Bool) : (s.takeLevel n high).inputs = s.inputs.set n { taken := some high, debounce := 0 } := by
  unfold State.takeLevel
  split
  · rename_i hu
    rw [hu] at hd
    cases hd
  · split
    · exact performEdge_inputs _ _
    · rfl
  · exact followLevels_inputs _

theorem takeLevel_masks {s : State} {n : InputIx} {active : Bool} {d : Nat} {groups : GroupMask}
    (h : s.inputSettings n = .levelInhibit active d groups) (high : Bool) :
    (s.takeLevel n high).masks = { s.masks with
      level := levelMask s.settings.inputs (s.inputs.set n { taken := some high, debounce := 0 }) } := by
  have he : s.takeLevel n high = (s.setInput n { taken := some high, debounce := 0 }).changeMasks
      { s.masks with level := levelMask s.settings.inputs (s.inputs.set n { taken := some high, debounce := 0 }) } :=
    (takeLevel_follows s n high).2 active d groups h
  rw [he, changeMasks_eq]
  have hw := (masked_work (s.setInput n { taken := some high, debounce := 0 })
    { s.masks with level := levelMask s.settings.inputs (s.inputs.set n { taken := some high, debounce := 0 }) }).trans
    (judge_work _)
  exact hw.masks

theorem readInput_inputs {s : State} {n : InputIx} {d : Nat} {taken : Bool} (hw : s.member.state.working = true)
    (hd : (s.inputSettings n).debounce? = some d) (ht : s.inputs[n].taken = some taken) (high : Bool) :
    (s.readInput n high).inputs = s.inputs.set n (s.inputs[n].read d taken high) := by
  rcases readInput_cases hw hd ht high with ⟨h, -⟩ | ⟨h, hr, -⟩
  · rw [h]
    rfl
  · rw [h, hr, takeLevel_inputs hd]

/-- A read of one input leaves the others. -/
theorem readInput_inputs_ne (s : State) {m n : InputIx} (h : n ≠ m) (high : Bool) :
    (s.readInput m high).inputs[n] = s.inputs[n] := by
  have ne (i : InputState) : (s.inputs.set m i)[n] = s.inputs[n] := by
    simp only [Fin.getElem_fin]
    exact Vector.getElem_set_ne _ _ fun hh => h (Fin.ext hh.symm)
  unfold State.readInput
  split
  · split
    · rename_i d level hd _
      have taken : (s.takeLevel m high).inputs[n] = s.inputs[n] :=
        (congrArg (fun v : Vector InputState 8 => v[n]) (takeLevel_inputs hd high)).trans (ne _)
      repeat' split
      all_goals first | exact ne _ | rfl | exact taken
    · rfl
  · rfl

/-! ## A tick's read -/

theorem tickBeacon_tickMute_inputs (s : State) : s.tickBeacon.tickMute.inputs = s.inputs := by
  have hb : s.tickBeacon.inputs = s.inputs := by
    unfold State.tickBeacon
    repeat' split
    all_goals rfl
  rw [← hb]
  generalize s.tickBeacon = t
  unfold State.tickMute
  split
  · split
    · rw [leaveMute_frame]
    · rfl
  · rfl

theorem foldl_readInput_inputs {l : List InputIx} {n : InputIx} (h : n ∉ l) (pins : Vector Bool 8) (s : State) :
    (l.foldl (fun t m => t.readInput m pins[m]) s).inputs[n] = s.inputs[n] := by
  induction l generalizing s with
  | nil => rfl
  | cons m l ih =>
    rw [List.foldl_cons, ih fun hm => h (List.mem_cons_of_mem m hm)]
    exact readInput_inputs_ne s (fun hn => h (by rw [hn]; exact List.mem_cons_self)) _

theorem tick_inputs {s : State} {n : InputIx} {d : Nat} {taken : Bool} (hw : s.member.state.working = true)
    (hd : (s.inputSettings n).debounce? = some d) (ht : s.inputs[n].taken = some taken) :
    s.tick.inputs[n] = s.inputs[n].read d taken s.pins[n] := by
  obtain ⟨before, after, hl⟩ := List.append_of_mem (mem_allEight n)
  have hnodup := allEight_nodup
  rw [hl] at hnodup
  have hb : n ∉ before := fun hm => (List.nodup_append.1 hnodup).2.2 n hm n List.mem_cons_self rfl
  have ha : n ∉ after := (List.nodup_cons.1 (List.nodup_append.1 hnodup).2.1).1
  have hrested := tickRested_work s
  have hri : s.tickRested.inputs = s.inputs := by rw [← hrested]
  have hbefore := InputWork.foldl (fun t (m : InputIx) => readInput_work t m s.pins[m]) before s.tickRested
  have hsame := foldl_readInput_inputs hb s.pins s.tickRested
  rw [tick_of_working hw, tickBeacon_tickMute_inputs]
  unfold State.tickRead
  rw [hl, List.foldl_append, List.foldl_cons, foldl_readInput_inputs ha]
  generalize before.foldl (fun t m => t.readInput m s.pins[m]) s.tickRested = t at *
  have hin : t.inputs[n] = s.inputs[n] := by rw [hsame, hri]
  have hset : t.inputSettings n = s.inputSettings n := by
    unfold State.inputSettings
    rw [hbefore.settings, hrested.settings]
  rw [readInput_inputs (by rw [hbefore.member, hrested.member]; exact hw) (by rw [hset]; exact hd)
    (by rw [hin]; exact ht), hin]
  simp only [Fin.getElem_fin, Vector.getElem_set_self]

/-! ## The input commands -/

theorem exec_inputLevelChange_ticks {s : State} {n : InputIx} {high : Bool} (h : s.tickDivider ≠ 0 ∨ s.ticked = true) :
    exec (.inputLevelChange n high) s = .next (s.setPin n high) := by
  refine congrArg Host.Outcome.next (if_neg ?_)
  unfold State.readsByCommand
  rcases h with h | h
  · simp [h]
  · simp [h]

theorem exec_inputLevelChange_reads {s : State} {n : InputIx} {high : Bool} (h0 : s.tickDivider = 0)
    (ht : s.ticked = false) :
    exec (.inputLevelChange n high) s = .next ((s.setPin n high).noticeLevel n high) := by
  refine congrArg Host.Outcome.next (if_pos ?_)
  unfold State.readsByCommand
  simp [h0, ht]

/-- Settles O55. -/
theorem inputsAreDebounced : Obligations.InputsAreDebounced := by
  refine ⟨fun s => ⟨tickPeriod_count, tickPeriod_tick, fun h0 => ⟨fun k hk hlt => ?_, ?_⟩⟩, levelMask_iff,
    fun s n d taken high hw hd ht => ?_, fun _ _ _ _ _ => rfl, fun _ _ _ _ _ _ => rfl, fun _ _ => ⟨rfl, rfl⟩⟩
  · obtain ⟨j, rfl⟩ : ∃ j, k = j + 1 := ⟨k - 1, by omega⟩
    exact tickPeriod_iterate h0 j (by omega)
  · rw [Function.iterate_succ_apply' State.tickPeriod 511, tickPeriod_iterate h0 510 (by decide), tickPeriod_tick rfl]
  · intro read
    have hread : read = s.inputs[n].read d taken := rfl
    have hcases := readInput_cases hw hd ht high
    have hfollow := takeLevel_follows s n high
    have hinputs := readInput_inputs hw hd ht high
    rw [hread]
    refine ⟨tick_inputs hw hd ht, hinputs, fun hk => ?_, fun hk => ?_, exec_inputLevelChange_ticks,
      fun h0 htick => ⟨fun hdb hne => ?_, fun hdb => ?_⟩, fun hdb hne => ?_⟩
    · rcases hcases with ⟨h, -⟩ | ⟨-, h, hne⟩
      · exact h
      · rw [h] at hk
        cases hk
        exact absurd rfl hne
    · rcases hcases with ⟨-, h⟩ | ⟨he, h, -⟩
      · exact absurd h hk
      · rw [he, h]
        exact hfollow
    · rw [exec_inputLevelChange_reads h0 htick]
      refine congrArg Host.Outcome.next (if_pos ⟨hdb, ?_⟩)
      intro h
      exact hne (Option.some.inj (h.symm.trans ht))
    · have he : (s.setPin n high).noticeLevel n high = (s.setPin n high).readInput n high := by
        refine if_neg fun ⟨h1, h2⟩ => ?_
        rcases hdb with h | h
        · exact h1 h
        · exact h2 (by rw [h]; exact ht)
      have hexec := exec_inputLevelChange_reads (n := n) (high := high) h0 htick
      rw [he] at hexec
      have hwork := readInput_work (s.setPin n high) n high
      have hin := readInput_inputs (s := s.setPin n high) hw hd ht high
      refine ⟨hexec, _, hexec, ?_⟩
      generalize (s.setPin n high).readInput n high = t at *
      refine ⟨by rw [← hwork]; rfl, ?_, hin⟩
      rw [← hwork]
      rfl
    · have hexec : exec (.debounceExpiry n) s = .next (s.takeLevel n s.pins[n]) := by
        refine congrArg Host.Outcome.next (if_pos ?_)
        have hpin : some taken = some (!s.pins[n]) := congrArg some (Bool.eq_not.2 (Ne.symm hne))
        rw [hw, ht, hpin]
        simpa using hdb
      have hwork := takeLevel_work s n s.pins[n]
      have hin := takeLevel_inputs hd s.pins[n]
      have hf := takeLevel_follows s n s.pins[n]
      refine ⟨_, hexec, hin, ?_, ?_, fun active k groups hl => ?_⟩
      · generalize s.takeLevel n s.pins[n] = t at *
        rw [← hwork]
      · rw [hin]
        exact hf
      · rw [takeLevel_masks hl, hin]

end Sys2Proof.Machine
end

section
/-! PROOFS. The acceptance of an own frame (O37). -/

namespace Sys2Proof.Machine

/-! ## What a kind's effects leave -/

/-- From s to t a frame's effects have gone on: settings, line, commands and inputs stand, of the offers the command's
stands, and no BEACON offer is placed. -/
structure FrameEffects (s t : State) : Prop where
  eq : t = { s with
    table := t.table, claims := t.claims, member := t.member, channels := t.channels, masks := t.masks
    calendar := t.calendar, lastMinute := t.lastMinute, line := { s.line with offers := t.line.offers }
    report := t.report }
  command : t.line.offers.command = s.line.offers.command
  beacon : s.line.offers.beacon = false → t.line.offers.beacon = false

namespace FrameEffects

variable {s t u : State}

theorem refl (s : State) : FrameEffects s s := ⟨rfl, rfl, id⟩

theorem trans (h : FrameEffects s t) (k : FrameEffects t u) : FrameEffects s u := by
  obtain ⟨h1, h2, h3⟩ := h
  obtain ⟨k1, k2, k3⟩ := k
  refine ⟨?_, k2.trans h2, fun hb => k3 (h3 hb)⟩
  rw [h1] at k1
  exact k1

theorem of_move (hm : Move s t) : FrameEffects s t := by
  have hw := hm.work
  refine ⟨?_, ?_, ?_⟩
  · rw [← hw]
  · cases hm with
    | serve e => unfold State.serveEntry; split <;> rfl
    | _ => rfl
  · cases hm with
    | serve e => unfold State.serveEntry; split <;> exact id
    | _ => exact id

theorem of_moves (h : Moves s t) : FrameEffects s t :=
  Moves.keeps (P := FrameEffects s) (fun _ _ hm hs => hs.trans (.of_move hm)) h (.refl s)

theorem changeMasks (s : State) (m : InhibitMasks) : FrameEffects s (s.changeMasks m) :=
  FrameEffects.trans (t := s.setMasks m) ⟨rfl, rfl, id⟩ (of_moves (changeMasks_moves s m))

theorem settleAdmitted (s : State) (o : OutstandingClaim) (b : Bool) : FrameEffects s (s.settleAdmitted o b) := by
  have hw := settleAdmitted_work s o b
  refine ⟨by rw [← hw], settleAdmitted_command s o b, fun h => ?_⟩
  unfold State.settleAdmitted State.requeue
  dsimp only
  repeat' split
  all_goals exact h

/-- The frames' effects are made of such steps. -/
theorem effects (s : State) : Effects (FrameEffects s) where
  move _ _ hm h := h.trans (.of_move hm)
  table _ _ h := h.trans ⟨rfl, rfl, id⟩
  member _ _ h _ := h.trans ⟨rfl, rfl, id⟩
  changeMasks _ _ h := h.trans (changeMasks _ _)
  diverge _ h ho := confirmDivergence_keeps (P := FrameEffects s) (fun _ _ hm h => h.trans (.of_move hm))
    (fun _ _ h => h.trans ⟨rfl, rfl, id⟩) (fun _ _ h => h.trans ⟨rfl, rfl, id⟩)
    (fun _ _ h => h.trans ⟨rfl, rfl, id⟩) ho h
  beaconOffer _ h := h.trans ⟨rfl, rfl, fun _ => rfl⟩
  faults _ _ h := h.trans ⟨rfl, rfl, id⟩
  voided _ h := h.trans ⟨rfl, rfl, id⟩
  promote _ _ _ h _ := h.trans ⟨rfl, rfl, id⟩
  settle _ o b h _ := h.trans (settleAdmitted _ o b)

theorem adjustTime (s : State) (v : CalendarValue) (restart : Bool) : FrameEffects s (s.adjustTime v restart) :=
  adjustTime_keeps (P := FrameEffects s)
    (fun t a h => runAction_keeps (P := FrameEffects s) (fun _ _ hm h => h.trans (.of_moves hm))
      (fun _ _ h => h.trans (changeMasks _ _)) t a h)
    (fun _ _ h => h.trans ⟨rfl, rfl, id⟩) (fun _ _ h => h.trans ⟨rfl, rfl, id⟩) (fun _ _ h => h.trans ⟨rfl, rfl, id⟩)
    (fun _ h => h.trans ⟨rfl, rfl, id⟩) v restart (.refl s)

theorem actOnGroup (s : State) (a : DemandAction) (g : GroupIx) (cls : Machine.Class) (duration : Nat) :
    FrameEffects s (s.actOnGroup a g cls duration) := by
  unfold State.actOnGroup
  generalize allEight = l
  induction l generalizing s with
  | nil => exact .refl s
  | cons n l ih =>
    refine FrameEffects.trans ?_ (ih _)
    dsimp only
    split
    · exact of_moves (act_moves s a n cls duration)
    · exact .refl s

end FrameEffects

/-- An acceptance command's effects, of whatever kind. -/
theorem exec_accepted {c : Instr} {f : Frame} (h : acceptedFrame c = some f) :
    ∃ effects : Bool → State → State, (∀ s, exec c s = .next (s.acceptFrame f effects)) ∧
      ∀ own s, s.member.state.online = true → s.line.activity = .counting → FrameEffects s (effects own s) := by
  cases c with
  | beaconAccepted head p =>
    cases h
    refine ⟨_, fun _ => rfl, fun own s ho ha => ?_⟩
    have hset := (FrameEffects.effects s).beaconSettled (beaconFields p) head.source.toNat own
      (by unfold State.drivesLine; rw [ha]) ho (.refl s)
    rw [applyBeacon_eq]
    split
    · exact hset.trans (.adjustTime _ _ _)
    · exact hset
  | claimAccepted head p =>
    cases h
    exact ⟨_, fun _ => rfl, fun own s _ _ => (FrameEffects.effects s).applyClaim _ _ _ _ _ _ (.refl s)⟩
  | releaseAccepted head p =>
    cases h
    exact ⟨_, fun _ => rfl, fun own s _ _ => (FrameEffects.effects s).applyRelease _ _ _ (.refl s)⟩
  | renewAccepted head p =>
    cases h
    refine ⟨_, fun _ => rfl, fun own s _ _ => ?_⟩
    rw [applyRenew_eq]
    exact FrameEffects.trans (t := s.setTable (s.renewedTable head.source.toNat p)) ⟨rfl, rfl, id⟩ (.of_moves (judge_moves _))
  | inhibitAccepted head p =>
    cases h
    exact ⟨_, fun _ => rfl, fun own s _ _ => .changeMasks _ _⟩
  | timesetAccepted head p =>
    cases h
    exact ⟨_, fun _ => rfl, fun own s _ _ => .adjustTime _ _ _⟩
  | demandAccepted head p =>
    cases h
    refine ⟨_, fun _ => rfl, fun own s _ _ => ?_⟩
    unfold State.applyDemand
    split
    · split
      · exact .actOnGroup _ _ _ _ _
      · split
        · exact .of_moves (act_moves _ _ _ _ _)
        · exact .refl s
    · exact .refl s
  | queryAccepted head p =>
    cases h
    refine ⟨_, fun _ => rfl, fun own s _ _ => ?_⟩
    unfold State.applyQuery
    split
    · exact ⟨rfl, rfl, id⟩
    · exact .refl s
  | reportAccepted head p =>
    cases h
    exact ⟨_, fun _ => rfl, fun own s _ _ => .refl s⟩
  | undefinedKindAccepted head k p =>
    cases h
    exact ⟨_, fun _ => rfl, fun own s _ _ => .refl s⟩
  | _ => cases h

/-! ## The station once its own frame has been accepted -/

/-- The kind of an accepted frame tells its command. -/
theorem acceptedFrame_kind {c : Instr} {f : Frame} (h : acceptedFrame c = some f) :
    (f.kind = kindRenew → ∃ head p, c = .renewAccepted head p) ∧
      (f.kind = kindClaim → ∃ head p, c = .claimAccepted head p) ∧
      (f.kind = kindRelease → ∃ head p, c = .releaseAccepted head p) ∧
      (f.kind = kindReport → ∃ head p, c = .reportAccepted head p) := by
  cases c with
  | undefinedKindAccepted head k p =>
    cases h
    have hne : BitVec.ofNat 4 (9 + k.val) ≠ kindRenew ∧ BitVec.ofNat 4 (9 + k.val) ≠ kindClaim ∧
        BitVec.ofNat 4 (9 + k.val) ≠ kindRelease ∧ BitVec.ofNat 4 (9 + k.val) ≠ kindReport := by
      revert k
      decide
    obtain ⟨h1, h2, h3, h4⟩ := hne
    exact ⟨fun hk => absurd hk h1, fun hk => absurd hk h2, fun hk => absurd hk h3, fun hk => absurd hk h4⟩
  | _ =>
    cases h <;> refine ⟨fun hk => ?_, fun hk => ?_, fun hk => ?_, fun hk => ?_⟩ <;>
      first | exact ⟨_, _, rfl⟩ | exact absurd hk (by simp only [frameOf]; decide)

/-- The line of a station whose own frame has been accepted. -/
theorem afterFrame_own_line (s : State) (f : Frame) (o : Offer) :
    (s.afterFrame f (some o)).line =
      { s.line with
        activity := .counting, idleCount := 0, buffer := f.bits ++ [true], vetoStreak := 0, sendStreak := 0
        courtesyGap := true, offers := (s.afterFrame f (some o)).line.offers } := by
  have hc := (countJudgements_frame (s.lineAccepted f) f).1
  have he := endOwnAttempt_frame ((s.lineAccepted f).countJudgements f) o
  unfold State.afterFrame
  dsimp only
  generalize ((s.lineAccepted f).countJudgements f).endOwnAttempt o = t at *
  rw [he, hc]
  rfl

/-- What the end of an own attempt does to its own offer (R183). -/
theorem afterFrame_own_offer (s : State) (f : Frame) :
    (s.afterFrame f (some .beacon)).line.offers.beacon = false ∧
      (s.afterFrame f (some .renew)).line.offers.renew = false ∧
      (s.afterFrame f (some .report)).line.offers.report = false ∧
      (s.afterFrame f (some .report)).report.attempts = 0 ∧
      (s.afterFrame f (some .claim)).line.offers.claim = false ∧
      (s.afterFrame f (some .command)).commands = { queue := s.commands.queue.tail, headAttempts := 0 } ∧
      (s.afterFrame f (some .command)).line.offers.command = !s.commands.queue.tail.isEmpty := by
  have hc : ((s.lineAccepted f).countJudgements f).commands = s.commands := by
    rw [(countJudgements_frame (s.lineAccepted f) f).1]
    rfl
  unfold State.afterFrame
  generalize (s.lineAccepted f).countJudgements f = t at *
  rw [← hc]
  exact ⟨rfl, rfl, rfl, rfl, rfl, rfl, rfl⟩

/-- A frame of the own profile raises no count. -/
theorem afterFrame_own_ofProfile {s : State} {f : Frame} (hp : s.ofProfile f) (hk : f.kind.toNat < 9) (o : Offer) :
    s.passesJudgements f = true ∧ s.afterFrame f (some o) = (s.lineAccepted f).endOwnAttempt o := by
  obtain ⟨hj, hc⟩ := judgements_ofProfile hp hk
  refine ⟨hj, ?_⟩
  unfold State.afterFrame
  dsimp only
  rw [hc]

/-- The acceptance of an own frame: the attempt ended, and its kind's effects or the judgement. -/
theorem exec_own_accepted {c : Instr} {f : Frame} {o : Offer} {s : State} (hc : acceptedFrame c = some f)
    (ho : s.member.state.online = true) (ha : s.line.activity = .transmitting o f) :
    ∃ t, exec c s = .next t ∧ FrameEffects (s.afterFrame f (some o)) t := by
  obtain ⟨effects, he, hf⟩ := exec_accepted hc
  have hexec := (he s).trans (congrArg _ (acceptFrame_own effects ho ha))
  by_cases hj : s.passesJudgements f = true
  · rw [if_pos hj] at hexec
    refine ⟨_, hexec, hf true _ ?_ (afterFrame_activity s f (some o))⟩
    rw [afterFrame_member]
    exact ho
  · rw [if_neg hj] at hexec
    exact ⟨_, hexec, .of_moves (judge_moves _)⟩

/-- A STOPPING channel whose own RELEASE is accepted goes OFF (R86 (1)). -/
theorem endOwnAttempt_release {s : State} {n : ChannelIx} (h : s.channelState n = .stopping) :
    (s.endOwnAttempt (.release n)).channelState n = .off ∧
      (s.endOwnAttempt (.release n)).line.offers.releases[n] = false := by
  have he : s.endOwnAttempt (.release n) =
      (s.setLine { s.line with sendStreak := 0, courtesyGap := true }).endStopping n := if_pos h
  have hv := State.view_endStopping_self (s.setLine { s.line with sendStreak := 0, courtesyGap := true }) n
  rw [← he] at hv
  exact ⟨(congrArg (fun v => v.channel.state) hv).trans rfl, (congrArg ChannelView.release hv).trans rfl⟩

/-- The kind's own effects at an own acceptance. -/
theorem own_accepted_eq {c : Instr} {f : Frame} {o : Offer} {s t : State} {effects : Bool → State → State}
    (ho : s.member.state.online = true) (ha : s.line.activity = .transmitting o f) (he : exec c s = .next t)
    (hc : exec c s = .next (s.acceptFrame f effects)) :
    t = if s.passesJudgements f then effects true (s.afterFrame f (some o)) else (s.afterFrame f (some o)).judge := by
  rw [acceptFrame_own effects ho ha, he] at hc
  exact Host.Outcome.next.inj hc

/-! ## An own CLAIM and an own RELEASE -/

theorem judge_renewOffer (s : State) : s.judge.line.offers.renew = s.line.offers.renew := by
  rw [judge_line]
  split <;> rfl

theorem judge_reportOffer (s : State) : s.judge.line.offers.report = s.line.offers.report := by
  rw [judge_line]
  split <;> rfl

/-- A claim offered after a judgement, where none was offered before it, has just been taken up. -/
theorem claim_of_judge {s : State} (h : s.line.offers.claim = false) (hj : s.judge.line.offers.claim = true) :
    ∃ c, s.judge.claims.outstanding = some c ∧ c.attempts = 0 ∧ c.inFlight = false ∧ c.stopNote = false := by
  have hc := judge_claims s
  rw [judge_line] at hj
  cases ht : s.takes with
  | none =>
    rw [ht] at hj
    exact absurd (h.symm.trans hj) nofun
  | some e =>
    rw [ht] at hc
    rw [hc]
    exact ⟨_, rfl, rfl, rfl, rfl⟩

theorem giveSheds_claimOffer (s : State) (victims : List (Nat × ChannelIx)) :
    (s.giveSheds victims).line.offers.claim = s.line.offers.claim := by
  have shed (t : State) (n : ChannelIx) : (t.ownShed n).line.offers.claim = t.line.offers.claim := by
    unfold State.ownShed
    repeat' split
    · rfl
    · rw [requeue_offers]
      exact (switchOff_claimOffer t n).2.1
    · rfl
    · rfl
  unfold State.giveSheds
  induction victims generalizing s with
  | nil => rfl
  | cons v l ih =>
    rw [List.foldl_cons, ih]
    split
    · exact shed s v.2
    · rfl

theorem settleOwnClaim_claimOffer {s : State} (h : s.line.offers.claim = false) (r : ClaimResult) (c : ChannelIx) :
    (s.settleOwnClaim r c).line.offers.claim = false := by
  have admitted (o : OutstandingClaim) (b : Bool) : (s.settleAdmitted o b).line.offers.claim = false := by
    unfold State.settleAdmitted
    dsimp only
    repeat' split
    · exact h
    · rw [requeue_offers]
      exact h
    · exact h
    · exact h
  have refused (t : State) (o : OutstandingClaim) : (t.settleRefused o).line.offers.claim = false := by
    unfold State.settleRefused
    split <;> rfl
  unfold State.settleOwnClaim
  repeat' split
  all_goals first | exact admitted _ _ | exact refused _ _ | exact h

/-- After an own CLAIM's evaluation a claim that stands offered is a new one (R45, R48). -/
theorem applyClaim_offers {s : State} (h : s.line.offers.claim = false) (source : Nat) (cls : Machine.Class)
    (c : ChannelIx) (units : Nat) (d : Bool)
    (hj : (State.applyClaim source cls c units d true s).line.offers.claim = true) :
    ∃ k, (State.applyClaim source cls c units d true s).claims.outstanding = some k ∧ k.attempts = 0 ∧
      k.inFlight = false ∧ k.stopNote = false := by
  rcases applyClaim_cases source cls c units d true s with ⟨-, he⟩ | ⟨-, -, he⟩
  · rw [he, h] at hj
    cases hj
  · rw [if_pos rfl] at he
    rw [he] at hj ⊢
    refine claim_of_judge ?_ hj
    have hs : (((s.setTable (s.evaluated source cls c units d).table).giveSheds
        (s.evaluated source cls c units d).victims).settleOwnClaim
          (s.evaluated source cls c units d).result c).line.offers.claim = false :=
      settleOwnClaim_claimOffer (by rw [giveSheds_claimOffer]; exact h) _ _
    generalize ((s.setTable (s.evaluated source cls c units d).table).giveSheds
        (s.evaluated source cls c units d).victims).settleOwnClaim (s.evaluated source cls c units d).result c = t at *
    unfold State.dropIdleRenew
    split <;> exact hs

/-- The judgement takes no channel to STOPPING. -/
theorem judge_not_stopping {s : State} {n : ChannelIx} (h : s.channelState n ≠ .stopping) :
    s.judge.channelState n ≠ .stopping := by
  unfold State.channelState at *
  rw [judge_channel_eq, serveExempt_channel]
  split
  · nofun
  · split
    · split
      · nofun
      · exact h
    · exact h

theorem findHolding_promotionCheck {holder : Nat} {channel : ChannelIx} {t : List Holding} (budget : Nat)
    (h : findHolding holder channel t = none) : findHolding holder channel (promotionCheck budget t).1 = none := by
  rcases promotionCheck_table budget t with ht | ht <;> rw [ht]
  · exact h
  · rw [findHolding_eq_none] at *
    intro r hr hh hc
    obtain ⟨x, hx, rfl⟩ := List.mem_map.1 hr
    refine h x hx ?_ ?_
    · split at hh <;> exact hh
    · split at hc <;> exact hc

/-- A RELEASE leaves no record of its key, and a channel that is OFF out of STOPPING (R16). -/
theorem applyRelease_off {s : State} {source : Nat} {n : ChannelIx} {own : Bool} (h : s.channelState n = .off)
    (hr : s.line.offers.releases[n] = false) :
    (State.applyRelease source n own s).channelState n ≠ .stopping ∧
      (State.applyRelease source n own s).line.offers.releases[n] = false ∧
      findHolding source n (State.applyRelease source n own s).table = none := by
  rcases applyRelease_cases source n own s with ⟨hf, he⟩ | ⟨-, he⟩
  · rw [he]
    refine ⟨judge_not_stopping (by rw [h]; nofun), by rw [judge_releases]; exact hr, ?_⟩
    rw [(judge_work s).table]
    exact hf
  · have htable : findHolding source n (s.releasedTable source n).1 = none := by
      unfold State.releasedTable
      split
      · exact findHolding_promotionCheck _ (findHolding_removeHolding _ _ _)
      · exact findHolding_removeHolding _ _ _
    have hw : ClaimWork (s.setTable (s.releasedTable source n).1) (State.applyRelease source n own s) := by
      rw [he]
      refine ClaimWork.trans ?_ ((givePromotion_work _ _).trans ((dropIdleRenew_work _).trans (judge_work _)))
      split
      · exact (holdClear_work _).trans (ownReleased_work _ _)
      · exact holdClear_work _
    have hstate : (s.setTable (s.releasedTable source n).1).holdClear.channelState n = .off := h
    have hrel : (s.setTable (s.releasedTable source n).1).holdClear.line.offers.releases[n] = false := hr
    have hsame : (if source = s.ownId then (s.setTable (s.releasedTable source n).1).holdClear.ownReleased n
        else (s.setTable (s.releasedTable source n).1).holdClear) =
        (s.setTable (s.releasedTable source n).1).holdClear := by
      generalize (s.setTable (s.releasedTable source n).1).holdClear = v at *
      split
      · unfold State.ownReleased
        rw [hstate]
        split <;> rfl
      · rfl
    rw [hsame] at he
    refine ⟨?_, ?_, by rw [hw.table]; exact htable⟩
    all_goals
      rw [he]
      generalize (s.setTable (s.releasedTable source n).1).holdClear = v at *
      have hv : (v.givePromotion (s.releasedTable source n).2).dropIdleRenew.view n = v.view n :=
        (State.view_dropIdleRenew _ n).trans (State.view_givePromotion_of_not_pending (by rw [hstate]; nofun))
    · exact judge_not_stopping (by rw [State.channelState_of_view hv, hstate]; nofun)
    · rw [judge_releases]
      exact (State.release_of_view hv).trans hrel

/-! ## An own BEACON -/

/-- The station once its own BEACON has been accepted. -/
theorem afterFrame_own_beacon {s : State} {f : Frame} (hp : s.ofProfile f) (hk : f.kind.toNat < 9) :
    s.afterFrame f (some .beacon) = { s with line := (s.afterFrame f (some .beacon)).line } := by
  rw [(afterFrame_own_ofProfile hp hk .beacon).2]
  rfl

/-- An own BEACON in SYNCED (R56, R59, R61). -/
theorem beaconSettled_own_synced {s : State} (hm : s.member.state = .synced) (b : BeaconFields) (sender : Nat) :
    (s.beaconSettled b sender true).member = { s.member with epoch := b.epoch, beaconTimer := .counting 0 } ∧
      (s.beaconSettled b sender true).report = s.report ∧
      (s.beaconSettled b sender true).masks = s.masks ∧
      (s.beaconSettled b sender true).table =
        (promotionCheck s.settings.budget (liveRecords (ageTable s.table))).1 := by
  have hr := beaconRenewed_work s (s.witnessUpdate b sender true).isNone
  have hwit : s.witnessUpdate b sender true = some s.member.witness := if_pos rfl
  have hj := judge_work ((s.beaconRenewed (s.witnessUpdate b sender true).isNone).beaconSynced b true
    (s.witnessUpdate b sender true))
  rw [beaconSettled_eq, if_pos hm]
  rw [hj.member, hj.report, hj.masks, hj.table]
  generalize s.beaconRenewed (s.witnessUpdate b sender true).isNone = t at *
  rw [hwit]
  refine ⟨?_, hr.report, hr.masks, ?_⟩
  · change { t.member with epoch := b.epoch, witness := s.member.witness } = _
    rw [hr.member]
    rfl
  · refine Eq.trans hr.table ?_
    change s.agedTable.1 = _
    unfold State.agedTable
    rw [if_pos hm]

/-- The join's count at an own BEACON (R67, R68). -/
def State.joinsAlone (s : State) : Prop := s.member.authHeard = false ∧ s.member.beaconsHeard + 1 = s.settings.lease

theorem joinCompletes_own {lease heard : Nat} {auth : Bool} {own carried : TableDigest} :
    joinCompletes lease heard auth false own carried = true ↔ auth = false ∧ heard = lease := by
  unfold joinCompletes
  simp only [Bool.false_and, Bool.false_or, Bool.and_eq_true, decide_eq_true_eq, Bool.not_eq_true', beq_iff_eq]
  exact ⟨fun h => h.2, fun h => ⟨Nat.le_of_eq h.2.symm, h⟩⟩

/-- An own BEACON in LISTENING (R56, R59, R67 to R70). -/
theorem beaconSettled_own_listening {s t : State} (hm : s.member.state = .listening) (b : BeaconFields) (sender : Nat)
    (ht : t = s.beaconSettled b sender true) :
    t.masks = s.masks ∧
      (s.joinsAlone →
        t.member.epoch = b.epoch ∧ t.member.beaconTimer = .counting 0 ∧
        t.member.state = .synced ∧ t.member.witness = none ∧ t.member.joinRetries = 0 ∧
          t.report.faults.joinStalled = false ∧ t.table = liveRecords (ageTable s.table)) ∧
      (¬ s.joinsAlone → 2 * s.settings.lease ≤ s.member.beaconsHeard + 1 →
        t.member.epoch = b.epoch ∧ t.member.beaconTimer = .counting 0 ∧
        t.member.state = .listening ∧ t.table = [] ∧ t.member.beaconsHeard = 0 ∧ t.member.authHeard = false ∧
          t.member.joinRetries = s.member.joinRetries + 1 ∧
          (t.report.faults.joinStalled = true ↔
            s.report.faults.joinStalled = true ∨ 3 ≤ s.member.joinRetries + 1)) ∧
      (¬ s.joinsAlone → s.member.beaconsHeard + 1 < 2 * s.settings.lease →
        t.member = { s.member with
          epoch := b.epoch, beaconTimer := .counting 0, beaconsHeard := s.member.beaconsHeard + 1 } ∧
          t.report = s.report ∧ t.table = liveRecords (ageTable s.table)) := by
  have hns : s.member.state ≠ .synced := by rw [hm]; nofun
  have hr := beaconRenewed_work s false
  have haged : s.agedTable.1 = liveRecords (ageTable s.table) := by
    unfold State.agedTable
    rw [if_neg hns]
  rw [beaconSettled_eq, if_neg hns, beaconListening_eq] at ht
  have hmember : (s.beaconRenewed false).member = { s.member with beaconTimer := .counting 0 } := hr.member
  have hjoin : (s.beaconRenewed false).joinsAt b true (tableDigest s.table) = true ↔ s.joinsAlone := by
    unfold State.joinsAt State.joinsAlone
    rw [hmember, hr.settings, Bool.not_true, Bool.and_false, Bool.or_false]
    exact joinCompletes_own
  have hadopt : (s.beaconRenewed false).beaconAdopted b true = (s.beaconRenewed false).setMember
      { s.member with
        epoch := b.epoch, beaconTimer := .counting 0, beaconsHeard := s.member.beaconsHeard + 1 } := by
    unfold State.beaconAdopted
    rw [hmember, Bool.not_true, Bool.and_false]
    simp only [Bool.or_false, Bool.false_eq_true, ↓reduceIte]
  rw [hadopt, hmember, hr.settings] at ht
  have hreport := hr.report
  have hmasks := hr.masks
  have htable := hr.table.trans haged
  generalize s.beaconRenewed false = u at *
  by_cases hj : s.joinsAlone
  · rw [if_pos (hjoin.2 hj)] at ht
    have hw := judge_work (u.setMember { s.member with
      epoch := b.epoch, beaconTimer := .counting 0, beaconsHeard := s.member.beaconsHeard + 1 }).completeJoin
    rw [← ht] at hw
    refine ⟨by rw [hw.masks]; exact hmasks, fun _ => ?_, fun hn => absurd hj hn, fun hn => absurd hj hn⟩
    rw [hw.member, hw.report, hw.table]
    exact ⟨rfl, rfl, rfl, rfl, rfl, rfl, htable⟩
  · rw [if_neg fun h => hj (hjoin.1 h)] at ht
    by_cases hle : 2 * s.settings.lease ≤ s.member.beaconsHeard + 1
    · rw [if_pos (by exact hle)] at ht
      have hw := (restartJoin_work (u.setMember { s.member with
        epoch := b.epoch, beaconTimer := .counting 0, beaconsHeard := s.member.beaconsHeard + 1 })).trans (judge_work _)
      rw [← ht] at hw
      refine ⟨by rw [hw.masks]; exact hmasks, fun h => absurd h hj, fun _ _ => ?_, fun _ hlt => absurd hle (Nat.not_le.2 hlt)⟩
      rw [hw.member, hw.report, hw.table]
      refine ⟨rfl, rfl, hm, rfl, rfl, rfl, rfl, ?_⟩
      change (u.report.faults.joinStalled || decide (3 ≤ s.member.joinRetries + 1)) = true ↔ _
      rw [hreport, Bool.or_eq_true, decide_eq_true_iff]
      rfl
    · rw [if_neg (by exact hle)] at ht
      have hw := judge_work (u.setMember { s.member with
        epoch := b.epoch, beaconTimer := .counting 0, beaconsHeard := s.member.beaconsHeard + 1 })
      rw [← ht] at hw
      refine ⟨by rw [hw.masks]; exact hmasks, fun h => absurd h hj, fun _ h => absurd h hle, fun _ _ => ?_⟩
      rw [hw.member, hw.report, hw.table]
      exact ⟨rfl, hreport, htable⟩

theorem FrameEffects.reaches {s u t : State} (h : FrameEffects u t)
    (hu : ∃ claims channels commands line report,
      u = { s with claims := claims, channels := channels, commands := commands, line := line, report := report }) :
    t = { s with
      table := t.table, claims := t.claims, member := t.member, channels := t.channels, masks := t.masks
      calendar := t.calendar, lastMinute := t.lastMinute, commands := t.commands, line := t.line
      report := t.report } := by
  obtain ⟨claims, channels, commands, line, report, rfl⟩ := hu
  have hc : t.commands = commands := congrArg State.commands h.eq
  have hl : t.line = { line with offers := t.line.offers } := congrArg State.line h.eq
  refine h.eq.trans ?_
  rw [hc, hl]

/-- Settles O37. -/
theorem ownAcceptanceEndsTheAttempt : Obligations.OwnAcceptanceEndsTheAttempt := by
  intro c f o s hc ho ha
  obtain ⟨t, hexec, heff⟩ := exec_own_accepted hc ho ha
  have hline := afterFrame_own_line s f o
  have hframe := afterFrame_frame s f (some o)
  have hteq := heff.eq
  have htline : t.line = { s.line with
      activity := .counting, idleCount := 0, buffer := f.bits ++ [true], vetoStreak := 0, sendStreak := 0
      courtesyGap := true, offers := t.line.offers } := by
    have h : t.line = { (s.afterFrame f (some o)).line with offers := t.line.offers } := congrArg State.line hteq
    rw [hline] at h
    exact h
  obtain ⟨hrenew, hclaim, hrelease, hreport⟩ := acceptedFrame_kind hc
  refine ⟨t, hexec, by rw [htline], by rw [htline], by rw [htline], by rw [htline], by rw [htline], by rw [htline], ?_,
    fun h => ?_, fun h hk => ?_, fun h hk => ?_, fun h => ?_, fun h hk hoff => ?_, fun n h hk hpay hp hst => ?_,
    fun head p h hcb hp => ?_⟩
  · exact heff.reaches ⟨_, _, _, _, _, hframe⟩
  · subst h
    exact heff.beacon (afterFrame_own_offer s f).1
  · subst h
    obtain ⟨head, p, rfl⟩ := hrenew hk
    cases hc
    have ht := own_accepted_eq ho ha hexec rfl
    have hu := (afterFrame_own_offer s (frameOf head kindRenew p)).2.1
    rw [ht]
    generalize s.afterFrame _ (some .renew) = u at *
    split
    · rw [applyRenew_eq]
      exact (judge_renewOffer _).trans hu
    · exact (judge_renewOffer _).trans hu
  · subst h
    obtain ⟨head, p, rfl⟩ := hreport hk
    cases hc
    have ht := own_accepted_eq ho ha hexec rfl
    obtain ⟨-, -, h1, h2, -⟩ := afterFrame_own_offer s (frameOf head kindReport p.toList)
    rw [ht]
    generalize s.afterFrame _ (some .report) = u at *
    split
    · exact ⟨h1, h2⟩
    · exact ⟨(judge_reportOffer u).trans h1, (congrArg (fun r => r.attempts) (judge_work u).report).trans h2⟩
  · subst h
    obtain ⟨-, -, -, -, -, h1, h2⟩ := afterFrame_own_offer s f
    refine ⟨?_, heff.command.trans h2⟩
    rw [hteq]
    exact h1
  · subst h
    obtain ⟨head, p, rfl⟩ := hclaim hk
    cases hc
    have ht := own_accepted_eq ho ha hexec rfl
    obtain ⟨-, -, -, -, h1, -⟩ := afterFrame_own_offer s (frameOf head kindClaim p.toList)
    rw [ht] at hoff ⊢
    generalize s.afterFrame _ (some .claim) = u at *
    split at hoff
    · rename_i hj
      rw [if_pos hj]
      exact applyClaim_offers h1 _ _ _ _ _ hoff
    · rename_i hj
      rw [if_neg hj]
      exact claim_of_judge h1 hoff
  · subst h
    obtain ⟨head, p, rfl⟩ := hrelease hk
    cases hc
    have ht := own_accepted_eq ho ha hexec rfl
    obtain ⟨hj, hu⟩ := afterFrame_own_ofProfile hp (show kindRelease.toNat < 9 by decide) (.release n)
    rw [if_pos hj] at ht
    have hn : channelLow p[0] = n := channelLow_of_releasePayload hpay
    have hoff := endOwnAttempt_release (s := s.lineAccepted (frameOf head kindRelease p.toList)) hst
    rw [← hu] at hoff
    rw [ht, ← hn]
    rw [← hn] at hoff
    exact applyRelease_off hoff.1 hoff.2
  · subst h
    subst hcb
    cases hc
    have ht := own_accepted_eq ho ha hexec rfl
    obtain ⟨hj, -⟩ := afterFrame_own_ofProfile hp (show kindBeacon.toNat < 9 by decide) .beacon
    have hu := afterFrame_own_beacon hp (show kindBeacon.toNat < 9 by decide)
    have hoffer := (afterFrame_own_offer s (frameOf head kindBeacon p.toList)).1
    have hoff := heff.beacon hoffer
    rw [if_pos hj, applyBeacon_eq, Bool.not_true, Bool.and_false] at ht
    generalize s.afterFrame (frameOf head kindBeacon p.toList) (some .beacon) = u at *
    have ht' : t = u.beaconSettled (beaconFields p) head.source.toNat true := ht
    have hwork := beaconSettled_work u (beaconFields p) head.source.toNat true
    rw [← ht'] at hwork
    obtain ⟨-, -, hcal, hlast, -⟩ := hwork.frame
    have hum : u.member = s.member := by rw [hu]
    have hut : u.table = s.table := by rw [hu]
    have hur : u.report = s.report := by rw [hu]
    have hus : u.settings = s.settings := by rw [hu]
    have huc : u.calendar = s.calendar := by rw [hu]
    have hul : u.lastMinute = s.lastMinute := by rw [hu]
    have huk : u.masks = s.masks := by rw [hu]
    have hon : s.member.state = .synced ∨ s.member.state = .listening := by
      cases hs : s.member.state <;> rw [hs] at ho <;> first | exact .inl rfl | exact .inr rfl | cases ho
    rw [← hum, ← hut, ← hur, ← hus, ← huc, ← hul, ← huk]
    rw [← hum] at hon
    rcases hon with hm | hm
    · obtain ⟨h1, h2, h3, h4⟩ := beaconSettled_own_synced hm (beaconFields p) head.source.toNat
      rw [← ht'] at h1 h2 h3 h4
      exact ⟨by rw [h1], by rw [h1], hoff, hcal, hlast, h3, fun _ => ⟨h1, h2, h4⟩, fun h => (nomatch hm.symm.trans h),
        fun h => (nomatch hm.symm.trans h), fun h => (nomatch hm.symm.trans h)⟩
    · obtain ⟨h3, hjoins, hrestarts, hgoes⟩ := beaconSettled_own_listening hm (beaconFields p) head.source.toNat ht'
      have hboth : t.member.epoch = (beaconFields p).epoch ∧ t.member.beaconTimer = .counting 0 := by
        by_cases hja : u.joinsAlone
        · obtain ⟨h1, h2, -⟩ := hjoins hja
          exact ⟨h1, h2⟩
        · by_cases hle : 2 * u.settings.lease ≤ u.member.beaconsHeard + 1
          · obtain ⟨h1, h2, -⟩ := hrestarts hja hle
            exact ⟨h1, h2⟩
          · obtain ⟨h1, -⟩ := hgoes hja (Nat.not_le.1 hle)
            rw [h1]
            exact ⟨rfl, rfl⟩
      refine ⟨hboth.1, hboth.2, hoff, hcal, hlast, h3, fun h => (nomatch hm.symm.trans h), fun _ hja => ?_,
        fun _ hja hle => ?_, fun _ hja hlt => hgoes hja hlt⟩
      · obtain ⟨-, -, h⟩ := hjoins hja
        exact h
      · obtain ⟨-, -, h⟩ := hrestarts hja hle
        exact h

end Sys2Proof.Machine
end

section
/-! PROOFS. What a BEACON of another station does: the calendar's part, the own channels through the table's part, and
the RENEW offer; for O47 to O49. -/

namespace Sys2Proof.Machine

theorem exec_beaconAccepted_hears {s : State} {head : FrameHead} {p : Vector Byte 14}
    (hh : s.hears (frameOf head kindBeacon p.toList)) (hp : s.ofProfile (frameOf head kindBeacon p.toList)) :
    exec (.beaconAccepted head p) s = .next
      (if (beaconFields p).timeValid then
        ((s.lineAccepted (frameOf head kindBeacon p.toList)).beaconSettled (beaconFields p) head.source.toNat
          false).adjustTime (beaconFields p).time false
      else (s.lineAccepted (frameOf head kindBeacon p.toList)).beaconSettled (beaconFields p) head.source.toNat
        false) := by
  change execBeaconAccepted head p s = _
  unfold execBeaconAccepted
  rw [acceptFrame_hears _ hh hp (show kindBeacon.toNat < 9 by decide), applyBeacon_eq, Bool.not_false, Bool.and_true]

/-! ## The calendar's part -/

theorem start_offers (s : State) (n : ChannelIx) (cls : Machine.Class) (a : Option Nat) : OfferWork s (s.start n cls a) := by
  unfold State.start
  dsimp only
  split
  · exact OfferWork.trans (t := s.setClaims _) rfl (judge_offers _)
  · exact OfferWork.trans (t := s.setClaims _) rfl (judge_offers _)
  · split
    · split <;> rfl
    · rfl
  · rfl
  · rfl

theorem stop_offers (s : State) (n : ChannelIx) : OfferWork s (s.stop n) := by
  have hstop (t : State) : OfferWork t (t.stopChannel n) := by
    unfold State.stopChannel
    split
    · rfl
    · rfl
    · rfl
    · exact (switchOff_claimOffer t n).1
    · repeat' split
      all_goals rfl
  exact OfferWork.trans (t := s.unqueued n) rfl ((hstop _).trans (judge_offers _))

theorem changeMasks_offers (s : State) (m : InhibitMasks) : OfferWork s (s.changeMasks m) :=
  (masked_offers s m).trans (judge_offers _)

theorem runAction_offers (s : State) (a : ScheduleAction) : OfferWork s (s.runAction a) := by
  cases a with
  | start n cls duration => exact start_offers s n cls _
  | stop n => exact stop_offers s n
  | inhibitOn groups => exact changeMasks_offers s _
  | inhibitOff groups => exact changeMasks_offers s _

theorem changeMasks_report (s : State) (m : InhibitMasks) : (s.changeMasks m).report = s.report :=
  ((masked_work s m).trans (judge_work _)).report

/-- A schedule action leaves the line mask and the report unit. -/
theorem runAction_untouched (s : State) (a : ScheduleAction) :
    (s.runAction a).masks.line = s.masks.line ∧ (s.runAction a).report = s.report := by
  cases a with
  | start n cls duration =>
    have hw := start_work s n cls (allowanceOf duration)
    exact ⟨congrArg InhibitMasks.line hw.masks, hw.report⟩
  | stop n => exact ⟨congrArg InhibitMasks.line (stop_work s n).masks, (stop_work s n).report⟩
  | inhibitOn groups => exact ⟨(congrArg InhibitMasks.line (changeMasks_masks s _)).trans rfl, changeMasks_report s _⟩
  | inhibitOff groups => exact ⟨(congrArg InhibitMasks.line (changeMasks_masks s _)).trans rfl, changeMasks_report s _⟩

/-- From u to t the calendar has moved: of the offers the RELEASE and CLAIM offers, of the masks the schedule's, of the
faults TIME-INVALID may differ. -/
structure Adjusted (u t : State) : Prop where
  offers : OfferWork u t
  mask : t.masks.line = u.masks.line
  diverged : t.report.faults.diverged = u.report.faults.diverged
  stalled : t.report.faults.joinStalled = u.report.faults.joinStalled

theorem adjustTime_adjusted (u : State) (v : CalendarValue) (restart : Bool) : Adjusted u (u.adjustTime v restart) :=
  adjustTime_keeps (P := Adjusted u)
    (fun t a h =>
      have hu := runAction_untouched t a
      ⟨h.offers.trans (runAction_offers t a), hu.1.trans h.mask, by rw [hu.2]; exact h.diverged, by rw [hu.2]; exact h.stalled⟩)
    (fun _ _ h => { h with }) (fun _ _ h => { h with }) (fun _ _ h => { h with }) (fun _ h => { h with }) v restart
    ⟨.refl u, rfl, rfl, rfl⟩

/-- The calendar takes another station's time (R108, R109). -/
def State.timed (u : State) (b : BeaconFields) : State := if b.timeValid then u.adjustTime b.time false else u

theorem timed_adjusted (u : State) (b : BeaconFields) : Adjusted u (u.timed b) := by
  unfold State.timed
  split
  · exact adjustTime_adjusted u _ _
  · exact ⟨.refl u, rfl, rfl, rfl⟩

theorem timed_off {u : State} {b : BeaconFields} (h : b.timeValid = false ∨ b.time.inRange = false) : u.timed b = u := by
  unfold State.timed
  rcases h with h | h
  · rw [h]
    rfl
  · rw [adjustTime_invalid h]
    exact ite_self u

/-- What the calendar's part can reach. -/
theorem timed_frame (u : State) (b : BeaconFields) :
    u.timed b = { u with
      calendar := (u.timed b).calendar, lastMinute := (u.timed b).lastMinute, claims := (u.timed b).claims
      channels := (u.timed b).channels, masks := (u.timed b).masks, line := (u.timed b).line
      report := (u.timed b).report } := by
  unfold State.timed
  split
  · cases hr : b.time.inRange with
    | false => rw [adjustTime_invalid hr]
    | true =>
      have hw := adjustTime_timeWork (s := u) hr false
      generalize u.adjustTime b.time false = t at *
      have hc : t.calendar = u.calendar.adjusted b.time false := by rw [hw]; rfl
      rw [← hc] at hw
      exact hw
  · rfl

/-- Valid time in range moves the calendar, and a new minute runs its event (R109, R113, R127). -/
theorem timed_on {u t : State} {b : BeaconFields} (ht : t = u.timed b) (hv : b.timeValid = true)
    (hr : b.time.inRange = true) :
    (fractionPosition t.calendar.value : Int) =
        ((fractionPosition u.calendar.value : Int) + (fractionPosition b.time - u.calendar.sofPosition)) %
          201968640000 ∧
      t.calendar = { u.calendar with value := t.calendar.value, valid := true } ∧
      (u.calendar.valid = false →
        t = { u with
          calendar := t.calendar, lastMinute := some (minuteNumber t.calendar.value)
          report := { u.report with faults := { u.report.faults with timeInvalid := false } } }) ∧
      (u.calendar.valid = true → minuteNumber t.calendar.value = minuteNumber u.calendar.value →
        t = { u with calendar := t.calendar }) ∧
      (u.calendar.valid = true → minuteNumber t.calendar.value ≠ minuteNumber u.calendar.value →
        t = { u with calendar := t.calendar }.minuteEvent (minuteNumber t.calendar.value)) := by
  have he : t = u.adjustTime b.time false := by
    rw [ht]
    unfold State.timed
    rw [hv]
    rfl
  have hcal : t.calendar = u.calendar.adjusted b.time false := by
    rw [he]
    exact adjustTime_calendar hr false
  obtain ⟨h1, h2, h3⟩ := adjustTime_cases (s := u) hr false
  obtain ⟨-, hpos⟩ := adjusted_spec u.calendar b.time false
  rw [hcal]
  exact ⟨hpos, rfl, fun h => he.trans (h1 h), fun h hm => he.trans (h2 h hm), fun h hm => he.trans (h3 h hm)⟩

end Sys2Proof.Machine
end

section
/-! PROOFS. The table's part of a BEACON on the own channels and the RENEW offer (R21, R71); for O47 to O49. -/

namespace Sys2Proof.Machine

/-! ## A channel's part through the table's part -/

/-- A queued demand with its HOLD mark clear. -/
def ChannelView.unheld (v : ChannelView) : ChannelView := { v with entry := v.entry.map fun e => (e.1, e.2.1, false) }

namespace State

/-- An own record of the channel expires at the coming beacon (R21). -/
def expires (s : State) (n : ChannelIx) : Prop :=
  ∃ r ∈ expiredRecords (ageTable s.table), r.holder = s.ownId ∧ r.channel = n

/-- The station after the ageing, the expiries' events and the hold-clear signal of a beacon (R21). -/
def aged (s : State) : State :=
  if expiredRecords (ageTable s.table) = [] then
    (s.setTable s.agedTable.1).giveExpiries (expiredRecords (ageTable s.table))
  else ((s.setTable s.agedTable.1).giveExpiries (expiredRecords (ageTable s.table))).holdClear

theorem beaconTable_eq (s : State) (d : Bool) :
    s.beaconTable d = if d then s.aged else s.aged.givePromotion s.agedTable.2 := rfl

theorem aged_work (s : State) : ClaimWork (s.setTable s.agedTable.1) s.aged := by
  have he := giveExpiries_work (s.setTable s.agedTable.1) (expiredRecords (ageTable s.table))
  unfold aged
  split
  · exact he
  · exact he.trans (holdClear_work _)

theorem view_setMember (s : State) (m : Membership) (n : ChannelIx) : (s.setMember m).view n = s.view n := rfl

theorem view_holdClear_unheld (s : State) (n : ChannelIx) : s.holdClear.view n = (s.view n).unheld := view_holdClear s n

/-- A channel whose own record expires takes its event (R84 to R87). -/
theorem view_aged_expires {s : State} {n : ChannelIx} (h : s.expires n) (hx : s.exempt n = false) :
    s.aged.view n = ((s.view n).expired (s.channelSettings n).rest).unheld := by
  have hne : expiredRecords (ageTable s.table) ≠ [] := by
    obtain ⟨r, hr, -⟩ := h
    exact List.ne_nil_of_mem hr
  unfold aged
  rw [if_neg hne, view_holdClear_unheld, view_giveExpiries]
  exact congrArg ChannelView.unheld (if_pos ⟨h, hx⟩)

/-- Every other channel stands, the HOLD mark of its demand aside (R21, R50). -/
theorem view_aged {s : State} {n : ChannelIx} (h : ¬ (s.expires n ∧ s.exempt n = false)) :
    s.aged.view n = s.view n ∨ s.aged.view n = (s.view n).unheld := by
  have hg : ((s.setTable s.agedTable.1).giveExpiries (expiredRecords (ageTable s.table))).view n = s.view n := by
    rw [view_giveExpiries]
    exact if_neg h
  unfold aged
  split
  · exact .inl hg
  · right
    rw [view_holdClear_unheld, hg]

theorem channel_aged {s : State} {n : ChannelIx} (h : ¬ (s.expires n ∧ s.exempt n = false)) :
    s.aged.channel n = s.channel n ∧ s.aged.line.offers.releases[n] = s.line.offers.releases[n] := by
  rcases view_aged h with hv | hv <;> exact ⟨congrArg ChannelView.channel hv, congrArg ChannelView.release hv⟩

/-- An expiry clears every HOLD mark (R11, R21). -/
theorem aged_holds {s : State} (h : expiredRecords (ageTable s.table) ≠ []) : ∀ e ∈ s.aged.claims.queue, e.hold = false := by
  unfold aged
  rw [if_neg h]
  exact holdClear_holds

theorem view_restartBeacon (s : State) (n : ChannelIx) : s.restartBeacon.view n = s.view n := rfl

theorem view_placeRenew (s : State) (n : ChannelIx) : s.placeRenew.view n = s.view n := by
  unfold placeRenew
  split <;> rfl

theorem view_beaconRenewed (s : State) (d : Bool) (n : ChannelIx) :
    (s.beaconRenewed d).view n = (s.beaconTable d).view n := by
  unfold beaconRenewed
  rw [view_placeRenew, view_dropIdleRenew, view_restartBeacon]

theorem claims_beaconRenewed (s : State) (d : Bool) : (s.beaconRenewed d).claims = s.aged.claims := by
  have hp : ∀ t : State, t.placeRenew.claims = t.claims := fun t => by unfold placeRenew; split <;> rfl
  have hd : ∀ t : State, t.dropIdleRenew.claims = t.claims := fun t => by unfold dropIdleRenew; split <;> rfl
  unfold beaconRenewed
  rw [hp, hd]
  change (s.beaconTable d).claims = _
  rw [beaconTable_eq]
  split
  · rfl
  · exact givePromotion_queue _ _

/-! ## The channels whose records expire -/

/-- From v to w the channel is OFF with this rest, its RELEASE offer untouched and this demand waiting (R85, R91). -/
structure HandsBack (v w : ChannelView) (rest : Nat) (d : Demand) : Prop where
  state : w.channel.state = .off
  rest : w.channel.rest = rest
  release : w.release = v.release
  entry : d.allowance ≠ some 0 → w.entry = some (d.cls, d.allowance, false)

theorem unheld_entry {v : ChannelView} {c : Machine.Class} {a : Option Nat} (h : v.entry = some (c, a, false)) :
    v.unheld.entry = some (c, a, false) := by
  unfold ChannelView.unheld
  dsimp only
  rw [h]
  rfl

theorem HandsBack.unheld {v w : ChannelView} {rest : Nat} {d : Demand} (h : HandsBack v w rest d) :
    HandsBack v w.unheld rest d := ⟨h.state, h.rest, h.release, fun hd => unheld_entry (h.entry hd)⟩

theorem handsBack_requeued {v w : ChannelView} {rest : Nat} {d : Demand} (hs : w.channel.state = .off)
    (hr : w.channel.rest = rest) (hl : w.release = v.release) (he : w.entry = none) :
    HandsBack v (w.requeued d) rest d :=
  ⟨by rw [ChannelView.channel_requeued, hs], by rw [ChannelView.channel_requeued, hr],
    by rw [ChannelView.release_requeued, hl], ChannelView.entry_requeued he⟩

/-- An ON channel whose record expires goes OFF with its rest begun and its demand waiting (R85, R92). -/
theorem aged_on {s : State} {n : ChannelIx} {d : Demand} (h : s.expires n) (hx : s.exempt n = false)
    (hs : s.channelState n = .switchedOn d) (he : s.entryOf n = none) :
    HandsBack (s.view n) (s.aged.view n)
      (if (s.channelSettings n).rest = 0 then (s.channel n).rest else (s.channelSettings n).rest * 64) d := by
  rw [view_aged_expires h hx]
  refine HandsBack.unheld ?_
  unfold ChannelView.expired
  rw [show (s.view n).channel.state = _ from hs]
  exact handsBack_requeued (ChannelView.state_rested _ _) (ChannelView.rest_rested _ _) (ChannelView.release_rested _ _)
    ((ChannelView.entry_rested _ _).trans (entryOf_eq_none_iff.1 he))

/-- A PENDING channel whose record expires goes OFF with its demand waiting (R84). -/
theorem aged_pending {s : State} {n : ChannelIx} {d : Demand} (h : s.expires n) (hx : s.exempt n = false)
    (hs : s.channelState n = .pending d) (he : s.entryOf n = none) :
    HandsBack (s.view n) (s.aged.view n) (s.channel n).rest d := by
  rw [view_aged_expires h hx]
  refine HandsBack.unheld ?_
  unfold ChannelView.expired
  rw [show (s.view n).channel.state = _ from hs]
  exact handsBack_requeued rfl rfl rfl (entryOf_eq_none_iff.1 he)

/-- A STOPPING channel whose record expires leaves STOPPING, its RELEASE offer gone (R86). -/
theorem aged_stopping {s : State} {n : ChannelIx} (h : s.expires n) (hx : s.exempt n = false)
    (hs : s.channelState n = .stopping) :
    s.aged.view n = { ((s.view n).become .off).unheld with release := false } := by
  rw [view_aged_expires h hx]
  unfold ChannelView.expired
  rw [show (s.view n).channel.state = _ from hs]
  rfl

/-! ## The offers through the table's part -/

theorem ownExpired_offers (s : State) (n : ChannelIx) : OfferWork s (s.ownExpired n) := by
  have requeued : ∀ (t : State) (d : Demand), t.line = s.line → OfferWork s (t.requeue n d) := fun t d h => by
    unfold OfferWork
    rw [requeue_offers, h]
  unfold ownExpired
  split
  · rfl
  · split
    · exact requeued _ _ (beginRest_offers _ _)
    · exact requeued _ _ rfl
    · rfl
    · rfl

theorem giveExpiries_offers (s : State) (gone : List Holding) : OfferWork s (s.giveExpiries gone) :=
  OfferWork.foldl (fun t r => by
    split
    · exact ownExpired_offers t _
    · rfl) gone s

theorem givePromotion_offers (s : State) (promoted : Option Holding) : OfferWork s (s.givePromotion promoted) := by
  unfold givePromotion ownPromoted
  repeat' split
  all_goals rfl

theorem aged_offers (s : State) : OfferWork s s.aged := by
  have h : OfferWork s ((s.setTable s.agedTable.1).giveExpiries (expiredRecords (ageTable s.table))) :=
    giveExpiries_offers _ _
  unfold aged
  split <;> exact h

theorem beaconTable_offers (s : State) (d : Bool) : OfferWork s (s.beaconTable d) := by
  rw [beaconTable_eq]
  split
  · exact aged_offers s
  · exact (aged_offers s).trans (givePromotion_offers _ _)

/-- The RENEW offer follows the leases of the own HELD and PENDING records, from what it was before (R71). -/
structure RenewFollows (u : State) (before : Bool) : Prop where
  due : (∃ r ∈ u.table, r.holder = u.ownId ∧ r.state ≠ .shedding ∧ r.lease ≤ u.settings.lease / 2) →
    u.line.offers.renew = true
  idle : (∀ r ∈ u.table, r.holder = u.ownId → r.state = .shedding) → u.line.offers.renew = false
  stands : (∃ r ∈ u.table, r.holder = u.ownId ∧ r.state ≠ .shedding) →
    (∀ r ∈ u.table, r.holder = u.ownId → r.state ≠ .shedding → u.settings.lease / 2 < r.lease) →
      u.line.offers.renew = before

theorem RenewFollows.of_eq {t u : State} {before : Bool} (h : t.RenewFollows before) (ht : u.table = t.table)
    (hs : u.settings = t.settings) (hr : u.line.offers.renew = t.line.offers.renew) : u.RenewFollows before := by
  obtain ⟨h1, h2, h3⟩ := h
  unfold ownId at *
  rw [← ht, ← hs, ← hr] at h1 h2 h3
  exact ⟨h1, h2, h3⟩

/-- With the table cleared the RENEW offer is gone (R71). -/
theorem RenewFollows.cleared {u : State} {before : Bool} (ht : u.table = []) (hr : u.line.offers.renew = false) :
    u.RenewFollows before := by
  refine ⟨?_, fun _ => hr, ?_⟩ <;>
  · rintro ⟨r, hr, -⟩
    rw [ht] at hr
    cases hr

theorem mem_ownReserved {id : Nat} {t : List Holding} {r : Holding} :
    r ∈ ownReserved id t ↔ r ∈ t ∧ r.holder = id ∧ r.state ≠ .shedding := by
  unfold ownReserved Holding.reserved
  simp

theorem ownReserved_eq_nil {id : Nat} {t : List Holding} :
    ownReserved id t = [] ↔ ∀ r ∈ t, r.holder = id → r.state = .shedding := by
  rw [List.eq_nil_iff_forall_not_mem]
  simp only [mem_ownReserved, not_and, not_not]

theorem dropIdleRenew_renew (s : State) : s.dropIdleRenew.line.offers.renew =
    if ownReserved s.ownId s.table = [] then false else s.line.offers.renew := by
  unfold dropIdleRenew
  split <;> rfl

theorem placeRenew_renew (s : State) : s.placeRenew.line.offers.renew =
    if (ownReserved s.ownId s.table).any fun r => decide (r.lease ≤ s.settings.lease / 2) then true
    else s.line.offers.renew := by
  unfold placeRenew
  split <;> rfl

theorem renewFollows_place (s : State) : s.dropIdleRenew.placeRenew.RenewFollows s.line.offers.renew := by
  have hd := dropIdleRenew_work s
  have hp := placeRenew_work s.dropIdleRenew
  have htable := hp.table.trans hd.table
  have hset := hp.settings.trans hd.settings
  have hid : s.dropIdleRenew.placeRenew.ownId = s.ownId := hp.ownId.trans hd.ownId
  have hrenew := placeRenew_renew s.dropIdleRenew
  rw [hd.ownId, hd.table, hd.settings, dropIdleRenew_renew] at hrenew
  refine ⟨?_, fun h => ?_, fun h k => ?_⟩ <;> simp only [htable, hset, hid] at * <;> rw [hrenew]
  · rintro ⟨r, hr, ho, hs, hl⟩
    exact if_pos (List.any_eq_true.2 ⟨r, mem_ownReserved.2 ⟨hr, ho, hs⟩, decide_eq_true hl⟩)
  · have hnil := ownReserved_eq_nil.2 h
    rw [hnil]
    rfl
  · have hne : ownReserved s.ownId s.table ≠ [] := by
      obtain ⟨r, hr, ho⟩ := h
      exact List.ne_nil_of_mem (mem_ownReserved.2 ⟨hr, ho⟩)
    rw [if_neg hne, if_neg]
    rw [List.any_eq_true]
    rintro ⟨r, hr, hl⟩
    obtain ⟨hr, ho, hs⟩ := mem_ownReserved.1 hr
    exact absurd (of_decide_eq_true hl) (Nat.not_le.2 (k r hr ho hs))

/-- A beacon's table part sets the RENEW offer by the leases and withdraws the BEACON offer (R56, R57, R71). -/
theorem beaconRenewed_offers (s : State) (d : Bool) :
    (s.beaconRenewed d).RenewFollows s.line.offers.renew ∧ (s.beaconRenewed d).line.offers.beacon = false := by
  have hw := beaconTable_offers s d
  unfold OfferWork at hw
  have ho : (s.beaconTable d).restartBeacon.line.offers.renew = s.line.offers.renew := by
    change (s.beaconTable d).line.offers.renew = _
    rw [hw]
  have hb : ∀ t : State, t.placeRenew.line.offers.beacon = t.line.offers.beacon := fun t => by
    unfold placeRenew; split <;> rfl
  have hd : ∀ t : State, t.dropIdleRenew.line.offers.beacon = t.line.offers.beacon := fun t => by
    unfold dropIdleRenew; split <;> rfl
  refine ⟨ho ▸ renewFollows_place _, ?_⟩
  unfold beaconRenewed
  rw [hb, hd]
  rfl

end State

end Sys2Proof.Machine
end

section
/-! PROOFS. A BEACON applied in SYNCED without a confirmed divergence; settles O47. -/

namespace Sys2Proof.Machine

/-! ## The aged table and its digest -/

theorem mem_liveRecords {t : List Holding} {r : Holding} : r ∈ liveRecords t ↔ r ∈ t ∧ r.lease ≠ 0 := by
  unfold liveRecords
  rw [List.mem_filter, bne_iff_ne]

theorem mem_expiredRecords {t : List Holding} {r : Holding} : r ∈ expiredRecords t ↔ r ∈ t ∧ r.lease = 0 := by
  unfold expiredRecords
  rw [List.mem_filter, beq_iff_eq]

theorem length_live_add_expired (t : List Holding) :
    (liveRecords t).length + (expiredRecords t).length = t.length := by
  unfold liveRecords expiredRecords
  rw [← List.countP_eq_length_filter, ← List.countP_eq_length_filter,
    List.length_eq_countP_add_countP (fun r : Holding => r.lease != 0) (l := t)]
  congr 1
  exact List.countP_congr fun r _ => by simp

theorem reserved_eq : Holding.reserved = fun r => decide (r.state ≠ .shedding) := by
  funext r
  exact Bool.eq_iff_iff.2 (by simp [Holding.reserved])

theorem tableDigest_pending (t : List Holding) : (tableDigest t).pending = true ↔ ∃ r ∈ t, r.state = .pending := by
  change pendingPresent t = true ↔ _
  unfold pendingPresent
  simp

theorem tableOrdered.age {t : List Holding} (h : tableOrdered t) : tableOrdered (ageTable t) :=
  List.pairwise_map.2 (List.Pairwise.imp (fun {_ _} => id) h)

/-- A key is not both expired and live (R2, R21). -/
theorem State.not_expires_of_live {s : State} (ho : tableOrdered s.table) {r : Holding}
    (hr : r ∈ liveRecords (ageTable s.table)) (hown : r.holder = s.ownId) : ¬ s.expires r.channel := by
  rintro ⟨x, hx, hh, hc⟩
  obtain ⟨hxm, hx0⟩ := mem_expiredRecords.1 hx
  obtain ⟨hrm, hr0⟩ := mem_liveRecords.1 hr
  have he : x = r := ho.age.eq_of_key hxm hrm (by unfold Holding.key; rw [hh, hown, hc])
  exact hr0 (he ▸ hx0)

/-! ## The witness record -/

theorem digestMatches_iff {s : State} {b : BeaconFields} : s.digestMatches b = true ↔
    s.member.epoch + 1 = b.epoch ∧ tableDigest s.table = b.digest ∧ s.masks.line = b.mask := by
  unfold State.digestMatches
  simp only [Bool.and_eq_true, beq_iff_eq, and_assoc]

/-- A beacon that is not authoritative leaves the witness record, and a match empties it (R60, R62). -/
theorem witnessUpdate_quiet {s : State} {b : BeaconFields} (sender : Nat) :
    (b.authoritative = false → s.witnessUpdate b sender false = some s.member.witness) ∧
      (b.authoritative = true → s.digestMatches b = true → s.witnessUpdate b sender false = some none) := by
  unfold State.witnessUpdate
  refine ⟨fun h => by rw [h]; rfl, fun h hm => ?_⟩
  rw [h, hm]
  rfl

/-- A mismatch counts its sender, and confirms a divergence at another sender than the witness or its fourth (R62). -/
theorem witnessUpdate_mismatch {s : State} {b : BeaconFields} (sender : Nat) (ha : b.authoritative = true)
    (hm : ¬ s.digestMatches b = true) :
    (s.member.witness = none → s.witnessUpdate b sender false = some (some { sender := sender, count := 1 })) ∧
      ∀ w, s.member.witness = some w → s.witnessUpdate b sender false =
        if w.sender = sender ∧ w.count + 1 < 4 then some (some { sender := sender, count := w.count + 1 })
        else none := by
  have he : s.witnessUpdate b sender false = witnessAfter s.member.witness sender false := by
    unfold State.witnessUpdate
    rw [ha, Bool.eq_false_iff.2 hm]
    rfl
  rw [he]
  refine ⟨fun h => ?_, fun w h => ?_⟩ <;>
  · rw [h]
    rfl

/-! ## The station once it has counted the beacon -/

namespace State

/-- The station after the table's part and the membership controller's part of a beacon without divergence. -/
def beaconCounted (s : State) (w : Option Witness) : State :=
  (s.beaconRenewed false).setMember
    { (s.beaconRenewed false).member with epoch := (s.beaconRenewed false).member.epoch + 1, witness := w }

theorem beaconSettled_counted {s : State} {b : BeaconFields} {sender : Nat} {w : Option Witness}
    (hm : s.member.state = .synced) (hw : s.witnessUpdate b sender false = some w) :
    s.beaconSettled b sender false = (s.beaconCounted w).judge := by
  rw [beaconSettled_eq, if_pos hm, hw]
  rfl

theorem beaconCounted_work (s : State) (w : Option Witness) :
    ClaimWork
      ((s.setTable s.agedTable.1).setMember
        { s.member with beaconTimer := .counting 0, epoch := s.member.epoch + 1, witness := w })
      (s.beaconCounted w) :=
  (beaconRenewed_work s false).setMember fun m => { m with epoch := m.epoch + 1, witness := w }

theorem view_beaconCounted (s : State) (w : Option Witness) (n : ChannelIx) :
    (s.beaconCounted w).view n = (s.aged.givePromotion s.agedTable.2).view n := view_beaconRenewed s false n

theorem beaconCounted_queueCore {s : State} (h : s.QueueCore) (hl : s.drivesLine = false)
    (ho : s.member.state.online = true) (w : Option Witness) : (s.beaconCounted w).QueueCore :=
  { queueCore_effects.beaconRenewed false hl ho h with }

theorem view_beaconCounted_expires {s : State} (w : Option Witness) {n : ChannelIx}
    (h : ∀ d, (s.aged.view n).channel.state ≠ .pending d) : (s.beaconCounted w).view n = s.aged.view n := by
  rw [view_beaconCounted]
  exact view_givePromotion_of_not_pending h

/-- A channel whose record neither expires nor is promoted stands, unless it is OFF (R21, R45). -/
theorem counted_stands {s : State} (w : Option Witness) {n : ChannelIx} (hg : ¬ s.expires n)
    (hp : ∀ r, s.agedTable.2 = some r → r.holder = s.ownId → r.channel ≠ n) (hs : s.channelState n ≠ .off) :
    (s.beaconCounted w).judge.channel n = s.channel n := by
  have hc : (s.beaconCounted w).channel n = s.channel n := by
    refine Eq.trans ?_ (channel_aged fun h => hg h.1).1
    refine channel_of_view ((view_beaconCounted s w n).trans (view_givePromotion_ne fun r hr ho => hp r hr ?_))
    exact ho.trans (aged_work s).ownId
  rw [channel_of_view (view_judge_of_ne_off (by unfold channelState; rw [hc]; exact hs)), hc]

/-- The judgement leaves a budgeted channel, or takes up the claim of its entry (R45). -/
theorem judge_takesUp {s : State} {n : ChannelIx} (hq : (s.claims.queue.map Entry.channel).Nodup)
    (hx : s.exempt n = false) :
    s.judge.view n = s.view n ∨
      ∃ e, s.entryOf n = some e ∧ (s.channel n).rest = 0 ∧ s.judge.channel n = { s.channel n with state := .claiming } ∧
        s.judge.claimsAfresh n { cls := e.cls, allowance := e.allowance } := by
  rcases judge_cases hq hx with hv | ⟨e, he, -, -, -, -, hrest, -, hout, hoffer, hv⟩
  · exact .inl hv
  · have hchannel : e.channel = n := by simpa using List.find?_some he
    exact .inr ⟨e, he, hrest, congrArg ChannelView.channel hv, congrArg (fun v => v.channel.state) hv, hoffer, e.claim, hout,
      hchannel, rfl, rfl, rfl, rfl, rfl⟩

/-- The judgement leaves a demand handed back waiting, or takes it up (R43, R45). -/
theorem handsBack_judge {s : State} {n : ChannelIx} {v : ChannelView} {rest : Nat} {d : Demand}
    (hq : (s.claims.queue.map Entry.channel).Nodup) (hx : s.exempt n = false) (h : HandsBack v (s.view n) rest d) :
    s.judge.line.offers.releases[n] = v.release ∧ (s.judge.channel n).rest = rest ∧
      (rest ≠ 0 → s.judge.channelState n = .off) ∧ (d.allowance ≠ some 0 → s.judge.handedBack n d) := by
  refine ⟨by rw [judge_releases]; exact h.release, ?_⟩
  rcases judge_takesUp hq hx with hv | ⟨e, he, hrest, hc, hclaim⟩
  · have hoff : s.judge.channelState n = .off := (channelState_of_view hv).trans h.state
    exact ⟨(congrArg Channel.rest (channel_of_view hv)).trans h.rest, fun _ => hoff, fun hd =>
      .inl ⟨hoff, entry_of_view_some (by rw [hv]; exact h.entry hd)⟩⟩
  · refine ⟨(congrArg Channel.rest hc).trans h.rest, fun hne => absurd (h.rest.symm.trans hrest) hne, fun hd => .inr ?_⟩
    have hent : (s.entryOf n).map Entry.terms = some (d.cls, d.allowance, false) := h.entry hd
    rw [he] at hent
    have hterms : (e.cls, e.allowance, e.hold) = (d.cls, d.allowance, false) := Option.some.inj hent
    simp only [Prod.mk.injEq] at hterms
    obtain ⟨hcls, hall, -⟩ := hterms
    rw [hcls, hall] at hclaim
    exact hclaim

end State

/-! ## The obligation -/

/-- What a beacon reaches, its calendar's part with it (R60). -/
theorem beacon_reaches {s u t : State}
    (hu : u = { s with
      table := u.table, claims := u.claims, member := u.member, channels := u.channels, masks := u.masks
      line := u.line, report := u.report })
    (ht : t = { u with
      calendar := t.calendar, lastMinute := t.lastMinute, claims := t.claims, channels := t.channels
      masks := t.masks, line := t.line, report := t.report }) :
    t.table = u.table ∧ t.member = u.member ∧
      t = { s with
        table := t.table, claims := t.claims, member := t.member, channels := t.channels, masks := t.masks
        calendar := t.calendar, lastMinute := t.lastMinute, line := t.line, report := t.report } := by
  have htable : t.table = u.table := by rw [ht]
  have hmember : t.member = u.member := by rw [ht]
  refine ⟨htable, hmember, ?_⟩
  rw [htable, hmember]
  generalize u.table = a, u.member = b, u.claims = c, u.channels = d, u.masks = e, u.line = f, u.report = g at hu
  rw [hu] at ht
  exact ht

/-- The ageing of the table, and its digest (R8, R20, R21). -/
theorem ageTable_facts (t : List Holding) :
    (ageTable t).length = t.length ∧
    (∀ (i : Nat) (r : Holding), t[i]? = some r → (ageTable t)[i]? = some { r with lease := r.lease - 1 }) ∧
    (liveRecords t).Sublist t ∧ (expiredRecords t).Sublist t ∧
    (liveRecords t).length + (expiredRecords t).length = t.length ∧
    (∀ r, r ∈ liveRecords t ↔ r ∈ t ∧ r.lease ≠ 0) ∧ (∀ r, r ∈ expiredRecords t ↔ r ∈ t ∧ r.lease = 0) ∧
    (tableDigest t).count = t.countP (fun r => decide (r.state ≠ .shedding)) ∧
    (tableDigest t).units = ((t.filter fun r => decide (r.state ≠ .shedding)).map Holding.units).sum ∧
    (tableDigest t).shedding = t.countP (fun r => decide (r.state = .shedding)) ∧
    ((tableDigest t).pending = true ↔ ∃ r ∈ t, r.state = .pending) := by
  refine ⟨List.length_map _, fun i r h => ?_, List.filter_sublist, List.filter_sublist, length_live_add_expired t,
    fun _ => mem_liveRecords, fun _ => mem_expiredRecords, ?_, ?_, ?_, tableDigest_pending t⟩
  · unfold ageTable
    rw [List.getElem?_map, h]
    rfl
  · rw [List.countP_eq_length_filter, ← reserved_eq]
    rfl
  · rw [← reserved_eq]
    rfl
  · rw [List.countP_eq_length_filter]
    exact congrArg List.length (List.filter_congr fun r _ => beq_eq_decide _ _)

/-- The own channels at a beacon without divergence, and the promoted one (R21, R84 to R87). -/
theorem counted_channels {s : State} (hq : s.queueInv) (ho : tableOrdered s.table) (hm : s.member.state = .synced)
    (hl : s.drivesLine = false) (w : Option Witness) {u : State} (hu : u = (s.beaconCounted w).judge) :
    (∀ r ∈ expiredRecords (ageTable s.table), r.holder = s.ownId → s.exempt r.channel = false →
      (∀ demand, s.channelState r.channel = .switchedOn demand →
        u.line.offers.releases[r.channel] = s.line.offers.releases[r.channel] ∧
          (demand.allowance ≠ some 0 → u.handedBack r.channel demand) ∧
          ((s.channelSettings r.channel).rest ≠ 0 → u.channelState r.channel = .off ∧
            (u.channel r.channel).rest = (s.channelSettings r.channel).rest * 64)) ∧
      (∀ demand, s.channelState r.channel = .pending demand →
        u.line.offers.releases[r.channel] = s.line.offers.releases[r.channel] ∧
          (u.channel r.channel).rest = (s.channel r.channel).rest ∧
          (demand.allowance ≠ some 0 → u.handedBack r.channel demand)) ∧
      (s.channelState r.channel = .stopping →
        (u.channelState r.channel = .off ∨ u.channelState r.channel = .claiming) ∧
          u.line.offers.releases[r.channel] = false)) ∧
    ∀ r demand, s.agedTable.2 = some r → r.holder = s.ownId → s.exempt r.channel = false →
      s.channelState r.channel = .pending demand →
      u.channelState r.channel = .switchedOn
        { demand with allowance := capped (s.channelSettings r.channel).maxRun demand.allowance } := by
  have core := ((queueInv_iff s).1 hq).toQueueCore
  have hcore := State.beaconCounted_queueCore core hl (by rw [hm]; rfl) w
  have hwork := State.beaconCounted_work s w
  have hexempt : ∀ n, (s.beaconCounted w).exempt n = s.exempt n := fun n => by rw [hwork.exempt]; rfl
  refine ⟨fun r hr hown hx => ⟨fun d hd => ?_, fun d hd => ?_, fun hd => ?_⟩, fun r d hp hown hx hd => ?_⟩
  · have hb := State.aged_on ⟨r, hr, hown, rfl⟩ hx hd (core.entry_of_on hd)
    rw [← State.view_beaconCounted_expires w (by rw [hb.state]; exact nofun)] at hb
    obtain ⟨h1, h2, h3, h4⟩ := State.handsBack_judge hcore.unit.channels ((hexempt _).trans hx) hb
    rw [← hu] at h1 h2 h3 h4
    refine ⟨h1, h4, fun hrest => ?_⟩
    rw [if_neg hrest] at h2 h3
    exact ⟨h3 (Nat.mul_ne_zero hrest (by decide)), h2⟩
  · have hb := State.aged_pending ⟨r, hr, hown, rfl⟩ hx hd (core.entry_of_pending hd)
    rw [← State.view_beaconCounted_expires w (by rw [hb.state]; exact nofun)] at hb
    obtain ⟨h1, h2, -, h4⟩ := State.handsBack_judge hcore.unit.channels ((hexempt _).trans hx) hb
    rw [← hu] at h1 h2 h4
    exact ⟨h1, h2, h4⟩
  · have hb := State.aged_stopping ⟨r, hr, hown, rfl⟩ hx hd
    rw [← State.view_beaconCounted_expires w (by rw [hb]; exact nofun)] at hb
    refine ⟨?_, ?_⟩
    · rw [hu]
      rcases State.judge_takesUp hcore.unit.channels ((hexempt _).trans hx) with hv | ⟨e, -, -, hc, -⟩
      · exact .inl ((State.channelState_of_view hv).trans (congrArg (fun v => v.channel.state) hb))
      · exact .inr (congrArg Channel.state hc)
    · rw [hu, judge_releases]
      exact congrArg ChannelView.release hb
  · have hlive : r ∈ liveRecords (ageTable s.table) := by
      unfold State.agedTable at hp
      rw [if_pos hm] at hp
      exact (promotionCheck_held hp).1
    have hstands := State.channel_aged fun h => State.not_expires_of_live ho hlive hown h.1
    have hid : r.holder = s.aged.ownId := hown.trans (State.aged_work s).ownId.symm
    have hv := State.view_givePromotion_self (s := s.aged) (r := r) (d := d) hid
      (by rw [(State.aged_work s).exempt]; exact hx) (by unfold State.channelState; rw [hstands.1]; exact hd)
    rw [← hp, ← State.view_beaconCounted s w] at hv
    rw [hu]
    refine (congrArg (fun v => v.channel.state) ((State.view_judge_of_ne_off ?_).trans hv)).trans ?_
    · rw [show (s.beaconCounted w).channelState r.channel = _ from congrArg (fun v => v.channel.state) hv]
      exact nofun
    · rw [show s.aged.channelSettings r.channel = s.channelSettings r.channel by
        unfold State.channelSettings; rw [(State.aged_work s).settings]; rfl]
      rfl

end Sys2Proof.Machine
end

section
/-! PROOFS. The assembly of O47. -/

namespace Sys2Proof.Machine

/-- The witness record at a beacon without a confirmed divergence (R60, R62). -/
theorem witness_counted {s : State} {b : BeaconFields} {sender : Nat}
    (h : b.authoritative = true → ¬ s.digestMatches b = true →
      s.member.witness = none ∨ ∃ k, s.member.witness = some { sender := sender, count := k } ∧ k + 1 < 4) :
    ∃ w, s.witnessUpdate b sender false = some w ∧
      (b.authoritative = false → w = s.member.witness) ∧
      (b.authoritative = true → s.digestMatches b = true → w = none) ∧
      (b.authoritative = true → ¬ s.digestMatches b = true → s.member.witness = none →
        w = some { sender := sender, count := 1 }) ∧
      ∀ k, b.authoritative = true → ¬ s.digestMatches b = true →
        s.member.witness = some { sender := sender, count := k } → w = some { sender := sender, count := k + 1 } := by
  obtain ⟨hplain, hmatch⟩ := witnessUpdate_quiet (s := s) (b := b) sender
  by_cases ha : b.authoritative = true
  · by_cases hm : s.digestMatches b = true
    · exact ⟨none, hmatch ha hm, fun h => absurd ha (by simp [h]), fun _ _ => rfl, fun _ h => absurd hm h,
        fun _ _ h => absurd hm h⟩
    · obtain ⟨h1, h2⟩ := witnessUpdate_mismatch sender ha hm
      rcases h ha hm with hw | ⟨k, hw, hk⟩
      · exact ⟨_, h1 hw, fun h => absurd ha (by simp [h]), fun _ h => absurd h hm, fun _ _ _ => rfl,
          fun k _ _ h => (nomatch hw.symm.trans h)⟩
      · refine ⟨_, (h2 _ hw).trans (if_pos ⟨rfl, hk⟩), fun h => absurd ha (by simp [h]), fun _ h => absurd h hm,
          fun _ _ h => (nomatch hw.symm.trans h), fun j _ _ h => ?_⟩
        rw [show k = j from congrArg Witness.count (Option.some.inj (hw.symm.trans h))]
  · have ha' : b.authoritative = false := Bool.eq_false_iff.2 ha
    exact ⟨_, hplain ha', fun _ => rfl, fun h => absurd h ha, fun h => absurd h ha, fun _ h => absurd h ha⟩

/-- Settles O47: the judgement of the counted station, then the calendar's part. -/
theorem beaconInSyncedAgesAndCounts : Obligations.BeaconInSyncedAgesAndCounts := by
  refine ⟨ageTable_facts, ?_⟩
  intro head p s f b agrees gone checked hh hp hm hwit
  obtain ⟨w, hw, hplain, hmatch, hfirst, hnext⟩ := witness_counted (s := s) (b := b) (sender := head.source.toNat)
    fun ha hn => hwit ha fun hag => hn (digestMatches_iff.2 hag)
  have hexec := exec_beaconAccepted_hears hh hp
  rw [State.beaconSettled_counted (s := s.lineAccepted f) hm hw] at hexec
  have hwork := (State.beaconCounted_work (s.lineAccepted f) w).trans (judge_work _)
  have hoffers := State.beaconRenewed_offers (s.lineAccepted f) false
  have hchannels := counted_channels (s := s.lineAccepted f) (hl := rfl) (hm := hm) (w := w) (hu := rfl)
  have hstands := fun n => State.counted_stands (s := s.lineAccepted f) w (n := n)
  have hrenew : (((s.lineAccepted f).beaconCounted w).judge).RenewFollows s.line.offers.renew :=
    State.RenewFollows.of_eq (t := ((s.lineAccepted f).beaconCounted w)) (hoffers.1.of_eq rfl rfl rfl)
      (judge_work _).table (judge_work _).settings (judge_renewOffer _)
  have hbeacon : (((s.lineAccepted f).beaconCounted w).judge).line.offers.beacon = false := by
    refine Eq.trans ?_ hoffers.2
    have h := judge_offers ((s.lineAccepted f).beaconCounted w)
    unfold OfferWork at h
    rw [h]
    rfl
  clear hoffers
  have haged : (s.lineAccepted f).agedTable = checked := if_pos hm
  generalize ((s.lineAccepted f).beaconCounted w).judge = u at *
  change exec _ _ = .next (u.timed b) at hexec
  have hframe := timed_frame u b
  have hadj := timed_adjusted u b
  have hoff := timed_off (u := u) (b := b)
  have hon := timed_on (u := u) (b := b) (t := u.timed b) rfl
  generalize u.timed b = t at *
  have hureach : u = { s with
      table := u.table, claims := u.claims, member := u.member, channels := u.channels, line := u.line } := by
    rw [← hwork]
    rfl
  have hmasks : u.masks = s.masks := hwork.masks
  have hreport : u.report = s.report := hwork.report
  have hcalendar : u.calendar = s.calendar := hwork.calendar
  have hid : u.ownId = s.ownId := hwork.ownId
  have hset : u.settings = s.settings := hwork.settings
  obtain ⟨htable, hmember, hreach⟩ := beacon_reaches (s := s) (u := u) (by rw [hmasks, hreport]; exact hureach) hframe
  have hum : u.member = { s.member with beaconTimer := .counting 0, epoch := s.member.epoch + 1, witness := w } :=
    hwork.member
  have hut : u.table = checked.1 := hwork.table.trans (congrArg Prod.fst haged)
  have htm := hmember.trans hum
  obtain ⟨hdue, hidle, hkeep⟩ := hrenew
  rw [hid, hset] at hdue hkeep
  rw [hid] at hidle
  refine ⟨t, u, hexec, by rw [htm]; exact hm, htable.trans hut, by rw [htm], by rw [htm], ?_, hadj.mask.trans (by rw [hmasks]),
    hadj.diverged.trans (by rw [hreport]), fun hv => ?_, hreach, fun ha => ?_, fun ha hg => ?_, fun ha hg hs => ?_,
    fun k ha hg hs => ?_, hureach, htable.symm, hmember.symm, hdue, hidle, hkeep, fun n hg hpr hn => ?_, fun hq ho => ?_,
    fun h => hoff h, fun hv hr _ => ?_⟩
  · have h := hadj.offers
    unfold OfferWork at h
    rw [h]
    exact hbeacon
  · rw [hoff (.inl hv)]
    exact ⟨hcalendar, hwork.lastMinute, hreport, hmasks⟩
  · rw [htm]
    exact hplain ha
  · rw [htm]
    exact hmatch ha (digestMatches_iff.2 hg)
  · rw [htm]
    exact hfirst ha (fun h => hg (digestMatches_iff.1 h)) hs
  · rw [htm]
    exact hnext k ha (fun h => hg (digestMatches_iff.1 h)) hs
  · refine hstands n (fun ⟨r, hr, ho, hc⟩ => hg r hr ho hc) (fun r hr => ?_) hn
    rw [haged] at hr
    exact hpr r hr
  · obtain ⟨h1, h2⟩ := hchannels hq ho
    refine ⟨h1, fun r d hr => ?_⟩
    rw [← haged] at hr
    exact h2 r d hr
  · have h := hon hv hr
    rw [hcalendar] at h
    rw [← hreport]
    exact h

end Sys2Proof.Machine
end

section
/-! PROOFS. What a confirmed divergence leaves: no claim, no HOLD mark, no running budgeted channel; for O48 and O49. -/

namespace Sys2Proof.Machine

/-! ## The HOLD marks -/

/-- Joining the queue sets no HOLD mark (R34, R36). -/
theorem mem_enqueue_hold {u : ClaimUnit} {n : ChannelIx} {d : Demand} (h : ∀ e ∈ u.queue, e.hold = false) {x : Entry}
    (hx : x ∈ (u.enqueue n d).queue) : x.hold = false := by
  have hins {e : Entry} {q : List Entry} (hq : q ⊆ u.queue) (he : e.hold = false) :
      ∀ y ∈ insertEntry e q, y.hold = false := by
    intro y hy
    rcases (mem_insertEntry _ _ _).1 hy with rfl | hy
    · exact he
    · exact h y (hq hy)
  unfold ClaimUnit.enqueue at hx
  split at hx
  · rename_i e he
    exact hins (e := { e with cls := e.cls.higher d.cls, allowance := longer e.allowance d.allowance })
      (removeEntry_sublist _ _).subset (h e (mem_of_entryIn he).1) x hx
  · have happ := hins (List.Subset.refl u.queue)
      (e := { channel := n, cls := d.cls, allowance := d.allowance, hold := false, number := u.enqueueCount }) rfl
    unfold ClaimUnit.append at hx
    dsimp only at hx
    split at hx
    · obtain ⟨y, hy, rfl⟩ := List.mem_map.1 hx
      exact happ y hy
    · exact happ x hx

namespace State

/-- No demand waits held. -/
def holdsClear (s : State) : Prop := ∀ e ∈ s.claims.queue, e.hold = false

theorem holdsClear.judge {s : State} (h : s.holdsClear) : s.judge.holdsClear :=
  fun e he => h e ((judge_queue_sublist s).subset he)

theorem holdsClear.becomeInhibited {s : State} (h : s.holdsClear) (n : ChannelIx) : (s.becomeInhibited n).holdsClear := by
  unfold holdsClear
  rcases becomeInhibited_cases s n with ⟨-, -, hc | ⟨d, hc⟩⟩ | ⟨o, -, -, -, he⟩
  · rw [hc]
    exact h
  · rw [hc]
    exact fun _ => mem_enqueue_hold h
  · rw [he]
    intro e hm
    rcases (mem_insertEntry _ _ _).1 hm with rfl | hm
    · rfl
    · exact h e hm

theorem holdsClear.masked {s : State} (h : s.holdsClear) (m : InhibitMasks) : (s.masked m).holdsClear := by
  unfold State.masked
  refine List.foldlRecOn (motive := holdsClear) allEight _ h fun t ht n _ => ?_
  split
  · exact ht.becomeInhibited n
  · exact ht

/-! ## A station that has given up its claims -/

/-- In LISTENING, with no claim outstanding, no demand held and every budgeted channel OFF or STOPPING. -/
structure GivenUp (s : State) : Prop where
  listening : s.member.state = .listening
  unclaimed : s.claims.outstanding = none
  clear : s.holdsClear
  rests : ∀ n, s.exempt n = false → s.channelState n = .off ∨ s.channelState n = .stopping

/-- One channel changes its state, a budgeted one to OFF or STOPPING. -/
theorem GivenUp.channel {s t : State} (h : s.GivenUp) (hm : t.member = s.member) (hc : t.claims = s.claims)
    (hx : ∀ k, t.exempt k = s.exempt k) {n : ChannelIx} {c : ChannelState}
    (hs : ∀ k, t.channelState k = if k = n then c else s.channelState k)
    (hn : s.exempt n = false → c = .off ∨ c = .stopping) : t.GivenUp where
  listening := by rw [hm]; exact h.listening
  unclaimed := by rw [hc]; exact h.unclaimed
  clear := by unfold holdsClear; rw [hc]; exact h.clear
  rests k hk := by
    rw [hx] at hk
    rw [hs]
    split
    · exact hn (by rwa [← ‹k = n›])
    · exact h.rests k hk

theorem GivenUp.queue {s : State} (h : s.GivenUp) {u : ClaimUnit} (hu : u.outstanding = none)
    (hc : ∀ e ∈ u.queue, e.hold = false) : (s.setClaims u).GivenUp :=
  { h with unclaimed := hu, clear := hc }

/-- A budgeted channel of such a station is neither PENDING nor ON. -/
theorem GivenUp.exempt_of {s : State} (h : s.GivenUp) {n : ChannelIx}
    (hn : (∃ d, s.channelState n = .pending d) ∨ (s.channelState n).isOn = true) (hx : s.exempt n = false) : False := by
  rcases h.rests n hx with h | h <;> rcases hn with ⟨d, hd⟩ | hd <;> rw [h] at hd <;> cases hd

end State

theorem enqueue_outstanding_none {u : ClaimUnit} (h : u.outstanding = none) (n : ChannelIx) (d : Demand) :
    (u.enqueue n d).outstanding = none := by
  unfold ClaimUnit.enqueue
  split
  · exact h
  · unfold ClaimUnit.append
    dsimp only
    split
    · exact congrArg (Option.map _) h
    · exact h

theorem Move.givenUp {s t : State} (hm : Move s t) (h : s.GivenUp) : t.GivenUp := by
  cases hm with
  | enqueue n d _ => exact h.queue (enqueue_outstanding_none h.unclaimed n d) fun _ => mem_enqueue_hold h.clear
  | forget n => exact h.queue h.unclaimed fun e he => h.clear e ((removeEntry_sublist n _).subset he)
  | holdClear => exact h.queue h.unclaimed State.holdClear_holds
  | serve e he hr hw =>
    have hq : (s.setClaims { s.claims with queue := removeEntry e.channel s.claims.queue }).GivenUp :=
      h.queue h.unclaimed fun x hx => h.clear x ((removeEntry_sublist _ _).subset hx)
    unfold State.serveEntry
    rw [if_pos (by rw [he, hr, hw]; rfl)]
    exact hq.channel rfl rfl (fun _ => rfl) (State.channelState_setChannelState _ _ · _)
      fun hx => absurd he (by rw [show s.exempt e.channel = false from hx]; decide)
  | takeUp e _ _ hs _ => exact nomatch h.listening.symm.trans hs
  | dropClaim o c ho _ => exact nomatch h.unclaimed.symm.trans ho
  | returnClaim o c _ ho _ _ => exact nomatch h.unclaimed.symm.trans ho
  | amend o c ho _ _ _ => exact nomatch h.unclaimed.symm.trans ho
  | extendPending n d e hp =>
    exact h.channel rfl rfl (fun _ => rfl) (State.channelState_setChannelState _ _ · _)
      fun hx => (h.exempt_of (.inl ⟨d, hp⟩) hx).elim
  | extendOn n d e hp =>
    exact h.channel rfl rfl (fun _ => rfl) (State.channelState_setChannelState _ _ · _)
      fun hx => (h.exempt_of (.inr (by rw [hp]; rfl)) hx).elim
  | stopPending n d _ =>
    exact h.channel rfl rfl (fun _ => rfl) (State.channelState_setChannelState s n · .stopping) fun _ => .inr rfl
  | stopBudgeted n _ _ =>
    exact h.channel rfl rfl (fun _ => rfl) (State.channelState_setChannelState s n · .stopping) fun _ => .inr rfl
  | goOff n _ => exact h.channel rfl rfl (fun _ => rfl) (State.channelState_setChannelState s n · .off) fun _ => .inl rfl
  | endStopping n _ _ =>
    exact h.channel rfl rfl (fun _ => rfl) (State.channelState_setChannelState s n · .off) fun _ => .inl rfl
  | rest n r => exact { h with rests := fun k hk => by rw [State.channelState_setRest]; exact h.rests k hk }
  | renew b _ => exact { h with }

/-- The calendar's part of a beacon takes up nothing again. -/
theorem State.GivenUp.timed {u : State} (h : u.GivenUp) (b : BeaconFields) : (u.timed b).GivenUp := by
  have hmoves : ∀ s t, Moves s t → s.GivenUp → t.GivenUp := fun _ _ hm hs => hm.keeps (fun _ _ => Move.givenUp) hs
  unfold State.timed
  split
  · exact adjustTime_keeps (P := State.GivenUp)
      (runAction_keeps hmoves fun s m hs => hmoves _ _ (changeMasks_moves s m) { hs with })
      (fun _ _ hs => { hs with }) (fun _ _ hs => { hs with }) (fun _ _ hs => { hs with }) (fun _ hs => { hs with }) _ _ h
  · exact h

end Sys2Proof.Machine
end

section
/-! PROOFS. The channels at a confirmed divergence (R63); for O48. -/

namespace Sys2Proof.Machine

/-! ## A queued demand without a HOLD mark -/

theorem ChannelView.unheld_of_none {v : ChannelView} (h : v.entry = none) : v.unheld = v := by
  unfold unheld
  rw [h]
  change { v with entry := none } = v
  rw [← h]

theorem ChannelView.unheld_of_some {v : ChannelView} {c : Machine.Class} {a : Option Nat} (h : v.entry = some (c, a, false)) :
    v.unheld = v := by
  unfold unheld
  rw [h]
  change { v with entry := some (c, a, false) } = v
  rw [← h]

theorem ChannelView.unheld_requeued {v : ChannelView} (h : v.entry = none) (d : Demand) :
    (v.requeued d).unheld = v.requeued d := by
  by_cases hd : d.allowance = some 0
  · exact unheld_of_none ((entry_requeued_empty hd).trans h)
  · exact unheld_of_some (entry_requeued h hd)

/-! ## One channel, through the pass, the clearing and the judgement -/

namespace State

theorem confirmDivergence_eq (s : State) : s.confirmDivergence =
    s.diverged.clearTable.setMember { s.diverged.clearTable.member.listening with witness := none } := by
  simp only [confirmDivergence, diverged]

/-- A channel at a confirmed divergence: its turn, and the clearing (R29, R63). -/
theorem view_confirmDivergence (s : State) (n : ChannelIx) :
    ∃ t, ClaimWork (s.setFaults { s.report.faults with diverged := true }) t ∧ t.view n = s.view n ∧
      s.confirmDivergence.view n = ((t.divergeChannel n).view n).unheld := by
  obtain ⟨t, hw, hv, he⟩ := view_foldl (f := State.divergeChannel) divergeChannel_work
    (fun t m hn => view_divergeChannel_ne t hn) allEight_nodup (mem_allEight n)
    (s.setFaults { s.report.faults with diverged := true })
  refine ⟨t, hw, hv, ?_⟩
  rw [confirmDivergence_eq, view_setMember, view_clearTable]
  exact congrArg ChannelView.unheld he

theorem confirmDivergence_listening (s : State) : s.confirmDivergence.member.state = .listening := by
  rw [(confirmDivergence_work s).member]
  rfl

section
variable {s : State} {n : ChannelIx}

theorem view_diverged_on {d : Demand} (hx : s.exempt n = false) (hs : s.channelState n = .switchedOn d)
    (he : s.entryOf n = none) :
    s.confirmDivergence.view n = ((s.view n).off false (s.channelSettings n).rest).requeued d := by
  obtain ⟨t, hw, hv, hview⟩ := view_confirmDivergence s n
  have hset : t.channelSettings n = s.channelSettings n := by
    unfold channelSettings
    rw [hw.settings]
    rfl
  rw [hview, view_divergeChannel_on (by rw [hw.exempt]; exact hx) ((channelState_of_view hv).trans hs), hv, hset]
  exact ChannelView.unheld_requeued ((ChannelView.entry_off _ _ _).trans (entryOf_eq_none_iff.1 he)) d

theorem view_diverged_pending {d : Demand} (hx : s.exempt n = false) (hs : s.channelState n = .pending d)
    (he : s.entryOf n = none) : s.confirmDivergence.view n = (s.view n).stop.requeued d := by
  obtain ⟨t, hw, hv, hview⟩ := view_confirmDivergence s n
  rw [hview, view_divergeChannel_pending (by rw [hw.exempt]; exact hx) ((channelState_of_view hv).trans hs), hv]
  exact ChannelView.unheld_requeued (v := (s.view n).stop) (entryOf_eq_none_iff.1 he) d

theorem view_diverged_stopping (hs : s.channelState n = .stopping) : s.confirmDivergence.view n = (s.view n).unheld := by
  obtain ⟨t, hw, hv, hview⟩ := view_confirmDivergence s n
  rw [hview, divergeChannel_stopping ((channelState_of_view hv).trans hs), hv]

theorem view_diverged_off (hx : s.exempt n = false) (hs : s.channelState n = .off) :
    s.confirmDivergence.view n =
      (if (findHolding s.ownId n s.table).isSome then (s.view n).stop else s.view n).unheld := by
  obtain ⟨t, hw, hv, hview⟩ := view_confirmDivergence s n
  have hid : t.ownId = s.ownId := hw.ownId
  have htable : t.table = s.table := hw.table
  rw [hview, view_divergeChannel_off (by rw [hw.exempt]; exact hx) ((channelState_of_view hv).trans hs), hv, hid, htable]

theorem view_diverged_exempt (hx : s.exempt n = true) : s.confirmDivergence.view n = (s.view n).unheld := by
  obtain ⟨t, hw, hv, hview⟩ := view_confirmDivergence s n
  rw [hview, divergeChannel_exempt (by rw [hw.exempt]; exact hx), hv]

end

theorem view_diverged_claim {s : State} (h : s.QueueCore) {o : OutstandingClaim} (ho : s.claims.outstanding = some o) :
    s.confirmDivergence.view o.channel =
      { (s.view o.channel).become .off with claim := none, entry := some (o.cls, o.allowance, false) } := by
  obtain ⟨t, hw, hv, hview⟩ := view_confirmDivergence s o.channel
  obtain ⟨k, hk⟩ := claim_of_view hv ho rfl
  have hx : s.exempt o.channel = false := h.claim_budgeted ho
  have hs : s.channelState o.channel = .claiming := h.claim_channel ho
  have hc := view_divergeChannel_claim (s := t) (o := { o with number := k })
    (by rw [hw.exempt]; exact hx) ((channelState_of_view hv).trans hs) hk
    ((entry_of_view hv).2 (h.claim_entry ho))
  rw [hview, show (t.divergeChannel o.channel).view o.channel = _ from hc, hv]
  rfl

/-! ## The claim and its offer -/

/-- A claim that has ended is offered no longer. -/
def claimOfferEnds (s : State) : Prop := s.claims.outstanding = none → s.line.offers.claim = false

theorem claimOfferEnds.of_eq {s t : State} (h : s.claimOfferEnds) (hc : t.claims.outstanding = s.claims.outstanding)
    (ho : t.line.offers.claim = s.line.offers.claim) : t.claimOfferEnds := fun hn => ho.trans (h (hc.symm.trans hn))

theorem requeue_outstanding (s : State) (n : ChannelIx) (d : Demand) (h : s.claims.outstanding ≠ none) :
    (s.requeue n d).claims.outstanding ≠ none := by
  unfold requeue
  split
  · exact h
  · change (s.claims.enqueue n d).outstanding ≠ none
    unfold ClaimUnit.enqueue
    split
    · exact h
    · unfold ClaimUnit.append
      dsimp only
      split
      · exact fun hn => h (Option.map_eq_none_iff.1 hn)
      · exact h

theorem claimOfferEnds.requeue {s : State} (h : s.claimOfferEnds) (n : ChannelIx) (d : Demand) :
    (s.requeue n d).claimOfferEnds := fun hn => by
  rw [requeue_offers]
  by_contra hc
  exact requeue_outstanding s n d (fun hs => hc (h hs)) hn

theorem claimOfferEnds.divergeChannel {s : State} (h : s.claimOfferEnds) (n : ChannelIx) :
    (s.divergeChannel n).claimOfferEnds := by
  unfold State.divergeChannel
  split
  · exact h
  · split
    · obtain ⟨-, ho, hc⟩ := switchOff_claimOffer s n
      exact (h.of_eq (congrArg ClaimUnit.outstanding hc) ho).requeue n _
    · exact (h.of_eq (t := s.enterStopping n) rfl rfl).requeue n _
    · exact h
    · split
      · exact h.of_eq rfl rfl
      · exact h
    · split
      · split
        · exact fun _ => rfl
        · exact h
      · exact h

theorem claimOfferEnds.confirmDivergence {s : State} (h : s.claimOfferEnds) : s.confirmDivergence.claimOfferEnds := by
  have hfold : s.diverged.claimOfferEnds :=
    List.foldlRecOn (motive := claimOfferEnds) allEight _ (h.of_eq rfl rfl) fun _ ht n _ => ht.divergeChannel n
  have hclear : ∀ t : State, t.clearTable.line.offers.claim = t.line.offers.claim := fun t => by
    unfold State.clearTable dropIdleRenew
    split <;> rfl
  rw [confirmDivergence_eq]
  generalize s.diverged = t at *
  exact hfold.of_eq (by rw [State.setMember_claims, clearTable_claims]) (hclear t)

/-! ## What is left -/

/-- A confirmed divergence leaves the station with its claims given up (R63). -/
theorem givenUp_confirmDivergence {s : State} (h : s.QueueCore) (ho : s.member.state.online = true) :
    s.confirmDivergence.GivenUp where
  listening := confirmDivergence_listening s
  unclaimed := confirmDivergence_outstanding h ho
  clear e he := by
    have hc : ∀ t : State, ∀ e ∈ t.clearTable.claims.queue, e.hold = false := fun t e he => by
      rw [clearTable_claims] at he
      exact mem_clearHolds he
    rw [confirmDivergence_eq] at he
    exact hc s.diverged e he
  rests n hx := by
    replace hx : s.exempt n = false := ((confirmDivergence_work s).exempt n).symm.trans hx
    change (s.confirmDivergence.view n).channel.state = .off ∨ (s.confirmDivergence.view n).channel.state = .stopping
    cases hs : s.channelState n with
    | off =>
      rw [view_diverged_off hx hs]
      split
      · exact .inr rfl
      · exact .inl hs
    | claiming =>
      obtain ⟨o, hout, rfl⟩ := State.claimed_eq_some.1 ((h.claims n).1 hs)
      rw [view_diverged_claim h hout]
      exact .inl rfl
    | pending d =>
      rw [view_diverged_pending hx hs (h.entry_of_pending hs), ChannelView.channel_requeued]
      exact .inr rfl
    | switchedOn d =>
      rw [view_diverged_on hx hs (h.entry_of_on hs), ChannelView.channel_requeued, ChannelView.state_off]
      exact .inr rfl
    | stopping =>
      rw [view_diverged_stopping hs]
      exact .inr hs

/-- A confirmed divergence leaves no RENEW offer (R29, R71). -/
theorem confirmDivergence_renew (s : State) : s.confirmDivergence.line.offers.renew = false := by
  have hclear : ∀ t : State, t.clearTable.line.offers.renew = false := fun t => by
    unfold State.clearTable
    refine (State.dropIdleRenew_renew (t.setTable [])).trans ?_
    exact if_pos rfl
  rw [confirmDivergence_eq]
  exact hclear s.diverged

end State

end Sys2Proof.Machine
end

section
/-! PROOFS. A BEACON that confirms a divergence; settles O48. -/

namespace Sys2Proof.Machine

/-- The promotion check keeps the keys of the table (R25). -/
theorem findHolding_promoted {budget holder : Nat} {n : ChannelIx} {t : List Holding} :
    (findHolding holder n (promotionCheck budget t).1).isSome = true ↔ ∃ r ∈ t, r.holder = holder ∧ r.channel = n := by
  rw [findHolding_isSome]
  rcases promotionCheck_table budget t with ht | ht <;> rw [ht]
  have hkey : ∀ r : Holding, (if r.state == .pending then { r with state := .held } else r).key = r.key := fun r => by
    split <;> rfl
  unfold promoteTable
  simp only [List.mem_map, exists_exists_and_eq_and]
  refine exists_congr fun r => and_congr_right fun _ => ?_
  have hr := hkey r
  simp only [Holding.key, Prod.mk.injEq] at hr
  rw [hr.1, hr.2]

namespace State

/-! ## The station before the divergence -/

/-- The station after the table's part of a beacon that confirms a divergence, its epoch counted. -/
def beaconDiverging (s : State) : State :=
  (s.beaconRenewed true).setMember
    { (s.beaconRenewed true).member with epoch := (s.beaconRenewed true).member.epoch + 1 }

theorem beaconSettled_diverging {s : State} {b : BeaconFields} {sender : Nat} (hm : s.member.state = .synced)
    (hw : s.witnessUpdate b sender false = none) :
    s.beaconSettled b sender false = s.beaconDiverging.confirmDivergence.judge := by
  rw [beaconSettled_eq, if_pos hm, hw]
  rfl

theorem beaconDiverging_work (s : State) :
    ClaimWork
      ((s.setTable s.agedTable.1).setMember
        { s.member with beaconTimer := .counting 0, epoch := s.member.epoch + 1 })
      s.beaconDiverging :=
  (beaconRenewed_work s true).setMember fun m => { m with epoch := m.epoch + 1 }

theorem view_beaconDiverging (s : State) (n : ChannelIx) : s.beaconDiverging.view n = s.aged.view n :=
  view_beaconRenewed s true n

theorem beaconDiverging_queueCore {s : State} (h : s.QueueCore) (hl : s.drivesLine = false)
    (ho : s.member.state.online = true) : s.beaconDiverging.QueueCore :=
  { queueCore_effects.beaconRenewed true hl ho h with }

/-- A channel without an entry whose record stands is left by the table's part. -/
theorem view_aged_of_no_entry {s : State} {n : ChannelIx} (he : s.entryOf n = none)
    (h : ¬ (s.expires n ∧ s.exempt n = false)) : s.aged.view n = s.view n := by
  rcases view_aged h with hv | hv
  · exact hv
  · rw [hv, ChannelView.unheld_of_none (entryOf_eq_none_iff.1 he)]

/-- The expiry of its record leaves a channel that is OFF or CLAIMING (R87). -/
theorem expired_of_rest {v : ChannelView} (h : v.channel.state = .off ∨ v.channel.state = .claiming) (rest : Nat) :
    v.expired rest = v := by
  unfold ChannelView.expired
  rcases h with h | h <;> rw [h]

theorem view_aged_of_rest {s : State} {n : ChannelIx}
    (h : s.channelState n = .off ∨ s.channelState n = .claiming) :
    s.aged.view n = s.view n ∨ s.aged.view n = (s.view n).unheld := by
  by_cases hg : s.expires n ∧ s.exempt n = false
  · right
    rw [view_aged_expires hg.1 hg.2, expired_of_rest h]
  · exact view_aged hg

end State

/-- The class and the allowance of a queued demand. -/
theorem State.terms_entryOf (s : State) (n : ChannelIx) :
    (s.entryOf n).map (fun e => (e.cls, e.allowance)) = (s.view n).entry.map fun e => (e.1, e.2.1) := by
  change _ = Option.map _ ((s.entryOf n).map Entry.terms)
  rw [Option.map_map]
  rfl

theorem ChannelView.terms_unheld (v : ChannelView) :
    v.unheld.entry.map (fun e => (e.1, e.2.1)) = v.entry.map fun e => (e.1, e.2.1) := by
  unfold unheld
  rw [Option.map_map]
  rfl

/-! ## The channels by the table of R63 -/

section
variable {s u : State} {n : ChannelIx}

/-- An own record of the channel outlives the beacon (R21). -/
def State.outlives (s : State) (n : ChannelIx) : Prop :=
  ∃ r ∈ liveRecords (ageTable s.table), r.holder = s.ownId ∧ r.channel = n

theorem beaconDiverging_recorded (hm : s.member.state = .synced) :
    (findHolding s.beaconDiverging.ownId n s.beaconDiverging.table).isSome = true ↔ s.outlives n := by
  have hw := State.beaconDiverging_work s
  have htable : s.beaconDiverging.table = (promotionCheck s.settings.budget (liveRecords (ageTable s.table))).1 := by
    rw [hw.table]
    change s.agedTable.1 = _
    unfold State.agedTable
    rw [if_pos hm]
  have hid : s.beaconDiverging.ownId = s.ownId := hw.ownId
  rw [hid, htable]
  exact findHolding_promoted

/-- A channel whose record expired at the beacon is OFF with its demand waiting (R63). -/
theorem diverged_expired (hm : s.member.state = .synced) (ho : tableOrdered s.table) (hx : s.exempt n = false)
    (hu : u.view n = s.beaconDiverging.confirmDivergence.view n) (he : s.expires n)
    (hs : (s.aged.view n).channel.state = .off) : u.view n = (s.aged.view n).unheld := by
  have hw := State.beaconDiverging_work s
  have hoff : s.beaconDiverging.channelState n = .off := by
    refine Eq.trans ?_ hs
    rw [← State.view_beaconDiverging]
    rfl
  have hnone : ¬ (findHolding s.beaconDiverging.ownId n s.beaconDiverging.table).isSome = true := by
    rw [beaconDiverging_recorded hm]
    rintro ⟨r, hr, hown, rfl⟩
    exact State.not_expires_of_live ho hr hown he
  rw [hu, State.view_diverged_off (by rw [hw.exempt]; exact hx) hoff, if_neg hnone, State.view_beaconDiverging]

theorem diverged_on (core : s.QueueCore) (hm : s.member.state = .synced) (ho : tableOrdered s.table)
    (hx : s.exempt n = false) (hu : u.view n = s.beaconDiverging.confirmDivergence.view n) {d : Demand}
    (hs : s.channelState n = .switchedOn d) :
    ((s.channelSettings n).rest ≠ 0 → (u.channel n).rest = (s.channelSettings n).rest * 64) ∧
      (d.allowance ≠ some 0 → u.holdsEntry n d) ∧
      (¬ s.expires n → u.channelState n = .stopping ∧ u.line.offers.releases[n] = true) ∧
      (s.expires n → u.channelState n = .off ∧ u.line.offers.releases[n] = s.line.offers.releases[n]) := by
  have hw := State.beaconDiverging_work s
  have he := core.entry_of_on hs
  have hset : s.beaconDiverging.channelSettings n = s.channelSettings n := by
    unfold State.channelSettings
    rw [hw.settings]
    rfl
  by_cases hg : s.expires n
  · have hb := State.aged_on hg hx hs he
    have hv := diverged_expired hm ho hx hu hg hb.state
    have hb' := hb.unheld
    rw [← hv] at hb'
    refine ⟨fun hr => hb'.rest.trans (if_neg hr), fun hd => State.entry_of_view_some (hb'.entry hd), fun h => absurd hg h,
      fun _ => ⟨hb'.state, hb'.release⟩⟩
  · have hv : s.beaconDiverging.view n = s.view n :=
      (State.view_beaconDiverging s n).trans (State.view_aged_of_no_entry he fun h => hg h.1)
    rw [State.view_diverged_on (by rw [hw.exempt]; exact hx) ((State.channelState_of_view hv).trans hs)
      (State.entryOf_eq_none_iff.2 ((congrArg ChannelView.entry hv).trans (State.entryOf_eq_none_iff.1 he))), hv, hset] at hu
    obtain ⟨h1, h2, h3, h4, -⟩ := State.off_requeued hu
    exact ⟨fun hr => h3.trans (if_neg hr), h4 (State.entryOf_eq_none_iff.1 he), fun _ => ⟨h1, h2⟩, fun h => absurd h hg⟩

theorem diverged_pending (core : s.QueueCore) (hm : s.member.state = .synced) (ho : tableOrdered s.table)
    (hx : s.exempt n = false) (hu : u.view n = s.beaconDiverging.confirmDivergence.view n) {d : Demand}
    (hs : s.channelState n = .pending d) :
    (u.channel n).rest = (s.channel n).rest ∧ (d.allowance ≠ some 0 → u.holdsEntry n d) ∧
      (¬ s.expires n → u.channelState n = .stopping ∧ u.line.offers.releases[n] = true) ∧
      (s.expires n → u.channelState n = .off ∧ u.line.offers.releases[n] = s.line.offers.releases[n]) := by
  have hw := State.beaconDiverging_work s
  have he := core.entry_of_pending hs
  by_cases hg : s.expires n
  · have hb := State.aged_pending hg hx hs he
    have hv := diverged_expired hm ho hx hu hg hb.state
    have hb' := hb.unheld
    rw [← hv] at hb'
    exact ⟨hb'.rest, fun hd => State.entry_of_view_some (hb'.entry hd), fun h => absurd hg h,
      fun _ => ⟨hb'.state, hb'.release⟩⟩
  · have hv : s.beaconDiverging.view n = s.view n :=
      (State.view_beaconDiverging s n).trans (State.view_aged_of_no_entry he fun h => hg h.1)
    rw [State.view_diverged_pending (by rw [hw.exempt]; exact hx) ((State.channelState_of_view hv).trans hs)
      (State.entryOf_eq_none_iff.2 ((congrArg ChannelView.entry hv).trans (State.entryOf_eq_none_iff.1 he))), hv] at hu
    obtain ⟨h1, h2, h3⟩ := State.stop_requeued hu
    exact ⟨by rw [h1]; rfl, h3 (State.entryOf_eq_none_iff.1 he), fun _ => ⟨congrArg Channel.state h1, h2⟩,
      fun h => absurd h hg⟩

theorem diverged_stopping (hm : s.member.state = .synced) (ho : tableOrdered s.table)
    (hx : s.exempt n = false) (hu : u.view n = s.beaconDiverging.confirmDivergence.view n)
    (hs : s.channelState n = .stopping) :
    (¬ s.expires n → u.channel n = s.channel n ∧ u.line.offers.releases[n] = s.line.offers.releases[n]) ∧
      (s.expires n → u.channel n = { s.channel n with state := .off } ∧ u.line.offers.releases[n] = false) := by
  refine ⟨fun hg => ?_, fun hg => ?_⟩
  · have hstands := State.channel_aged fun h => hg h.1
    have hv := State.view_beaconDiverging s n
    rw [State.view_diverged_stopping (s := s.beaconDiverging) ((congrArg (fun v => v.channel.state) hv).trans
      ((congrArg Channel.state hstands.1).trans hs)), hv] at hu
    exact ⟨(congrArg ChannelView.channel hu).trans hstands.1, (congrArg ChannelView.release hu).trans hstands.2⟩
  · have hb := State.aged_stopping hg hx hs
    have hv := diverged_expired hm ho hx hu hg (by rw [hb]; rfl)
    rw [hb] at hv
    exact ⟨congrArg ChannelView.channel hv, congrArg ChannelView.release hv⟩

theorem diverged_off (hm : s.member.state = .synced) (hx : s.exempt n = false)
    (hu : u.view n = s.beaconDiverging.confirmDivergence.view n) (hs : s.channelState n = .off) :
    (s.outlives n → u.channel n = { s.channel n with state := .stopping } ∧ u.line.offers.releases[n] = true) ∧
      (¬ s.outlives n → u.channel n = s.channel n ∧ u.line.offers.releases[n] = s.line.offers.releases[n]) ∧
      ((u.entryOf n).map fun e => (e.cls, e.allowance)) = (s.entryOf n).map fun e => (e.cls, e.allowance) := by
  have hw := State.beaconDiverging_work s
  have hrest := State.view_aged_of_rest (.inl hs)
  rw [← State.view_beaconDiverging] at hrest
  have hc : s.beaconDiverging.channel n = s.channel n := by
    rcases hrest with h | h <;> exact congrArg ChannelView.channel h
  have hr : s.beaconDiverging.line.offers.releases[n] = s.line.offers.releases[n] := by
    rcases hrest with h | h <;> exact congrArg ChannelView.release h
  have hterms : (s.beaconDiverging.view n).entry.map (fun e => (e.1, e.2.1)) =
      (s.view n).entry.map fun e => (e.1, e.2.1) := by
    rcases hrest with h | h <;> rw [h]
    exact ChannelView.terms_unheld _
  rw [State.view_diverged_off (by rw [hw.exempt]; exact hx) ((congrArg Channel.state hc).trans hs)] at hu
  rw [State.terms_entryOf, State.terms_entryOf, hu, ← hterms, ← beaconDiverging_recorded hm]
  refine ⟨fun h => ?_, fun h => ?_, ?_⟩
  · rw [if_pos h] at hu
    exact ⟨(congrArg ChannelView.channel hu).trans (congrArg (fun c : Channel => { c with state := .stopping }) hc),
      congrArg ChannelView.release hu⟩
  · rw [if_neg h] at hu
    exact ⟨(congrArg ChannelView.channel hu).trans hc, (congrArg ChannelView.release hu).trans hr⟩
  · rw [ChannelView.terms_unheld]
    split <;> rfl

theorem diverged_claim (core : s.QueueCore) (hl : s.drivesLine = false) (hm : s.member.state = .synced)
    {o : OutstandingClaim} (ho : s.claims.outstanding = some o)
    (hu : u.view o.channel = s.beaconDiverging.confirmDivergence.view o.channel) :
    u.channel o.channel = { s.channel o.channel with state := .off } ∧
      u.holdsEntry o.channel { cls := o.cls, allowance := o.allowance } ∧
      u.line.offers.releases[o.channel] = s.line.offers.releases[o.channel] ∧
      s.beaconDiverging.confirmDivergence.line.offers.claim = false := by
  have hcore := State.beaconDiverging_queueCore core hl (by rw [hm]; rfl)
  have he := core.claim_entry ho
  have hv : s.beaconDiverging.view o.channel = s.view o.channel := by
    rw [State.view_beaconDiverging]
    rcases State.view_aged_of_rest (.inr (core.claim_channel ho)) with h | h
    · exact h
    · rw [h, ChannelView.unheld_of_none (State.entryOf_eq_none_iff.1 he)]
  obtain ⟨k, hk⟩ := State.claim_of_view hv ho rfl
  have hview := State.view_diverged_claim hcore hk
  rw [hv] at hview
  have hend : s.beaconDiverging.claimOfferEnds := fun hn => nomatch hn.symm.trans hk
  rw [hview] at hu
  exact ⟨congrArg ChannelView.channel hu, State.entry_of_view_some (congrArg ChannelView.entry hu),
    congrArg ChannelView.release hu,
    hend.confirmDivergence (confirmDivergence_outstanding hcore (by rw [(State.beaconDiverging_work s).member]; exact congrArg _ hm))⟩

end

end Sys2Proof.Machine
end

section
/-! PROOFS. The assembly of O48. -/

namespace Sys2Proof.Machine

theorem BeaconWork.reaches {s x u : State} (h : BeaconWork x u) (hx : x = { s with line := x.line }) :
    u = { s with
      table := u.table, claims := u.claims, member := u.member, channels := u.channels, masks := u.masks
      line := u.line, report := u.report } := by
  unfold BeaconWork at h
  rw [hx] at h
  rw [← h]

/-- What a confirmed divergence leaves of the table, the membership controller and the faults (R62, R63, R66). -/
theorem diverging_work (s : State) :
    s.beaconDiverging.confirmDivergence.judge.table = [] ∧
      s.beaconDiverging.confirmDivergence.judge.member =
        { s.member with
          state := .listening, epoch := s.member.epoch + 1, beaconTimer := .counting 0, witness := none
          beaconsHeard := 0, authHeard := false } ∧
      s.beaconDiverging.confirmDivergence.judge.report.faults.diverged = true ∧
      s.beaconDiverging.confirmDivergence.judge.line.offers.renew = false := by
  have hw := State.beaconDiverging_work s
  have hd := (confirmDivergence_work s.beaconDiverging).trans (judge_work _)
  refine ⟨hd.table, ?_, by rw [hd.report]; rfl, (judge_renewOffer _).trans (State.confirmDivergence_renew _)⟩
  rw [hd.member]
  change { s.beaconDiverging.member.listening with witness := none } = _
  rw [hw.member]
  rfl

/-- Once the divergence is confirmed the judgement leaves every budgeted channel (R43, R63). -/
theorem view_diverging_judge {s : State} {n : ChannelIx} (hx : s.exempt n = false) :
    s.beaconDiverging.confirmDivergence.judge.view n = s.beaconDiverging.confirmDivergence.view n := by
  refine State.view_judge_of_not_synced (by rw [State.confirmDivergence_listening]; decide) ?_
  have hy : s.beaconDiverging.exempt n = false := ((State.beaconDiverging_work s).exempt n).trans hx
  generalize s.beaconDiverging = y at *
  exact ((confirmDivergence_work y).exempt n).trans hy

theorem channel_of_unheld {t : State} {n : ChannelIx} {v : ChannelView} (h : t.view n = v.unheld) :
    t.channel n = v.channel := congrArg ChannelView.channel h

/-- An exempt channel that runs goes on through a confirmed divergence (R63, R88). -/
theorem diverged_exempt {s : State} {n : ChannelIx} (hx : s.exempt n = true) (hs : s.channelState n ≠ .off) :
    s.beaconDiverging.confirmDivergence.judge.channel n = s.channel n := by
  have hstands := State.channel_aged (s := s) (n := n) fun h => by rw [hx] at h; cases h.2
  have hv := State.view_diverged_exempt (s := s.beaconDiverging) (((State.beaconDiverging_work s).exempt n).trans hx)
  rw [State.view_beaconDiverging] at hv
  generalize s.beaconDiverging.confirmDivergence = y at *
  have hc : y.channel n = s.channel n := (channel_of_unheld hv).trans hstands.1
  rw [State.channel_of_view (State.view_judge_of_ne_off (by unfold State.channelState; rw [hc]; exact hs)), hc]

/-- Out of SYNCED the judgement leaves the CLAIM offer (R43). -/
theorem diverged_claimOffer {s : State} (h : s.beaconDiverging.confirmDivergence.line.offers.claim = false) :
    s.beaconDiverging.confirmDivergence.judge.line.offers.claim = false := by
  rw [judge_line, takes_of_not_synced (by rw [State.confirmDivergence_listening]; decide)]
  exact h

/-- Settles O48: the confirmed divergence of the station the beacon has aged, then the calendar's part. -/
theorem divergenceGivesUpTheTable : Obligations.DivergenceGivesUpTheTable := by
  intro head p s w f b aged expired recorded hq hh hp hm ha hmis hwit hconf
  have hw : s.witnessUpdate b head.source.toNat false = none := by
    rw [(witnessUpdate_mismatch head.source.toNat ha fun h => hmis (digestMatches_iff.1 h)).2 w hwit]
    exact if_neg fun h => hconf.elim (fun h' => h' h.1) fun h' => Nat.not_lt.2 h' h.2
  have hexec := exec_beaconAccepted_hears hh hp
  have core : (s.lineAccepted f).QueueCore := { ((queueInv_iff s).1 hq).toQueueCore with }
  have hreach := (beaconSettled_work (s.lineAccepted f) b head.source.toNat false).reaches (s := s) rfl
  rw [State.beaconSettled_diverging (s := s.lineAccepted f) hm hw] at hexec hreach
  obtain ⟨hut, hum, hud, hur⟩ := diverging_work (s.lineAccepted f)
  have hgiven : (s.lineAccepted f).beaconDiverging.confirmDivergence.judge.GivenUp := by
    have hcore := State.beaconDiverging_queueCore core rfl (by rw [show (s.lineAccepted f).member.state = _ from hm]; rfl)
    refine (judge_moves _).keeps (fun _ _ => Move.givenUp) (State.givenUp_confirmDivergence hcore ?_)
    rw [(State.beaconDiverging_work (s.lineAccepted f)).member]
    exact congrArg MemberState.online hm
  have hexempt := fun n => diverged_exempt (s := s.lineAccepted f) (n := n)
  have hview := fun n => view_diverging_judge (s := s.lineAccepted f) (n := n)
  have hoffer := diverged_claimOffer (s := s.lineAccepted f)
  generalize (s.lineAccepted f).beaconDiverging.confirmDivergence.judge = u at *
  change exec _ _ = .next (u.timed b) at hexec
  have hframe := timed_frame u b
  have hadj := timed_adjusted u b
  have hgt := hgiven.timed b
  have htimed : u.timed b = if b.timeValid then u.adjustTime b.time false else u := rfl
  generalize u.timed b = t at *
  obtain ⟨htable, hmember, htreach⟩ := beacon_reaches (s := s) hreach hframe
  have htm := hmember.trans hum
  have hte : ∀ n, t.exempt n = s.exempt n := State.exempt_of_settings (by rw [htreach])
  refine ⟨t, u, hexec, by rw [htm], hadj.diverged.trans hud, htable.trans hut, by rw [htm], by rw [htm], by rw [htm],
    by rw [htm], by rw [htm]; rfl, ?_, hgt.unclaimed, hgt.clear, htreach, fun n hx => ?_, htimed, hexempt, fun n hx ho => ?_⟩
  · have h := hadj.offers
    unfold OfferWork at h
    rw [h]
    exact hur
  · have hrest := hgt.rests n ((hte n).trans hx)
    refine ⟨hrest, fun _ => State.outputActive_of_not_on ?_⟩
    rcases hrest with h | h <;> rw [h] <;> rfl
  · have hu := hview n hx
    have hstop := diverged_stopping (s := s.lineAccepted f) hm ho hx hu
    have hoff := diverged_off (s := s.lineAccepted f) hm hx hu
    refine ⟨fun d hd => diverged_on core hm ho hx hu hd, fun d hd => diverged_pending core hm ho hx hu hd,
      fun o hout hon => ?_, fun hs => (hstop hs).1, fun hs => (hstop hs).2, fun hs => hoff hs⟩
    subst hon
    obtain ⟨h1, h2, h3, h4⟩ := diverged_claim core rfl hm hout hu
    exact ⟨h1, h2, h3, hoffer h4⟩

end Sys2Proof.Machine
end

section
/-! PROOFS. A BEACON applied in LISTENING: the mask it brings, the join's count, and the own channels; for O49. -/

namespace Sys2Proof.Machine

namespace State

/-! ## The adopted mask -/

/-- The membership controller's counts at another station's beacon in LISTENING (R59, R67). -/
def beaconHeard (s : State) (b : BeaconFields) : State :=
  s.setMember { s.member with
    epoch := b.epoch, beaconsHeard := s.member.beaconsHeard + 1, authHeard := s.member.authHeard || b.authoritative }

/-- The masks once an authoritative beacon's mask is taken (R68). -/
def adoptedMasks (s : State) (b : BeaconFields) : InhibitMasks :=
  if b.authoritative then { s.masks with line := b.mask } else s.masks

theorem beaconAdopted_eq (s : State) (b : BeaconFields) : s.beaconAdopted b false =
    if b.authoritative then (s.beaconHeard b).changeMasks (s.adoptedMasks b) else s.beaconHeard b := by
  unfold beaconAdopted beaconHeard adoptedMasks
  cases b.authoritative <;> rfl

section
variable {s : State} {b : BeaconFields} {n : ChannelIx}

theorem beaconAdopted_masks (s : State) (b : BeaconFields) :
    (s.beaconAdopted b false).masks = s.adoptedMasks b ∧ (s.beaconAdopted b false).report = s.report := by
  rw [beaconAdopted_eq]
  unfold adoptedMasks
  split
  · exact ⟨changeMasks_masks _ _, changeMasks_report _ _⟩
  · exact ⟨rfl, rfl⟩

theorem beaconAdopted_offers (s : State) (b : BeaconFields) : OfferWork s (s.beaconAdopted b false) := by
  rw [beaconAdopted_eq]
  split
  · exact changeMasks_offers (s.beaconHeard b) _
  · exact .refl s

theorem beaconAdopted_inhibited (s : State) (b : BeaconFields) (n : ChannelIx) :
    (s.beaconAdopted b false).inhibited n = ((s.beaconHeard b).setMasks (s.adoptedMasks b)).inhibited n :=
  inhibited_congr (t := s.beaconAdopted b false) (s := (s.beaconHeard b).setMasks (s.adoptedMasks b))
    (beaconAdopted_masks s b).1 (beaconAdopted_work s b false).settings n

/-- A channel that the beacon's mask does not stop stands, unless it is OFF (R97). -/
theorem view_adopted_stands (h : s.inhibited n = true ∨ (s.beaconAdopted b false).inhibited n = false)
    (hn : s.channelState n ≠ .off) : (s.beaconAdopted b false).view n = s.view n := by
  rw [beaconAdopted_inhibited] at h
  rw [beaconAdopted_eq]
  split
  · exact view_changeMasks_stands (s := s.beaconHeard b) h hn
  · rfl

/-- A channel becomes inhibited by an authoritative beacon's mask alone. -/
theorem adopted_masked (h1 : s.inhibited n = false) (h2 : (s.beaconAdopted b false).inhibited n = true) :
    (s.beaconAdopted b false).view n = ((s.beaconHeard b).masked (s.adoptedMasks b)).view n := by
  rw [beaconAdopted_inhibited] at h2
  rw [beaconAdopted_eq]
  split
  · exact view_changeMasks_of_inhibited h2
  · rename_i ha
    have hm : s.adoptedMasks b = s.masks := if_neg ha
    rw [hm] at h2
    exact absurd (h1.symm.trans h2) (by decide)

theorem view_adopted_on {d : Demand} (h1 : s.inhibited n = false) (h2 : (s.beaconAdopted b false).inhibited n = true)
    (h : s.channelState n = .switchedOn d) :
    (s.beaconAdopted b false).view n = ((s.view n).off (s.exempt n) (s.channelSettings n).rest).requeued d := by
  rw [adopted_masked h1 h2]
  rw [beaconAdopted_inhibited] at h2
  exact view_masked_on (s := s.beaconHeard b) h1 h2 h

theorem view_adopted_pending {d : Demand} (h1 : s.inhibited n = false)
    (h2 : (s.beaconAdopted b false).inhibited n = true) (h : s.channelState n = .pending d) :
    (s.beaconAdopted b false).view n = (s.view n).stop.requeued d := by
  rw [adopted_masked h1 h2]
  rw [beaconAdopted_inhibited] at h2
  exact view_masked_pending (s := s.beaconHeard b) h1 h2 h

/-- A budgeted channel that is OFF or STOPPING is left, the judgement claiming nothing out of SYNCED (R43, R97). -/
theorem view_adopted_rests (hx : s.exempt n = false) (hm : s.member.state ≠ .synced)
    (h : s.channelState n = .off ∨ s.channelState n = .stopping) : (s.beaconAdopted b false).view n = s.view n := by
  rw [beaconAdopted_eq]
  split
  · have hw := masked_work (s.beaconHeard b) (s.adoptedMasks b)
    rw [changeMasks_eq, view_judge_of_not_synced (by rw [hw.member]; exact hm) (by rw [hw.exempt]; exact hx)]
    exact view_masked_rests (s := s.beaconHeard b) h
  · rfl

theorem holdsClear.adopted (h : s.holdsClear) (b : BeaconFields) : (s.beaconAdopted b false).holdsClear := by
  rw [beaconAdopted_eq]
  split
  · exact holdsClear.judge (holdsClear.masked (s := s.beaconHeard b) h _)
  · exact h

end

/-! ## The join's count -/

/-- The station after a beacon in LISTENING, before the judgement. -/
def listened (s : State) (b : BeaconFields) : State :=
  (s.beaconRenewed false).beaconListening b false (tableDigest s.table)

theorem beaconSettled_listened {s : State} (hm : s.member.state = .listening) (b : BeaconFields) (sender : Nat) :
    s.beaconSettled b sender false = (s.listened b).judge := by
  rw [beaconSettled_eq, if_neg (by rw [hm]; decide)]
  rfl

/-- Whether the join completes at this beacon (R68). -/
def joins (s : State) (b : BeaconFields) : Bool :=
  joinCompletes s.settings.lease (s.member.beaconsHeard + 1) (s.member.authHeard || b.authoritative) b.authoritative
    (tableDigest s.table) b.digest

/-- Whether the join restarts at a beacon that does not complete it (R70). -/
def joinIsOver (s : State) : Bool := decide (2 * s.settings.lease ≤ s.member.beaconsHeard + 1)

theorem listened_eq (s : State) (b : BeaconFields) : s.listened b =
    if s.joins b then ((s.beaconRenewed false).beaconAdopted b false).completeJoin
    else if s.joinIsOver then ((s.beaconRenewed false).beaconAdopted b false).restartJoin
    else (s.beaconRenewed false).beaconAdopted b false := by
  have hr := beaconRenewed_work s false
  have hjoin : (s.beaconRenewed false).joinsAt b false (tableDigest s.table) = s.joins b := by
    unfold joinsAt joins
    rw [hr.member, hr.settings, Bool.not_false, Bool.and_true]
    rfl
  have hover : (2 * (s.beaconRenewed false).settings.lease ≤ (s.beaconRenewed false).member.beaconsHeard + 1) ↔
      s.joinIsOver = true := by
    unfold joinIsOver
    rw [decide_eq_true_eq, hr.member, hr.settings]
    rfl
  unfold listened
  rw [beaconListening_eq, hjoin]
  simp only [hover]

theorem restartJoin_view (s : State) (n : ChannelIx) : s.restartJoin.view n = (s.view n).unheld := view_clearTable s n

/-- The join's end leaves a channel's part, the HOLD mark of its demand aside (R29, R69, R70). -/
theorem view_listened (s : State) (b : BeaconFields) (n : ChannelIx) :
    (s.listened b).view n = ((s.beaconRenewed false).beaconAdopted b false).view n ∨
      (s.listened b).view n = (((s.beaconRenewed false).beaconAdopted b false).view n).unheld := by
  rw [listened_eq]
  generalize (s.beaconRenewed false).beaconAdopted b false = a
  split
  · exact .inl rfl
  · split
    · exact .inr (restartJoin_view a n)
    · exact .inl rfl

/-- The restart's write of the membership controller (R70). -/
theorem restartJoin_parts (s : State) :
    s.restartJoin.table = [] ∧ s.restartJoin.settings = s.settings ∧ s.restartJoin.masks = s.masks ∧
      s.restartJoin.member =
        { s.member with beaconsHeard := 0, authHeard := false, joinRetries := s.member.joinRetries + 1 } ∧
      s.restartJoin.report = { s.report with faults := { s.report.faults with
        joinStalled := s.report.faults.joinStalled || decide (3 ≤ s.member.joinRetries + 1) } } ∧
      s.restartJoin.line.offers.renew = false ∧ s.restartJoin.line.offers.beacon = s.line.offers.beacon := by
  have hw := restartJoin_work s
  have hline : s.restartJoin.line = { s.line with offers := { s.line.offers with renew := false } } := by
    change s.clearTable.line = _
    exact congrArg (fun t : State => t.holdClear.line) (if_pos rfl)
  exact ⟨hw.table, hw.settings, hw.masks, hw.member, hw.report, by rw [hline], by rw [hline]⟩

end State

end Sys2Proof.Machine
end

section
/-! PROOFS. A BEACON applied in LISTENING, part by part; for O49. -/

namespace Sys2Proof.Machine

namespace State

/-- The station with the beacon counted and its mask taken, before the join's end. -/
def adopted (s : State) (b : BeaconFields) : State := (s.beaconRenewed false).beaconAdopted b false

theorem agedTable_of_not_synced {s : State} (hm : s.member.state = .listening) :
    s.agedTable = (liveRecords (ageTable s.table), none) := if_neg (by rw [hm]; decide)

theorem adopted_parts {s : State} (hm : s.member.state = .listening) (b : BeaconFields) :
    (s.adopted b).member = { s.member with
        epoch := b.epoch, beaconTimer := .counting 0, beaconsHeard := s.member.beaconsHeard + 1
        authHeard := s.member.authHeard || b.authoritative } ∧
      (s.adopted b).table = liveRecords (ageTable s.table) ∧ (s.adopted b).report = s.report ∧
      (s.adopted b).masks = s.adoptedMasks b ∧ (s.adopted b).settings = s.settings ∧
      (s.adopted b).RenewFollows s.line.offers.renew ∧ (s.adopted b).line.offers.beacon = false := by
  have hr := beaconRenewed_work s false
  have ha := beaconAdopted_work (s.beaconRenewed false) b false
  obtain ⟨hmasks, hreport⟩ := beaconAdopted_masks (s.beaconRenewed false) b
  obtain ⟨hrenew, hbeacon⟩ := beaconRenewed_offers s false
  have hoffers := beaconAdopted_offers (s.beaconRenewed false) b
  unfold OfferWork at hoffers
  unfold adopted
  generalize (s.beaconRenewed false).beaconAdopted b false = a at *
  refine ⟨?_, ?_, hreport.trans hr.report, ?_, ha.settings.trans hr.settings,
    hrenew.of_eq ha.table ha.settings (by rw [hoffers]), by rw [hoffers]; exact hbeacon⟩
  · rw [ha.member, Bool.not_false, Bool.and_true]
    rw [State.setMember_member, hr.member]
    rfl
  · refine ha.table.trans (hr.table.trans ?_)
    change s.agedTable.1 = _
    rw [agedTable_of_not_synced hm]
  · rw [hmasks]
    unfold adoptedMasks
    rw [hr.masks]
    rfl

theorem listened_cases (s : State) (b : BeaconFields) :
    (s.joins b = true → s.listened b = (s.adopted b).completeJoin) ∧
      (s.joins b = false → s.joinIsOver = true → s.listened b = (s.adopted b).restartJoin) ∧
      (s.joins b = false → s.joinIsOver = false → s.listened b = s.adopted b) := by
  rw [listened_eq]
  unfold adopted
  exact ⟨fun h => by rw [h]; rfl, fun h k => by rw [h, k]; rfl, fun h k => by rw [h, k]; rfl⟩

/-- The membership controller, the table and the faults after a beacon in LISTENING (R67 to R70). -/
theorem listened_member {s u : State} (hm : s.member.state = .listening) (b : BeaconFields)
    (hu : u = (s.listened b).judge) :
    (s.joins b = true →
      u.member = { s.member with
          state := .synced, epoch := b.epoch, beaconTimer := .counting 0, witness := none
          beaconsHeard := s.member.beaconsHeard + 1, authHeard := s.member.authHeard || b.authoritative
          joinRetries := 0 } ∧
        u.table = liveRecords (ageTable s.table) ∧
        u.report = { s.report with faults := { s.report.faults with joinStalled := false } }) ∧
    (s.joins b = false → s.joinIsOver = true →
      u.member = { s.member with
          epoch := b.epoch, beaconTimer := .counting 0, beaconsHeard := 0, authHeard := false
          joinRetries := s.member.joinRetries + 1 } ∧
        u.table = [] ∧
        u.report = { s.report with faults := { s.report.faults with
          joinStalled := s.report.faults.joinStalled || decide (3 ≤ s.member.joinRetries + 1) } }) ∧
    (s.joins b = false → s.joinIsOver = false →
      u.member = { s.member with
          epoch := b.epoch, beaconTimer := .counting 0, beaconsHeard := s.member.beaconsHeard + 1
          authHeard := s.member.authHeard || b.authoritative } ∧
        u.table = liveRecords (ageTable s.table) ∧ u.report = s.report) := by
  have hj := judge_work (s.listened b)
  rw [← hu] at hj
  obtain ⟨hmember, htable, hreport, -⟩ := adopted_parts hm b
  obtain ⟨h1, h2, h3⟩ := listened_cases s b
  rw [hj.member, hj.table, hj.report]
  generalize s.adopted b = a at *
  refine ⟨fun h => ?_, fun h k => ?_, fun h k => ?_⟩
  · rw [h1 h]
    change { a.member with state := .synced, witness := none, joinRetries := 0 } = _ ∧ a.table = _ ∧
      { a.report with faults := { a.report.faults with joinStalled := false } } = _
    rw [hmember, htable, hreport]
    exact ⟨rfl, rfl, rfl⟩
  · obtain ⟨r1, -, -, r2, r3, -⟩ := restartJoin_parts a
    rw [h2 h k, r1, r2, r3, hmember, hreport]
    exact ⟨rfl, rfl, rfl⟩
  · rw [h3 h k, hmember, htable, hreport]
    exact ⟨rfl, rfl, rfl⟩

/-- The masks and the offers after a beacon in LISTENING (R57, R68, R71). -/
theorem listened_offers {s u : State} (hm : s.member.state = .listening) (b : BeaconFields)
    (hu : u = (s.listened b).judge) :
    u.masks = s.adoptedMasks b ∧ u.settings = s.settings ∧ u.RenewFollows s.line.offers.renew ∧
      u.line.offers.beacon = false := by
  have hj := judge_work (s.listened b)
  have ho := judge_offers (s.listened b)
  unfold OfferWork at ho
  rw [← hu] at hj ho
  obtain ⟨-, -, -, hmasks, hset, hrenew, hbeacon⟩ := adopted_parts hm b
  have key : (s.listened b).masks = s.adoptedMasks b ∧ (s.listened b).settings = s.settings ∧
      (s.listened b).RenewFollows s.line.offers.renew ∧ (s.listened b).line.offers.beacon = false := by
    obtain ⟨h1, h2, h3⟩ := listened_cases s b
    generalize s.adopted b = a at *
    cases hjoin : s.joins b with
    | true =>
      rw [h1 hjoin]
      exact ⟨hmasks, hset, hrenew.of_eq rfl rfl rfl, hbeacon⟩
    | false =>
      cases hover : s.joinIsOver with
      | true =>
        obtain ⟨r1, r2, r3, -, -, r4, r5⟩ := restartJoin_parts a
        rw [h2 hjoin hover]
        exact ⟨r3.trans hmasks, r2.trans hset, .cleared r1 r4, r5.trans hbeacon⟩
      | false =>
        rw [h3 hjoin hover]
        exact ⟨hmasks, hset, hrenew, hbeacon⟩
  obtain ⟨k1, k2, k3, k4⟩ := key
  exact ⟨hj.masks.trans k1, hj.settings.trans k2, k3.of_eq hj.table hj.settings (by rw [ho]), by rw [ho]; exact k4⟩

/-! ## The own channels -/

section
variable {s : State} {b : BeaconFields} {n : ChannelIx}

theorem view_renewed (hm : s.member.state = .listening) : (s.beaconRenewed false).view n = s.aged.view n := by
  rw [view_beaconRenewed, beaconTable_eq, agedTable_of_not_synced hm]
  rfl

theorem renewed_inhibited (s : State) (n : ChannelIx) : (s.beaconRenewed false).inhibited n = s.inhibited n :=
  (beaconRenewed_work s false).inhibited n

theorem renewed_exempt (s : State) (n : ChannelIx) : (s.beaconRenewed false).exempt n = s.exempt n :=
  (beaconRenewed_work s false).exempt n

theorem judge_listened_inhibited (hm : s.member.state = .listening) :
    (s.listened b).judge.inhibited n = (s.adopted b).inhibited n := by
  obtain ⟨h1, h2, -⟩ := listened_offers hm b rfl
  obtain ⟨-, -, -, h3, h4, -⟩ := adopted_parts hm b
  exact inhibited_congr (h1.trans h3.symm) (h2.trans h4.symm) n

theorem channel_listened (s : State) (b : BeaconFields) (n : ChannelIx) :
    (s.listened b).channel n = (s.adopted b).channel n ∧
      (s.listened b).line.offers.releases[n] = (s.adopted b).line.offers.releases[n] := by
  rcases view_listened s b n with h | h <;> exact ⟨congrArg ChannelView.channel h, congrArg ChannelView.release h⟩

/-- A channel whose record stands and which the mask does not stop stands, unless it is OFF. -/
theorem listened_stands (hm : s.member.state = .listening) (hg : ¬ (s.expires n ∧ s.exempt n = false))
    (hi : s.inhibited n = true ∨ (s.listened b).judge.inhibited n = false) (hn : s.channelState n ≠ .off) :
    (s.listened b).judge.channel n = s.channel n := by
  rw [judge_listened_inhibited hm] at hi
  have hc := (channel_aged hg).1
  have hr : (s.beaconRenewed false).channel n = s.channel n := (channel_of_view (view_renewed hm)).trans hc
  have ha : (s.adopted b).channel n = s.channel n := by
    refine (channel_of_view (view_adopted_stands ?_ ?_)).trans hr
    · rw [renewed_inhibited]
      exact hi
    · rw [channelState, hr]
      exact hn
  have hl := (channel_listened s b n).1.trans ha
  rw [channel_of_view (view_judge_of_ne_off (by rw [channelState, hl]; exact hn)), hl]

end

end State

end Sys2Proof.Machine
end

section
/-! PROOFS. The own channels at a BEACON in LISTENING, by their states; settles O49. -/

namespace Sys2Proof.Machine

namespace State

section
variable {s : State} {b : BeaconFields} {n : ChannelIx}

theorem listened_exempt (s : State) (b : BeaconFields) (n : ChannelIx) : (s.listened b).exempt n = s.exempt n := by
  have hr := (beaconRenewed_work s false).settings
  have ha := (beaconAdopted_work (s.beaconRenewed false) b false).settings
  refine exempt_of_settings ?_ n
  rw [listened_eq]
  generalize (s.beaconRenewed false).beaconAdopted b false = a at *
  split
  · exact ha.trans hr
  · split
    · exact (restartJoin_parts a).2.1.trans (ha.trans hr)
    · exact ha.trans hr

theorem listened_queueCore (h : s.QueueCore) (hl : s.drivesLine = false) (ho : s.member.state.online = true)
    (b : BeaconFields) : (s.listened b).QueueCore :=
  queueCore_effects.beaconListening b false _ (queueCore_effects.beaconRenewed false hl ho h)

/-- A budgeted channel that is OFF or STOPPING once its record has been dealt with is left until the judgement. -/
theorem view_listened_rests (hm : s.member.state = .listening) (hx : s.exempt n = false)
    (h : (s.aged.view n).channel.state = .off ∨ (s.aged.view n).channel.state = .stopping) :
    (s.listened b).view n = s.aged.view n ∨ (s.listened b).view n = (s.aged.view n).unheld := by
  have hr := view_renewed (n := n) hm
  have ha := view_adopted_rests (s := s.beaconRenewed false) (b := b) (n := n) (by rw [renewed_exempt]; exact hx)
    (by rw [(beaconRenewed_work s false).member]; exact fun hs => nomatch hm.symm.trans hs) (by rw [← hr] at h; exact h)
  have hl := view_listened s b n
  rw [ha, hr] at hl
  exact hl

/-- A STOPPING channel whose record expires leaves STOPPING (R86). -/
theorem listened_expired (core : s.QueueCore) (hl : s.drivesLine = false) (hm : s.member.state = .listening)
    (hg : s.expires n) (hx : s.exempt n = false) (hs : s.channelState n = .stopping) :
    ((s.listened b).judge.channelState n = .off ∨ (s.listened b).judge.channelState n = .claiming) ∧
      ((s.listened b).judge.channel n).rest = (s.channel n).rest ∧
      (s.listened b).judge.line.offers.releases[n] = false := by
  have hb := aged_stopping hg hx hs
  have hcore := listened_queueCore core hl (by rw [hm]; rfl) b
  have hview := view_listened_rests (b := b) hm hx (.inl (by rw [hb]; rfl))
  have hc : (s.listened b).channel n = { s.channel n with state := .off } := by
    rcases hview with h | h <;> rw [hb] at h <;> exact congrArg ChannelView.channel h
  have hrel : (s.listened b).line.offers.releases[n] = false := by
    rcases hview with h | h <;> rw [hb] at h <;> exact congrArg ChannelView.release h
  rw [judge_releases, hrel]
  unfold channelState
  rcases judge_takesUp hcore.unit.channels (by rw [listened_exempt]; exact hx) with hv | ⟨e, -, -, hclaim, -⟩
  · rw [channel_of_view hv, hc]
    exact ⟨.inl rfl, rfl, rfl⟩
  · rw [hclaim, hc]
    exact ⟨.inr rfl, rfl, rfl⟩

/-- A channel that the beacon's mask stops keeps what its turn left of it, its demand never held. -/
theorem view_listened_stopped {v : ChannelView} {d : Demand}
    (hi : (s.listened b).judge.inhibited n = true) (ha : (s.adopted b).view n = v.requeued d) (he : v.entry = none) :
    (s.listened b).judge.view n = v.requeued d := by
  have hl : (s.listened b).view n = v.requeued d := by
    rcases view_listened s b n with h | h
    · exact h.trans ha
    · exact h.trans ((congrArg ChannelView.unheld ha).trans (ChannelView.unheld_requeued he d))
  rw [view_judge_of_not_ready, hl]
  rw [Bool.eq_false_iff]
  intro hr
  have hready := ((ready_iff _ n).1 hr).2.1
  rw [← (judge_work (s.listened b)).inhibited, hi] at hready
  cases hready

theorem view_listened_on {d : Demand} (core : s.QueueCore) (hm : s.member.state = .listening)
    (hg : ¬ (s.expires n ∧ s.exempt n = false)) (h1 : s.inhibited n = false)
    (h2 : (s.listened b).judge.inhibited n = true) (hs : s.channelState n = .switchedOn d) :
    (s.listened b).judge.view n = ((s.view n).off (s.exempt n) (s.channelSettings n).rest).requeued d := by
  have he := core.entry_of_on hs
  have hv := (view_renewed hm).trans (view_aged_of_no_entry he hg)
  have hset : (s.beaconRenewed false).channelSettings n = s.channelSettings n := by
    unfold channelSettings
    rw [(beaconRenewed_work s false).settings]
    rfl
  have ha := view_adopted_on (s := s.beaconRenewed false) (b := b) (n := n) (by rw [renewed_inhibited]; exact h1)
    ((judge_listened_inhibited hm).symm.trans h2) ((channelState_of_view hv).trans hs)
  rw [hv, renewed_exempt, hset] at ha
  exact view_listened_stopped h2 ha ((ChannelView.entry_off _ _ _).trans (entryOf_eq_none_iff.1 he))

theorem view_listened_pending {d : Demand} (core : s.QueueCore) (hm : s.member.state = .listening)
    (hg : ¬ (s.expires n ∧ s.exempt n = false)) (h1 : s.inhibited n = false)
    (h2 : (s.listened b).judge.inhibited n = true) (hs : s.channelState n = .pending d) :
    (s.listened b).judge.view n = (s.view n).stop.requeued d := by
  have he := core.entry_of_pending hs
  have hv := (view_renewed hm).trans (view_aged_of_no_entry he hg)
  have ha := view_adopted_pending (s := s.beaconRenewed false) (b := b) (n := n) (by rw [renewed_inhibited]; exact h1)
    ((judge_listened_inhibited hm).symm.trans h2) ((channelState_of_view hv).trans hs)
  rw [hv] at ha
  exact view_listened_stopped h2 ha (entryOf_eq_none_iff.1 he)

/-- The expiry of its record leaves the demand of a channel that is OFF or STOPPING (R86, R87). -/
theorem aged_rests (hx : s.exempt n = false) (h : s.channelState n = .off ∨ s.channelState n = .stopping) :
    ((s.aged.view n).channel.state = .off ∨ (s.aged.view n).channel.state = .stopping) ∧
      (s.aged.view n).entry.map (fun e => (e.1, e.2.1)) = (s.view n).entry.map fun e => (e.1, e.2.1) := by
  by_cases hg : s.expires n ∧ s.exempt n = false
  · rcases h with hs | hs
    · rcases view_aged_of_rest (.inl hs) with hv | hv <;> rw [hv]
      · exact ⟨.inl hs, rfl⟩
      · exact ⟨.inl hs, ChannelView.terms_unheld _⟩
    · rw [aged_stopping hg.1 hx hs]
      exact ⟨.inl rfl, ChannelView.terms_unheld ((s.view n).become .off)⟩
  · rcases view_aged hg with hv | hv <;> rw [hv]
    · exact ⟨h, rfl⟩
    · exact ⟨h, ChannelView.terms_unheld _⟩

/-- The demand of a channel that is OFF or STOPPING waits on, or is claimed (R36, R45). -/
theorem listened_entry (core : s.QueueCore) (hl : s.drivesLine = false) (hm : s.member.state = .listening)
    (hx : s.exempt n = false) (h : s.channelState n = .off ∨ s.channelState n = .stopping) {e : Entry}
    (he : s.entryOf n = some e) :
    (∃ e', (s.listened b).judge.entryOf n = some e' ∧ e'.cls = e.cls ∧ e'.allowance = e.allowance) ∨
      (s.listened b).judge.claimsAfresh n { cls := e.cls, allowance := e.allowance } := by
  obtain ⟨hrest, hterms⟩ := aged_rests hx h
  have hcore := listened_queueCore core hl (by rw [hm]; rfl) b
  have hlist : ((s.listened b).entryOf n).map (fun e => (e.cls, e.allowance)) = some (e.cls, e.allowance) := by
    rw [terms_entryOf]
    refine Eq.trans ?_ (hterms.trans ((terms_entryOf s n).symm.trans (by rw [he]; rfl)))
    rcases view_listened_rests (b := b) hm hx hrest with hv | hv <;> rw [hv]
    exact ChannelView.terms_unheld _
  rcases judge_takesUp hcore.unit.channels (by rw [listened_exempt]; exact hx) with hv | ⟨e', he', -, -, hclaim⟩
  · left
    rw [terms_entryOf, ← hv, ← terms_entryOf] at hlist
    obtain ⟨e', he', hc⟩ := Option.map_eq_some_iff.1 hlist
    simp only [Prod.mk.injEq] at hc
    exact ⟨e', he', hc.1, hc.2⟩
  · right
    rw [he'] at hlist
    have hc : (e'.cls, e'.allowance) = (e.cls, e.allowance) := Option.some.inj hlist
    simp only [Prod.mk.injEq] at hc
    rw [hc.1, hc.2] at hclaim
    exact hclaim

/-- An expiry or a restart leaves no HOLD mark (R11, R21, R29, R70). -/
theorem listened_holds (h : expiredRecords (ageTable s.table) ≠ [] ∨ (s.joins b = false ∧ s.joinIsOver = true)) :
    (s.listened b).judge.holdsClear := by
  refine holdsClear.judge ?_
  have hrestart : ∀ a : State, a.restartJoin.holdsClear := fun a e he => by
    change e ∈ a.clearTable.claims.queue at he
    rw [clearTable_claims] at he
    exact mem_clearHolds he
  obtain ⟨h1, h2, h3⟩ := listened_cases s b
  rcases h with h | ⟨hj, ho⟩
  · have ha : (s.adopted b).holdsClear := by
      refine holdsClear.adopted ?_ b
      unfold holdsClear
      rw [claims_beaconRenewed]
      exact aged_holds h
    generalize s.adopted b = a at *
    cases hj : s.joins b with
    | true =>
      rw [h1 hj]
      exact ha
    | false =>
      cases ho : s.joinIsOver with
      | true =>
        rw [h2 hj ho]
        exact hrestart a
      | false =>
        rw [h3 hj ho]
        exact ha
  · rw [h2 hj ho]
    exact hrestart _

end

/-- The join completes as R68 says. -/
theorem joins_iff {s : State} {b : BeaconFields} : s.joins b = true ↔
    s.settings.lease ≤ s.member.beaconsHeard + 1 ∧
      ((b.authoritative = true ∧ tableDigest s.table = b.digest ∧ b.digest.shedding = 0 ∧ b.digest.pending = false) ∨
        (¬ (b.authoritative = true ∨ s.member.authHeard = true) ∧ s.member.beaconsHeard + 1 = s.settings.lease)) := by
  unfold joins joinCompletes
  cases b.authoritative <;> cases s.member.authHeard <;> simp [and_assoc]

end State

end Sys2Proof.Machine
end

section
/-! PROOFS. The assembly of O49. -/

namespace Sys2Proof.Machine

/-- What a beacon in LISTENING reaches, before the calendar's part (R60). -/
theorem listening_reaches {s x u : State} (h : BeaconWork x u) (hx : x = { s with line := x.line })
    (hr : u.report = { s.report with faults := { s.report.faults with joinStalled := u.report.faults.joinStalled } })
    (hm : u.masks = { s.masks with line := u.masks.line }) :
    u = { s with
      table := u.table, claims := u.claims, member := u.member, channels := u.channels
      masks := { s.masks with line := u.masks.line }, line := u.line
      report := { s.report with faults := { s.report.faults with joinStalled := u.report.faults.joinStalled } } } := by
  rw [← hr, ← hm]
  exact h.reaches hx

/-- Settles O49: the judgement of the listening station, then the calendar's part. -/
theorem beaconInListeningJoins : Obligations.BeaconInListeningJoins := by
  intro head p s f b heard auth aged expired completes hh hp hm
  have hexec := exec_beaconAccepted_hears hh hp
  have hwork := beaconSettled_work (s.lineAccepted f) b head.source.toNat false
  have hsound := fun hinv => inhibitsSound_effects.beaconSettled (s := s.lineAccepted f) b head.source.toNat false rfl
    (by rw [show (s.lineAccepted f).member.state = _ from hm]; rfl) hinv
  rw [State.beaconSettled_listened (s := s.lineAccepted f) hm] at hexec hwork hsound
  have hcompletes : completes ↔ (s.lineAccepted f).joins b = true := State.joins_iff.symm
  have hover : (s.lineAccepted f).joinIsOver = true ↔ 2 * s.settings.lease ≤ heard := decide_eq_true_iff
  obtain ⟨hjoined, hrestarted, hgoes⟩ := State.listened_member (s := s.lineAccepted f) hm b rfl
  obtain ⟨hmasks, hset, hrenew, hbeacon⟩ := State.listened_offers (s := s.lineAccepted f) hm b rfl
  have hholds := State.listened_holds (s := s.lineAccepted f) (b := b)
  have hstands := fun n => State.listened_stands (s := s.lineAccepted f) (b := b) (n := n) hm
  have hexpired := fun core n => State.listened_expired (s := s.lineAccepted f) (b := b) (n := n) core rfl hm
  have hon := fun core n d => State.view_listened_on (s := s.lineAccepted f) (b := b) (n := n) (d := d) core hm
  have hpending := fun core n d => State.view_listened_pending (s := s.lineAccepted f) (b := b) (n := n) (d := d) core hm
  have hentry := fun core n hx h e => State.listened_entry (s := s.lineAccepted f) (b := b) (n := n) (e := e) core rfl hm hx h
  generalize ((s.lineAccepted f).listened b).judge = u at *
  change exec _ _ = .next (u.timed b) at hexec
  have hframe := timed_frame u b
  have hadj := timed_adjusted u b
  have htoff := timed_off (u := u) (b := b)
  have hton := timed_on (u := u) (b := b) (t := u.timed b) rfl
  generalize u.timed b = t at *
  obtain ⟨htable, hmember, hreach⟩ := beacon_reaches (s := s) (hwork.reaches rfl) hframe
  have hparts : u.member.epoch = b.epoch ∧ u.member.beaconTimer = .counting 0 ∧
      u.report = { s.report with faults := { s.report.faults with joinStalled := u.report.faults.joinStalled } } := by
    cases hj : (s.lineAccepted f).joins b with
    | true =>
      obtain ⟨h1, -, h2⟩ := hjoined hj
      rw [h1, h2]
      exact ⟨rfl, rfl, rfl⟩
    | false =>
      cases ho : (s.lineAccepted f).joinIsOver with
      | true =>
        obtain ⟨h1, -, h2⟩ := hrestarted hj ho
        rw [h1, h2]
        exact ⟨rfl, rfl, rfl⟩
      | false =>
        obtain ⟨h1, -, h2⟩ := hgoes hj ho
        rw [h1, h2]
        exact ⟨rfl, rfl, rfl⟩
  have hline : u.masks = { s.masks with line := u.masks.line } ∧
      u.masks.line = if b.authoritative then b.mask else s.masks.line := by
    rw [hmasks]
    unfold State.adoptedMasks
    split <;> exact ⟨rfl, rfl⟩
  have hnot : ¬ completes → (s.lineAccepted f).joins b = false := fun h => Bool.eq_false_iff.2 fun hj => h (hcompletes.2 hj)
  obtain ⟨hdue, hidle, hkeep⟩ := hrenew
  have hcore : s.queueInv → (s.lineAccepted f).QueueCore := fun hq => { ((queueInv_iff s).1 hq).toQueueCore with }
  have hgone : ∀ n, ¬ expired n → ¬ ((s.lineAccepted f).expires n ∧ (s.lineAccepted f).exempt n = false) :=
    fun n hg ⟨⟨r, hr, ho, hc⟩, hx⟩ => hg ⟨r, hr, ho, hc, hx⟩
  have hid : u.ownId = s.ownId := congrArg Settings.stationId hset
  rw [hid, hset] at hdue hkeep
  rw [hid] at hidle
  refine ⟨t, u, hexec, by rw [hmember, hparts.1], by rw [hmember, hparts.2.1], ?_, hadj.mask.trans hline.2, hreach,
    fun hc => ?_, fun hc ho => ?_, fun hc ho => ?_, ?_, fun h => ?_, fun n hg hi hn => ?_, fun hinv n hi => ?_,
    fun hq ho n => ⟨fun hg hs => ?_, fun d hg h1 h2 hs => ?_, fun d hg h1 h2 hs => ?_, fun hx hs e he => ?_⟩,
    hdue, hidle, hkeep, fun h => htoff h, fun hv hr _ => ?_⟩
  · have h := hadj.offers
    unfold OfferWork at h
    rw [h]
    exact hbeacon
  · obtain ⟨h1, h2, h3⟩ := hjoined (hcompletes.1 hc)
    rw [hmember, htable, hadj.stalled, h1, h2, h3]
    exact ⟨rfl, rfl, rfl, rfl, rfl⟩
  · obtain ⟨h1, h2, h3⟩ := hrestarted (hnot hc) (hover.2 ho)
    rw [hmember, htable, hadj.stalled, h1, h2, h3]
    exact ⟨hm, rfl, rfl, rfl, rfl, by rw [Bool.or_eq_true, decide_eq_true_iff]; rfl⟩
  · obtain ⟨h1, h2, h3⟩ := hgoes (hnot hc) (Bool.eq_false_iff.2 fun h => Nat.not_le.2 ho (hover.1 h))
    rw [hmember, htable, hadj.stalled, h1, h2, h3]
    exact ⟨hm, rfl, rfl, by rw [Bool.or_eq_true]; exact or_comm, rfl, rfl⟩
  · rw [htable, hmember, hadj.mask, hadj.stalled]
    exact listening_reaches hwork rfl hparts.2.2 hline.1
  · exact hholds (h.imp_right fun h => ⟨hnot h.1, hover.2 h.2⟩)
  · exact hstands n (hgone n hg) hi hn
  · exact hsound ((inhibitInv_iff s).1 hinv).quiet n hi
  · obtain ⟨r, hr, hown, hc, hx⟩ := hg
    exact hexpired (hcore hq) n ⟨r, hr, hown, hc⟩ hx hs
  · obtain ⟨k1, k2, k3, k4, -⟩ := State.off_requeued (hon (hcore hq) n d (hgone n hg) h1 h2 hs)
    refine ⟨k3, fun hx => ?_, fun hx => ?_, k4 (State.entryOf_eq_none_iff.1 ((hcore hq).entry_of_on hs))⟩
    · rw [show (s.lineAccepted f).exempt n = false from hx] at k1 k2
      exact ⟨k1, k2⟩
    · rw [show (s.lineAccepted f).exempt n = true from hx] at k1
      exact k1
  · obtain ⟨k1, k2, k3⟩ := State.stop_requeued (hpending (hcore hq) n d (hgone n hg) h1 h2 hs)
    exact ⟨k1, k2, k3 (State.entryOf_eq_none_iff.1 ((hcore hq).entry_of_pending hs))⟩
  · exact hentry (hcore hq) n hx hs e he
  · have h := hton hv hr
    rw [hwork.frame.2.2.1] at h
    exact h

end Sys2Proof.Machine
end
